-- ==== Sys2Proof/Word.lean ====
section
/-! DEFINITION. The word types of the link frames and the ranges of the numbers that name things
(spec 00, Conventions, 0-8). -/

namespace Sys2Proof

/-- One byte of a frame (10 R173). -/
abbrev Byte := BitVec 8

/-- A two-byte field of a frame, most significant byte first (10 R173). -/
abbrev Word16 := BitVec 16

/-- A four-byte field of a frame, most significant byte first (10 R173). -/
abbrev Word32 := BitVec 32

/-- Loaders 0 to 31 (00 0-8). -/
abbrev LoaderId := Fin 32

/-- Operator chairs 0 to 11 (00 0-8). -/
abbrev ChairId := Fin 12

/-- The slots 0 to 3 of a chair (00 0-8). -/
abbrev SlotId := Fin 4

/-- Zones 0 to 255 (00 0-8). -/
abbrev ZoneId := Fin 256

/-- Production levels 0 to 7 (00 0-8). -/
abbrev LevelId := Fin 8

/-- Handover contexts 0 to 7 (00 0-8). -/
abbrev CtxId := Fin 8

/-- Closure contexts 0 to 3 (00 0-8). -/
abbrev ClosureId := Fin 4

/-- Entries 0 to 39 of the Watch Table's pinned part (00 0-8). -/
abbrev PinnedId := Fin 40

/-- Sets 0 to 63 of the Watch Table's open part (00 0-8). -/
abbrev SetId := Fin 64

end Sys2Proof
end

