-- ==== Sys2Proof/Syntax.lean ====
section
/-! DEFINITION. The commands: one constructor of `Instr` for each row of spec/opcode_table.json.
Requests carry the payload bytes of 10 R174 as they are sent, so that a code or a number with no
meaning can be sent and is refused by the meaning, not by the syntax. -/

namespace Sys2Proof

/-- Who sent a request, and with what panel byte: a chair's frames carry one, the supervisor's do
not (08 R146). -/
inductive Sender where
  | chair (c : ChairId) (panel : Byte)
  | supervisor
  deriving DecidableEq, Repr

/-- What a request carries whatever its kind: its sender and its tag (10 R172). -/
structure Header where
  sender : Sender
  tag : Byte
  deriving DecidableEq, Repr

/-- A link that carries frames toward the switch (08 R146). -/
inductive Link where
  | chair (c : ChairId)
  | supervisor
  | fleet
  deriving DecidableEq, Repr

/-- A link that has a delivery queue (07 7-5). -/
inductive Port where
  | chair (c : ChairId)
  | supervisor
  deriving DecidableEq, Repr

/-- The payload of a drive frame (05 5-1, 10 R174). -/
structure DriveFields where
  slot : Byte
  epoch : Word16
  count : Byte
  speed : Byte
  steer : Byte
  boom : Byte
  bucket : Byte
  horn : Byte
  deriving DecidableEq, Repr

/-- The payload of a STATUS report (10 R174). -/
structure StatusFields where
  address : Word16
  count : Byte
  zone : Byte
  chainage : Word16
  front : Byte
  speed : Byte
  stationary : Byte
  onboard : Byte
  mission : Byte
  deriving DecidableEq, Repr

/-- The commands of the switch, in the order of the opcode table. -/
inductive Instr where
  | ping (h : Header)
  | claim (h : Header) (loader slot mode : Byte)
  | reclaim (h : Header) (loader slot mode : Byte)
  | release (h : Header) (loader : Byte)
  /-- A MODE request whose mode byte is that of supervised, 1. -/
  | modeToSupervised (h : Header) (loader : Byte)
  /-- A MODE request with any other mode byte: 0 is manual, the rest have no meaning (log 8). -/
  | modeToManual (h : Header) (loader mode : Byte)
  | mission (h : Header) (loader route : Byte)
  | offer (h : Header) (loader taking target : Byte)
  | request (h : Header) (loader slot target : Byte)
  | force (h : Header) (loader taking slot target : Byte)
  | accept (h : Header) (loader context slot : Byte)
  | yield (h : Header) (loader context : Byte)
  | decline (h : Header) (loader context : Byte)
  | refuse (h : Header) (loader context : Byte)
  | confirm (h : Header) (loader context : Byte)
  | cancel (h : Header) (loader context : Byte)
  | suspend (h : Header) (loader context : Byte)
  | resume (h : Header) (loader context : Byte)
  | watch (h : Header) (loader : Byte)
  | unwatch (h : Header) (loader : Byte)
  | enrol (h : Header) (loader : Byte) (address : Word16)
  | retire (h : Header) (loader : Byte)
  | fixPosition (h : Header) (loader zone : Byte) (chainage : Word16) (front : Byte)
  | freePosition (h : Header) (loader : Byte)
  | setZone (h : Header) (zone cls openLength measuredFrom cap : Byte)
  | closeZone (h : Header) (zone : Byte) (time : Word16)
  | cancelClosure (h : Header) (zone : Byte)
  | park (h : Header) (loader : Byte)
  | isolate (h : Header) (loader : Byte)
  | restore (h : Header) (loader : Byte)
  | setClearance (h : Header) (chair levels : Byte)
  | withdraw (h : Header) (scope number filter : Byte)
  | setParam (h : Header) (code : Byte) (value : Word16)
  | watchAll (h : Header) (setting : Byte)
  | restart (h : Header)
  | queryLoader (h : Header) (loader : Byte)
  | queryChair (h : Header) (chair : Byte)
  | queryZone (h : Header) (zone : Byte)
  | queryHandover (h : Header) (context : Byte)
  | queryParam (h : Header) (code : Byte)
  | driveFrame (c : ChairId) (panel tag : Byte) (f : DriveFields)
  | statusReport (tag : Byte) (f : StatusFields)
  | badFrame (link : Link)
  | lostLinkFrame (c : ChairId) (panel : Byte)
  | silenceTimerExpiry (l : LoaderId)
  | lapseTimerExpiry (l : LoaderId)
  | holdRefreshExpiry (l : LoaderId)
  | orphanGraceExpiry (l : LoaderId)
  | answerTimerExpiry (k : CtxId)
  | settleTimerExpiry (k : CtxId)
  | confirmTimerExpiry (k : CtxId)
  | watchdogExpiry (k : CtxId)
  | closureTimerExpiry (k : ClosureId)
  | linkSilenceExpiry (c : ChairId)
  | secondsCounterTick
  | stopAllAssertion
  | stopAllRelease
  | barrierBreach (level : LevelId)
  | barrierRelease (level : LevelId)
  | resetAssertion
  | resetRelease
  | powerOn
  | deliveryQueueTransmit (port : Port)
  | orderLineTransmit
  deriving DecidableEq, Repr

end Sys2Proof
end

