-- ==== Sys2Proof/WellFormed.lean ====
section
/-! DEFINITION. Which terms of `Instr` stand for a command of the table. The ranges of chair,
loader, context and level numbers are carried by the types; every payload byte can be sent. The one
check left is the split of the MODE request into two rows (log 8). -/

namespace Sys2Proof

/-- A MODE whose byte is that of supervised is the row MODE_TO_SUPERVISED, never MODE_TO_MANUAL. -/
def Instr.wellFormed : Instr → Bool
  | .modeToManual _ _ mode => mode != 1
  | _ => true

end Sys2Proof
end

