-- ==== Sys2Proof/Decode.lean ====
section
/-! DEFINITION. From bits to commands. The opcode table gives no row any bits, so `decodeTableWord`
reads a command from no word. What the links carry are frames of bytes (08 R146, R147; 10 R172 to
R174): a receiver assembles them, a whole frame is read as a command or is bad, and an encoder
writes the frame of a command. -/

namespace Sys2Proof

/-- The command that a word spells by the bits of the opcode table. No row of the table gives any
bit, so that no word spells a command (log 31). -/
def decodeTableWord (_nbits _w : Nat) : Option Instr := none

/-! ## The check of a frame (08 R147) -/

/-- The polynomial x^16 + x^12 + x^5 + 1 without its highest place. -/
def checkPolynomial : Word16 := 0x1021

/-- The remainder takes one bit. -/
def checkBit (r : Word16) (b : Bool) : Word16 :=
  if r.msb != b then (r <<< 1) ^^^ checkPolynomial else r <<< 1

/-- The remainder takes one byte, its most significant bit first. -/
def checkByte (r : Word16) (b : Byte) : Word16 :=
  [7, 6, 5, 4, 3, 2, 1, 0].foldl (fun r i => checkBit r (b.getLsbD i)) r

/-- The check value of the bytes from the Length through the last payload byte. -/
def checkOf (bytes : List Byte) : Word16 := bytes.foldl checkByte 0xFFFF

/-! ## Multi-byte fields (10 R173: most significant byte first) -/

/-- The more significant byte of a two-byte field. -/
def highByte (w : Word16) : Byte := w.extractLsb' 8 8

/-- The less significant byte of a two-byte field. -/
def lowByte (w : Word16) : Byte := w.extractLsb' 0 8

/-- The two bytes of a field. -/
def bytes16 (w : Word16) : List Byte := [highByte w, lowByte w]

/-- The field that two bytes carry. -/
def word16 (high low : Byte) : Word16 := high ++ low

/-! ## The common frame (10 R172) -/

/-- The start byte. -/
def startByte : Byte := 0xA5

/-- The bytes of a frame from its Length through its last payload byte. The content is what stands
after the Kind and the Tag: a panel byte, where there is one, and the payload. -/
def checkedPart (kind tag : Byte) (content : List Byte) : List Byte :=
  BitVec.ofNat 8 (2 + content.length) :: kind :: tag :: content

/-- A whole frame with its check. -/
def frameBytes (kind tag : Byte) (content : List Byte) : List Byte :=
  startByte :: (checkedPart kind tag content ++ bytes16 (checkOf (checkedPart kind tag content)))

/-! ## Reading a whole frame (08 R146, R147; 10 R174) -/

/-- A payload of one byte. -/
def payload1 (p : List Byte) (f : Byte → Instr) : Option Instr :=
  match p with
  | [a] => some (f a)
  | _ => none

/-- A payload of two bytes. -/
def payload2 (p : List Byte) (f : Byte → Byte → Instr) : Option Instr :=
  match p with
  | [a, b] => some (f a b)
  | _ => none

/-- A payload of three bytes. -/
def payload3 (p : List Byte) (f : Byte → Byte → Byte → Instr) : Option Instr :=
  match p with
  | [a, b, c] => some (f a b c)
  | _ => none

/-- A payload of four bytes. -/
def payload4 (p : List Byte) (f : Byte → Byte → Byte → Byte → Instr) : Option Instr :=
  match p with
  | [a, b, c, d] => some (f a b c d)
  | _ => none

/-- A payload of five bytes. -/
def payload5 (p : List Byte) (f : Byte → Byte → Byte → Byte → Byte → Instr) : Option Instr :=
  match p with
  | [a, b, c, d, e] => some (f a b c d e)
  | _ => none

/-- The request of a kind with a payload; none where the kind is no request or the payload has not
the size that the kind requires (10 R174). -/
def requestOf (h : Header) (kind : Byte) (p : List Byte) : Option Instr :=
  match kind.toNat with
  | 0x01 => if p.isEmpty then some (.ping h) else none
  | 0x02 => payload3 p (.claim h)
  | 0x03 => payload3 p (.reclaim h)
  | 0x04 => payload1 p (.release h)
  | 0x05 => payload2 p fun loader mode =>
      if mode = 1 then .modeToSupervised h loader else .modeToManual h loader mode
  | 0x06 => payload2 p (.mission h)
  | 0x07 => payload3 p (.offer h)
  | 0x08 => payload3 p (.request h)
  | 0x09 => payload3 p (.accept h)
  | 0x0A => payload2 p (.yield h)
  | 0x0B => payload2 p (.decline h)
  | 0x0C => payload2 p (.refuse h)
  | 0x0D => payload2 p (.confirm h)
  | 0x0E => payload2 p (.cancel h)
  | 0x0F => payload2 p (.suspend h)
  | 0x10 => payload2 p (.resume h)
  | 0x11 => payload1 p (.watch h)
  | 0x12 => payload1 p (.unwatch h)
  | 0x13 => payload3 p fun loader a b => .enrol h loader (word16 a b)
  | 0x14 => payload1 p (.retire h)
  | 0x15 => payload5 p fun loader zone a b front => .fixPosition h loader zone (word16 a b) front
  | 0x16 => payload1 p (.freePosition h)
  | 0x17 => payload5 p (.setZone h)
  | 0x18 => payload3 p fun zone a b => .closeZone h zone (word16 a b)
  | 0x19 => payload1 p (.cancelClosure h)
  | 0x1A => payload1 p (.park h)
  | 0x1B => payload1 p (.isolate h)
  | 0x1C => payload1 p (.restore h)
  | 0x1D => payload2 p (.setClearance h)
  | 0x1E => payload4 p (.force h)
  | 0x1F => payload3 p (.withdraw h)
  | 0x20 => payload3 p fun code a b => .setParam h code (word16 a b)
  | 0x21 => payload1 p (.queryLoader h)
  | 0x22 => payload1 p (.queryChair h)
  | 0x23 => payload1 p (.queryZone h)
  | 0x24 => payload1 p (.queryHandover h)
  | 0x25 => payload1 p (.queryParam h)
  | 0x26 => payload1 p (.watchAll h)
  | 0x27 => if p.isEmpty then some (.restart h) else none
  | _ => none

/-- The drive frame of a chair (10 R174: kind 0x30, nine payload bytes). -/
def driveOf (c : ChairId) (panel tag : Byte) (p : List Byte) : Option Instr :=
  match p with
  | [slot, e1, e2, count, speed, steer, boom, bucket, horn] =>
    some (.driveFrame c panel tag ⟨slot, word16 e1 e2, count, speed, steer, boom, bucket, horn⟩)
  | _ => none

/-- The STATUS report of the fleet link (10 R174: eleven payload bytes). -/
def statusOf (tag : Byte) (p : List Byte) : Option Instr :=
  match p with
  | [a1, a2, count, zone, c1, c2, front, speed, stationary, onboard, mission] =>
    some (.statusReport tag
      ⟨word16 a1 a2, count, zone, word16 c1 c2, front, speed, stationary, onboard, mission⟩)
  | _ => none

/-- What a frame that agrees with its check says on a link: none where the link does not carry its
kind, or its Length is not the one that the kind requires (08 R146, R147). -/
def contentOf (link : Link) (kind tag : Byte) (content : List Byte) : Option Instr :=
  match link with
  | .chair c =>
    match content with
    | panel :: p =>
      if kind = 0x30 then driveOf c panel tag p else requestOf ⟨.chair c panel, tag⟩ kind p
    | [] => none
  | .supervisor => requestOf ⟨.supervisor, tag⟩ kind content
  | .fleet => if kind = 0x60 then statusOf tag content else none

/-- The least Length that a link carries toward the switch (08 R146). -/
def Link.minLength : Link → Nat
  | .chair _ => 3
  | _ => 2

/-- The Length lies in the range that the link carries toward the switch (08 R146). -/
def Link.carries (link : Link) (length : Byte) : Bool :=
  decide (link.minLength ≤ length.toNat) && decide (length.toNat ≤ 60)

/-- Reads the bytes of a frame from its Length through its check: the command that a valid frame
is, and none for a bad one. -/
def readChecked (link : Link) (bytes : List Byte) : Option Instr :=
  match bytes with
  | length :: rest =>
    let body := rest.take length.toNat
    match body, rest.drop length.toNat with
    | kind :: tag :: content, [c1, c2] =>
      if link.carries length = true ∧ body.length = length.toNat ∧
          word16 c1 c2 = checkOf (length :: body) then
        contentOf link kind tag content
      else none
    | _, _ => none
  | [] => none

/-- Reads a whole frame, with its start byte. -/
def readFrame (link : Link) (bytes : List Byte) : Option Instr :=
  match bytes with
  | first :: rest => if first = startByte then readChecked link rest else none
  | [] => none

/-! ## Assembling frames from bytes (08 R147) -/

/-- What a link interface has received of a frame: it hunts for a start byte, it has one, or it has
the bytes from the Length on and needs more. -/
inductive Receiver where
  | hunting
  | started
  | taking (bytes : List Byte) (need : Nat)
  deriving DecidableEq, Repr

/-- A byte as a link brings it: its value, unless it has a character error, and whether more than
5 ms passed since the byte before it (said from outside, log 5). -/
structure LineByte where
  value : Option Byte
  late : Bool
  deriving DecidableEq, Repr

/-- Hunting takes a byte: only a start byte without a character error begins a frame. -/
def Receiver.hunt (value : Option Byte) : Receiver :=
  if value = some startByte then .started else .hunting

/-- A link interface takes a byte: its new state and the command that the byte completes, if any. A
bad frame is the command BAD_FRAME, and hunting resumes with the byte that showed it bad: the late
or damaged one, or a Length outside the link's range. A frame whose bytes stop arriving is judged
bad when the late byte comes (DEDUCED, log 38). -/
def Receiver.take (link : Link) (r : Receiver) (x : LineByte) : Receiver × Option Instr :=
  match r with
  | .hunting => (.hunt x.value, none)
  | .started =>
    match x.late, x.value with
    | false, some b =>
      if link.carries b then (.taking [b] (b.toNat + 2), none)
      else (.hunt x.value, some (.badFrame link))
    | _, _ => (.hunt x.value, some (.badFrame link))
  | .taking bytes need =>
    match x.late, x.value with
    | false, some b =>
      if need ≤ 1 then (.hunting, some ((readChecked link (bytes ++ [b])).getD (.badFrame link)))
      else (.taking (bytes ++ [b]) (need - 1), none)
    | _, _ => (.hunt x.value, some (.badFrame link))

/-- A link interface takes bytes one after another: the commands that they complete. -/
def Receiver.takeAll (link : Link) (r : Receiver) : List LineByte → Receiver × List Instr
  | [] => (r, [])
  | x :: xs =>
    let (r', i) := r.take link x
    let (r'', is) := r'.takeAll link xs
    (r'', i.toList ++ is)

/-! ## Encoding the frame of a command (10 R172 to R174) -/

/-- The link that a sender's frames arrive on. -/
def Sender.link : Sender → Link
  | .chair c _ => .chair c
  | .supervisor => .supervisor

/-- The panel byte of a chair's frame, and nothing for the supervisor. -/
def Sender.panelBytes : Sender → List Byte
  | .chair _ panel => [panel]
  | .supervisor => []

/-- The frame of a request on its sender's link. -/
def encodeRequest (h : Header) (kind : Byte) (payload : List Byte) : Option (Link × List Byte) :=
  some (h.sender.link, frameBytes kind h.tag (h.sender.panelBytes ++ payload))

/-- The link and the bytes of the frame that a command is; none for a command that is no frame, and
for a bad frame, which has no bytes of its own. -/
def encodeFrame : Instr → Option (Link × List Byte)
  | .ping h => encodeRequest h 0x01 []
  | .claim h a b c => encodeRequest h 0x02 [a, b, c]
  | .reclaim h a b c => encodeRequest h 0x03 [a, b, c]
  | .release h a => encodeRequest h 0x04 [a]
  | .modeToSupervised h a => encodeRequest h 0x05 [a, 1]
  | .modeToManual h a b => encodeRequest h 0x05 [a, b]
  | .mission h a b => encodeRequest h 0x06 [a, b]
  | .offer h a b c => encodeRequest h 0x07 [a, b, c]
  | .request h a b c => encodeRequest h 0x08 [a, b, c]
  | .accept h a b c => encodeRequest h 0x09 [a, b, c]
  | .yield h a b => encodeRequest h 0x0A [a, b]
  | .decline h a b => encodeRequest h 0x0B [a, b]
  | .refuse h a b => encodeRequest h 0x0C [a, b]
  | .confirm h a b => encodeRequest h 0x0D [a, b]
  | .cancel h a b => encodeRequest h 0x0E [a, b]
  | .suspend h a b => encodeRequest h 0x0F [a, b]
  | .resume h a b => encodeRequest h 0x10 [a, b]
  | .watch h a => encodeRequest h 0x11 [a]
  | .unwatch h a => encodeRequest h 0x12 [a]
  | .enrol h a w => encodeRequest h 0x13 (a :: bytes16 w)
  | .retire h a => encodeRequest h 0x14 [a]
  | .fixPosition h a b w c => encodeRequest h 0x15 (a :: b :: (bytes16 w ++ [c]))
  | .freePosition h a => encodeRequest h 0x16 [a]
  | .setZone h a b c d e => encodeRequest h 0x17 [a, b, c, d, e]
  | .closeZone h a w => encodeRequest h 0x18 (a :: bytes16 w)
  | .cancelClosure h a => encodeRequest h 0x19 [a]
  | .park h a => encodeRequest h 0x1A [a]
  | .isolate h a => encodeRequest h 0x1B [a]
  | .restore h a => encodeRequest h 0x1C [a]
  | .setClearance h a b => encodeRequest h 0x1D [a, b]
  | .force h a b c d => encodeRequest h 0x1E [a, b, c, d]
  | .withdraw h a b c => encodeRequest h 0x1F [a, b, c]
  | .setParam h a w => encodeRequest h 0x20 (a :: bytes16 w)
  | .queryLoader h a => encodeRequest h 0x21 [a]
  | .queryChair h a => encodeRequest h 0x22 [a]
  | .queryZone h a => encodeRequest h 0x23 [a]
  | .queryHandover h a => encodeRequest h 0x24 [a]
  | .queryParam h a => encodeRequest h 0x25 [a]
  | .watchAll h a => encodeRequest h 0x26 [a]
  | .restart h => encodeRequest h 0x27 []
  | .driveFrame c panel tag f =>
    some (.chair c, frameBytes 0x30 tag (panel :: f.slot :: (bytes16 f.epoch ++
      [f.count, f.speed, f.steer, f.boom, f.bucket, f.horn])))
  | .statusReport tag f =>
    some (.fleet, frameBytes 0x60 tag (bytes16 f.address ++ f.count :: f.zone ::
      (bytes16 f.chainage ++ [f.front, f.speed, f.stationary, f.onboard, f.mission])))
  | .badFrame _ | .lostLinkFrame _ _ => none
  | .silenceTimerExpiry _ | .lapseTimerExpiry _ | .holdRefreshExpiry _ | .orphanGraceExpiry _ => none
  | .answerTimerExpiry _ | .settleTimerExpiry _ | .confirmTimerExpiry _ | .watchdogExpiry _ => none
  | .closureTimerExpiry _ | .linkSilenceExpiry _ | .secondsCounterTick => none
  | .stopAllAssertion | .stopAllRelease | .barrierBreach _ | .barrierRelease _ => none
  | .resetAssertion | .resetRelease | .powerOn => none
  | .deliveryQueueTransmit _ | .orderLineTransmit => none

end Sys2Proof
end

