-- ==== Sys2Proof/Config.lean ====
section
/-! DEFINITION. What is fixed for the switch: its sizes and fixed times, the parameters with their
ranges and defaults (09 R162), and the two free values. -/

namespace Sys2Proof

/-- The frames that a delivery queue holds (07 R141). -/
def Config.queueLimit : Nat := 32

/-- The orders that the order line holds (08 R158). -/
def Config.orderLimit : Nat := 64

/-- Where 16-bit counters and the position age stop (01 R7, R14; 03 R48; 07 R141; 08 R148). -/
def Config.counterLimit : Nat := 65535

/-- The fixed hold refresh interval in milliseconds (01 R19, 09 R162). -/
def Config.holdRefreshMs : Nat := 500

/-- The greatest chainage in decimetres (00 0-8). -/
def Config.chainageMax : Nat := 5119

/-- The whole length of a zone in decimetres, 128 segments of 40 (00 0-7, 02 R24). -/
def Config.zoneLength : Nat := 5120

/-- The valid frames that take one from an error counter, and the clean frames that bring back a
LOST link (08 R152, R154). -/
def Config.runLength : Nat := 16

/-- FREE VALUE: the four bytes that stand for an absent time stamp. 10 R173 gives the bytes of an
absent one-byte and of an absent two-byte number only (log 16). -/
opaque Config.absentStamp : BitVec 32

/-- FREE VALUE: a PING that newly presses the chair stop is answered. 06 R129 gives the chair nothing
for it, 08 R155 has every PING answered, and no rule ranks the two (log 40). -/
opaque Config.answersStopPing : Bool

/-- The fifteen parameters, in the order of the table of 09 R162, which is that of their codes
1 to 15 (10 R173). -/
inductive Param where
  | answer | settle | confirm | watchdog | driveLapse | linkSilence | linkError
  | manualSilence | supervisedSilence | staleLimit | orphanGrace | standoff | gain | creep
  | attention
  deriving DecidableEq, Repr

/-- Stored values, one for each parameter, in the unit that the table carries it in (09 R162).
Attention notices is 1 for on and 0 for off. -/
structure Params where
  answer : Nat
  settle : Nat
  confirm : Nat
  watchdog : Nat
  driveLapse : Nat
  linkSilence : Nat
  linkError : Nat
  manualSilence : Nat
  supervisedSilence : Nat
  staleLimit : Nat
  orphanGrace : Nat
  standoff : Nat
  gain : Nat
  creep : Nat
  attention : Nat
  deriving DecidableEq, Repr

/-- The defaults of 09 R162, in force at power-on and after the RESET input. -/
def Params.defaults : Params where
  answer := 10
  settle := 8
  confirm := 5
  watchdog := 30
  driveLapse := 300
  linkSilence := 1000
  linkError := 8
  manualSilence := 2000
  supervisedSilence := 15
  staleLimit := 1500
  orphanGrace := 30
  standoff := 20
  gain := 8
  creep := 5
  attention := 1

end Sys2Proof
end

