-- ==== Sys2Proof/Machine/State.lean ====
section
/-! DEFINITION. The state of the switch as plain data, the frames and orders it builds, and the
state right after reset. The operations on it stand in the other files of Machine/. -/

namespace Sys2Proof.Machine

/-! ## Names of the spec -/

/-- Manual or supervised authority (00 0-7). -/
inductive Mode where
  | manual | supervised
  deriving DecidableEq, Repr

/-- Where the bucket end of a loader faces (01 1-1). -/
inductive FrontSense where
  | towardEntrance | towardFarEnd
  deriving DecidableEq, Repr

/-- Where a record's position comes from (01 1-5). -/
inductive Source where
  | reported | fixed
  deriving DecidableEq, Repr

/-- The onboard mode of a loader (01 1-4). -/
inductive Onboard where
  | remote | atMachine
  deriving DecidableEq, Repr

/-- The mission state of a loader (01 1-1): none, running, complete, fault. -/
inductive Mission where
  | idle | running | complete | faulted
  deriving DecidableEq, Repr

/-- The states of a loader record (01 1-1). -/
inductive LoaderState where
  | unenrolled | parked | driven | supervised | transfer | orphaned | halted | isolated
  deriving DecidableEq, Repr

/-- The classes of a zone (02 R25), codes 0 to 5. -/
inductive ZoneClass where
  | closed | autoFlagged | autoOnly | openFlagged | openManualFlagged | openPlain
  deriving DecidableEq, Repr

/-- The end that a zone's open length is counted from (02 R24). -/
inductive MeasuredFrom where
  | entrance | farEnd
  deriving DecidableEq, Repr

/-- The state of a chair link (08 R150). -/
inductive LinkState where
  | down | up | lost
  deriving DecidableEq, Repr

/-- What started a handover (04 R65). -/
inductive HandoverKind where
  | offer | request | force
  deriving DecidableEq, Repr

/-- The phase of a handover (04 R65). -/
inductive Phase where
  | offered | requested | settling | confirming
  deriving DecidableEq, Repr

/-- The part of the Watch Table that an entry stands in (07 7-1). -/
inductive WatchPart where
  | openPart | pinnedPart
  deriving DecidableEq, Repr

/-- Why a request or a drive frame is refused (10 R176), codes 1 to 28 in order. -/
inductive Reason where
  | badValue | unknownLoader | loaderState | duplicate | notParty | busy | stopped | chairDown
  | slotBusy | silent | atMachine | clearance | closing | zoneDenied | barrier | manualBusy
  | notNeutral | notStationary | noContext | noHandover | phase | suspended | occupied | full
  | noClosure | slotEmpty | notHolder | staleGrant
  deriving DecidableEq, Repr

/-- Why a loader was halted or a handover aborted (10 R177), codes 1 to 24 in order. Code 0, a
commit, is the absence of a cause. -/
inductive Cause where
  | chairLink | chairStop | stopAll | radio | atMachine | brow | zoneClosed | zoneMode | closing
  | barrier | withdrawn | restart | declined | refused | cancelled | answerTimeout
  | settleTimeout | confirmTimeout | watchdog | linkT | linkR | zoneDenied | clearance
  | manualBusy
  deriving DecidableEq, Repr

/-- How the gate ended the last frame for a slot that it did not drop (05 R112). -/
inductive DriveOutcome where
  | fresh | accepted | clamped | refused (r : Reason)
  deriving DecidableEq, Repr

/-! ## Records -/

/-- A running timer: the setting it latched and the time since it started, in milliseconds. -/
structure Timer where
  setting : Nat
  elapsed : Nat
  deriving DecidableEq, Repr

/-- A position of a loader (01 1-1). -/
structure Position where
  zone : ZoneId
  chainage : Nat
  front : FrontSense
  deriving DecidableEq, Repr

/-- The holder of a loader and the mode it holds it in (01 R2: present together). -/
structure Holding where
  chair : ChairId
  slot : SlotId
  mode : Mode
  deriving DecidableEq, Repr

/-- A halt record (06 R118). -/
structure HaltRecord where
  first : Cause
  place : Option (ZoneId × Nat)
  chair : Option ChairId
  stamp : Word32
  latest : Cause
  further : Nat
  overwritten : Bool
  deriving DecidableEq, Repr

/-- The silence timer of a loader: the time since it restarted and the two times it latched then,
all in milliseconds (01 R17). -/
structure SilenceTimer where
  elapsed : Nat
  manual : Nat
  supervised : Nat
  deriving DecidableEq, Repr

/-- A loader record (01 1-1). The radio address stands in the radio address map alone, since an
entry of the map is filled exactly while the record is enrolled (01 1-3). -/
structure Loader where
  state : LoaderState
  holder : Option Holding
  lastHolder : Option ChairId
  epoch : Word16
  prior : Option LoaderState
  context : Option CtxId
  position : Option Position
  lastReported : Option Position
  source : Source
  age : Nat
  stationary : Bool
  onboard : Onboard
  mission : Mission
  lastCount : Option Byte
  silence : SilenceTimer
  radioSilent : Bool
  lapse : Bool
  lapseTimer : Option Timer
  holdRefresh : Option Timer
  grace : Option Timer
  halt : Option HaltRecord
  deriving DecidableEq, Repr

/-- The record of a loader that is not enrolled: it holds the state and nothing else (01 R2). The
fields that have no absent value stand as ENROL will write them (01 R4). -/
def Loader.blank : Loader where
  state := .unenrolled
  holder := none
  lastHolder := none
  epoch := 0
  prior := none
  context := none
  position := none
  lastReported := none
  source := .reported
  age := Config.counterLimit
  stationary := false
  onboard := .atMachine
  mission := .idle
  lastCount := none
  silence := ⟨0, 0, 0⟩
  radioSilent := false
  lapse := false
  lapseTimer := none
  holdRefresh := none
  grace := none
  halt := none

/-- What a slot of a chair holds (03 R45). -/
inductive SlotContents where
  | empty
  | bound (l : LoaderId)
  | reserved (l : LoaderId) (k : CtxId)
  deriving DecidableEq, Repr

/-- A slot of a chair and its drive state (03 R48). -/
structure Slot where
  contents : SlotContents
  lastCount : Option Byte
  outcome : DriveOutcome
  deriving DecidableEq, Repr

/-- The six drive counters of a chair (03 R48). -/
structure DriveCounters where
  accepted : Nat
  clamped : Nat
  duplicate : Nat
  stale : Nat
  gap : Nat
  refused : Nat
  deriving DecidableEq, Repr

/-- A chair record (03 R44), without the link state, which the chair link interface owns. -/
structure Chair where
  clearance : BitVec 8
  slots : Vector Slot 4
  stop : Bool
  neutral : Bool
  counters : DriveCounters
  deriving DecidableEq, Repr

/-- A slot with nothing in it and a fresh drive state. -/
def Slot.blank : Slot := ⟨.empty, none, .fresh⟩

/-- The drive counters at zero. -/
def DriveCounters.zero : DriveCounters := ⟨0, 0, 0, 0, 0, 0⟩

/-- A chair record at power-on (03 R64). -/
def Chair.blank : Chair := ⟨0, Vector.replicate 4 Slot.blank, false, false, .zero⟩

/-- The fields of a chair link interface (08 R150). -/
structure ChairLink where
  state : LinkState
  errors : Nat
  tally : Nat
  run : Nat
  silence : Option Timer
  badFrames : Nat
  deriving DecidableEq, Repr

/-- A chair link at power-on (08 R150). -/
def ChairLink.blank : ChairLink := ⟨.down, 0, 0, 0, none, 0⟩

/-- A zone descriptor (02 R23). -/
structure Zone where
  cls : ZoneClass
  openLength : Nat
  measuredFrom : MeasuredFrom
  cap : Nat
  entered : Bool
  attention : Bool
  closing : Option ClosureId
  deriving DecidableEq, Repr

/-- A zone descriptor at power-on (02 R42). -/
def Zone.blank : Zone := ⟨.closed, 0, .entrance, 0, false, false, none⟩

/-- A closure context in use (02 R33). The stored closure time is in seconds; the timer's setting
is that time in milliseconds. -/
structure Closure where
  zone : ZoneId
  time : Nat
  timer : Timer
  stamp : Word32
  deriving DecidableEq, Repr

/-- A handover context in use (04 R65). The phase timer does not advance while the context is
suspended, so that its remaining time is the suspended time remaining. -/
structure Handover where
  loader : LoaderId
  kind : HandoverKind
  releasing : Option ChairId
  taking : ChairId
  slot : Option SlotId
  target : Mode
  phase : Phase
  timer : Timer
  suspended : Bool
  watchdog : Timer
  held : Option HaltRecord
  deriving DecidableEq, Repr

/-- A valid entry of the pinned part of the Watch Table (07 7-1). -/
structure PinnedEntry where
  chair : ChairId
  loader : LoaderId
  locked : Bool
  used : Bool
  deriving DecidableEq, Repr

/-- A set of the open part: two ways, each invalid or a pair, and the recency mark, which names
the way touched less recently: false for way 0, true for way 1 (07 7-1). -/
structure OpenSet where
  way0 : Option (ChairId × LoaderId)
  way1 : Option (ChairId × LoaderId)
  mark : Bool
  deriving DecidableEq, Repr

/-- The Watch Table (07 R133). -/
structure WatchTable where
  pinned : Vector (Option PinnedEntry) 40
  openSets : Vector OpenSet 64
  deriving DecidableEq, Repr

/-- The Watch Table at power-on (07 R133) and after RESTART (07 R145). -/
def WatchTable.blank : WatchTable :=
  ⟨Vector.replicate 40 none, Vector.replicate 64 ⟨none, none, false⟩⟩

/-! ## Frames and orders that the switch builds -/

/-- The kinds of request (10 R174), 0x01 to 0x27 in order. -/
inductive ReqKind where
  | ping | claim | reclaim | release | mode | mission | offer | request | accept | yield
  | decline | refuse | confirm | cancel | suspend | resume | watch | unwatch | enrol | retire
  | fixPosition | freePosition | setZone | closeZone | cancelClosure | park | isolate | restore
  | setClearance | force | withdraw | setParam | queryLoader | queryChair | queryZone
  | queryHandover | queryParam | watchAll | restart
  deriving DecidableEq, Repr

/-- What QUERY_LOADER returns (09 R166): the record as it stands, its radio address, and the halt
record that its handover context holds for it. -/
structure LoaderView where
  loader : LoaderId
  address : Option Word16
  record : Loader
  held : Option HaltRecord
  deriving DecidableEq, Repr

/-- What QUERY_CHAIR returns (09 R166). -/
structure ChairView where
  chair : ChairId
  link : ChairLink
  record : Chair
  manualLoad : Nat
  queued : Nat
  dropped : Nat
  deriving DecidableEq, Repr

/-- What QUERY_ZONE returns (09 R167). -/
structure ZoneView where
  zone : ZoneId
  descriptor : Zone
  level : LevelId
  barrier : Bool
  lamp : Bool
  count : Nat
  closure : Option Closure
  deriving DecidableEq, Repr

/-- What QUERY_HANDOVER returns for a context in use (09 R167). -/
structure HandoverView where
  handover : Handover
  prior : Option LoaderState
  grace : Option Timer
  deriving DecidableEq, Repr

/-- What QUERY_PARAM with the all code returns (09 R165). -/
structure ModuleView where
  params : Params
  seconds : Word32
  stopAll : Bool
  barriers : Vector Bool 8
  lamps : Vector Bool 8
  watchAll : Bool
  supErrors : Nat
  supTally : Nat
  supBadFrames : Nat
  supDropped : Nat
  fleetBadFrames : Nat
  unknown : Nat
  ordersDropped : Nat
  ordersWaiting : Nat
  handoversInUse : Nat
  closuresInUse : Nat
  deriving DecidableEq, Repr

/-- The fields after the reason code of an OK reply (10 R175). -/
inductive OkBody where
  | ping (seconds : Word32) (errors : Nat)
  | grant (l : LoaderId) (slot : SlotId) (mode : Mode) (epoch : Word16)
  | loaderSlot (l : LoaderId) (slot : SlotId)
  | mode (l : LoaderId) (mode : Mode)
  | mission (l : LoaderId) (route : Byte)
  | context (k : CtxId)
  | force (k : CtxId) (phase : Phase)
  | loader (l : LoaderId)
  | fix (l : LoaderId) (state : LoaderState)
  | zone (z : ZoneId) (cls : ZoneClass) (openLength : Nat) (measuredFrom : MeasuredFrom) (cap : Nat)
  | closure (k : ClosureId) (time : Nat)
  | zoneOnly (z : ZoneId)
  | clearance (c : ChairId) (levels : BitVec 8)
  | count (n : Nat)
  | param (p : Param) (value : Nat)
  | setting (on : Bool)
  | restart (aborted halted further completed : Nat)
  | loaderView (v : LoaderView)
  | chairView (v : ChairView)
  | zoneView (v : ZoneView)
  | handoverView (k : CtxId) (v : Option HandoverView)
  | module (v : ModuleView)
  deriving DecidableEq, Repr

/-- A reply: a refusal with its reason, or OK with its fields (10 R175). -/
inductive Reply where
  | refused (r : Reason)
  | ok (body : OkBody)
  deriving DecidableEq, Repr

/-- A slot as LINK_RESTORED lists it (06 R123). -/
structure RestoredSlot where
  loader : LoaderId
  state : LoaderState
  mode : Option Mode
  epoch : Word16
  deriving DecidableEq, Repr

/-- The notices (10 R175), 0x41 to 0x55 in order. -/
inductive Notice where
  | offered (k : CtxId) (l : LoaderId) (releasing : ChairId) (held : Option Mode) (target : Mode)
      (zone : Option ZoneId) (answer : Nat)
  | requested (k : CtxId) (l : LoaderId) (taking : ChairId) (target : Mode) (answer : Nat)
  | forced (k : CtxId) (l : LoaderId) (taking : ChairId) (slot : Option SlotId) (target : Mode)
      (prior : Option LoaderState) (phase : Phase)
  | settleStarted (k : CtxId) (l : LoaderId) (settle : Nat)
  | confirmNeeded (k : CtxId) (l : LoaderId) (slot : Option SlotId) (target : Mode) (confirm : Nat)
  | suspended (k : CtxId) (l : LoaderId) (phase : Phase) (remaining : Nat)
  | resumed (k : CtxId) (l : LoaderId) (phase : Phase) (remaining : Nat)
  | granted (l : LoaderId) (slot : SlotId) (mode : Mode) (epoch : Word16)
  | released (l : LoaderId) (slot : SlotId)
  | handoverEnded (k : CtxId) (l : LoaderId) (kind : HandoverKind) (cause : Option Cause)
      (after : LoaderState) (taking : ChairId) (slot : Option SlotId) (mode : Mode) (epoch : Word16)
  | halted (l : LoaderId) (slot : Option SlotId) (cause : Cause) (place : Option (ZoneId × Nat))
      (lastHolder : Option ChairId) (stamp : Word32)
  | isolated (l : LoaderId) (slot : SlotId)
  | linkLost (c : ChairId) (stamp : Word32) (aborted halted orphaned : Nat)
  | linkRestored (c : ChairId) (stamp : Word32) (returned : Nat)
      (slots : Vector (Option RestoredSlot) 4)
  | stopChange (asserted : Bool) (stamp : Word32) (halted further : Nat)
  | zoneAttention (z : ZoneId) (cls : ZoneClass) (l : LoaderId) (holder : Option ChairId)
      (stamp : Word32)
  | evacuate (z : ZoneId) (l : LoaderId) (time : Nat)
  | closureDone (z : ZoneId) (halted : Nat) (entered : Bool)
  | barrierChange (level : LevelId) (breached : Bool) (aborted halted : Nat)
  | watchEvicted (l : LoaderId) (part : WatchPart)
  | driveRefused (slot : SlotId) (reason : Reason) (l : Option LoaderId) (epoch : Word16)
      (count : Byte)
  deriving DecidableEq, Repr

/-- A forwarded status report (01 R13, 07 R139): the report's fields as received and saturated. -/
structure Report where
  loader : LoaderId
  count : Byte
  zone : ZoneId
  chainage : Nat
  front : FrontSense
  speed : Int
  stationary : Bool
  onboard : Onboard
  mission : Mission
  deriving DecidableEq, Repr

/-- What a frame to a chair or the supervisor carries (07 7-5). -/
inductive FrameBody where
  | reply (kind : ReqKind) (r : Reply)
  | notice (n : Notice)
  | report (r : Report)
  deriving DecidableEq, Repr

/-- A frame in a delivery queue. Only a reply carries a tag other than 0 (08 R149). -/
structure Frame where
  tag : Byte
  body : FrameBody
  deriving DecidableEq, Repr

/-- What an order tells a loader (08 R158). -/
inductive OrderBody where
  | drive (speed steer boom bucket : Int) (horn : Bool)
  | hold
  | mission (route : Byte)
  deriving DecidableEq, Repr

/-- An order of the order line: the loader it was built for and the radio address that the map
held then (01 R6). -/
structure Order where
  loader : LoaderId
  address : Word16
  body : OrderBody
  deriving DecidableEq, Repr

/-- A delivery queue with its dropped-frame counter, and the frame that has begun to leave
(07 R141, 08 R149). -/
structure OutQueue where
  frames : List Frame
  dropped : Nat
  sending : Option Frame
  deriving DecidableEq, Repr

/-- A delivery queue at power-on. -/
def OutQueue.blank : OutQueue := ⟨[], 0, none⟩

/-- The fleet link interface without the radio address map (08 R157, R158). -/
structure FleetLink where
  badFrames : Nat
  unknown : Nat
  orders : List Order
  dropped : Nat
  sending : Option Order
  deriving DecidableEq, Repr

/-- The fleet link at power-on (01 R3, 08 R148, R158, R159). -/
def FleetLink.blank : FleetLink := ⟨0, 0, [], 0, none⟩

/-- The supervisor link interface (08 R156). -/
structure SupLink where
  errors : Nat
  tally : Nat
  badFrames : Nat
  deriving DecidableEq, Repr

/-- What each link interface has received of a frame (08 R147). -/
structure Receivers where
  chairs : Vector Receiver 12
  supervisor : Receiver
  fleet : Receiver
  deriving DecidableEq, Repr

/-- No frame is in reception on any link: every interface hunts for a start byte. -/
def Receivers.hunting : Receivers := ⟨Vector.replicate 12 .hunting, .hunting, .hunting⟩

/-- The filtered levels of the inputs that are taken as states: true is asserted (08 R160). -/
structure Inputs where
  stopAll : Bool
  barriers : Vector Bool 8
  deriving DecidableEq, Repr

/-! ## The switch -/

/-- The state of the switch. INVENTORY.md, '## State', names for each field the rule of the spec
that gives it. `line`, the bytes that have yet to arrive on the links, and `pending`, the commands
that have yet to be taken, are the model's own (log 5). -/
structure State where
  loaders : Vector Loader 32
  radioMap : Vector (Option Word16) 32
  chairs : Vector Chair 12
  links : Vector ChairLink 12
  zones : Vector Zone 256
  closures : Vector (Option Closure) 4
  barriers : Vector Bool 8
  lamps : Vector Bool 8
  handovers : Vector (Option Handover) 8
  watch : WatchTable
  queues : Vector OutQueue 12
  supQueue : OutQueue
  supLink : SupLink
  fleet : FleetLink
  params : Params
  watchAll : Bool
  seconds : Word32
  millis : Nat
  stopAll : Bool
  inputs : Inputs
  inReset : Bool
  receivers : Receivers
  line : List (Link × LineByte)
  pending : List Instr
  deriving DecidableEq, Repr

/-- The switch has no fault: every command is taken, discarded, refused by a reply of the switch,
or without effect. Nothing raises one. -/
inductive Fault where
  deriving DecidableEq, Repr

/-- Why the model gives a command no meaning. No arm of exec and no meaning answers with it. -/
inductive Refusal where
  /-- Raised by an arm of exec whose command has no meaning yet: safe, since the machine stops. -/
  | notModelled (mnemonic : String)
  deriving DecidableEq, Repr

/-- The values that every block takes at power-on and at the release of the RESET input
(08 R161, 01 R3, 02 R42, 03 R64, 04 R65, 07 R133, 09 R162), with the STOP_ALL and barrier states
taken from their inputs (06 R125, 02 R42). What has yet to arrive from outside is no value of the
switch and stands as it was. -/
def State.powerOn (inputs : Inputs) (line : List (Link × LineByte)) (pending : List Instr) :
    State where
  loaders := Vector.replicate 32 Loader.blank
  radioMap := Vector.replicate 32 none
  chairs := Vector.replicate 12 Chair.blank
  links := Vector.replicate 12 ChairLink.blank
  zones := Vector.replicate 256 Zone.blank
  closures := Vector.replicate 4 none
  barriers := inputs.barriers
  lamps := Vector.replicate 8 false
  handovers := Vector.replicate 8 none
  watch := WatchTable.blank
  queues := Vector.replicate 12 OutQueue.blank
  supQueue := OutQueue.blank
  supLink := ⟨0, 0, 0⟩
  fleet := FleetLink.blank
  params := Params.defaults
  watchAll := false
  seconds := 0
  millis := 0
  stopAll := inputs.stopAll
  inputs := inputs
  inReset := false
  receivers := Receivers.hunting
  line := line
  pending := pending

/-- The switch right after reset. The input levels are the model's choice (DESIGN CHOICE, log 3):
STOP_ALL released and every barrier clear. -/
def State.reset : State := State.powerOn ⟨false, Vector.replicate 8 false⟩ [] []

end Sys2Proof.Machine
end

