-- ==== Sys2Proof/Machine/Operands.lean ====
section
/-! DEFINITION. Reading the fields that chairs, the supervisor and the gateway send: numbers and
codes with a meaning (10 R173), and numeric fields saturated to their range (00 0-8). -/

namespace Sys2Proof.Machine

/-! ## Numbers that name things -/

/-- A loader number: 0 to 31, or without a meaning (01 R2). -/
def loaderOf (b : Byte) : Option LoaderId :=
  if h : b.toNat < 32 then some ⟨b.toNat, h⟩ else none

/-- A chair number: 0 to 11, or without a meaning (03 R44). -/
def chairOf (b : Byte) : Option ChairId :=
  if h : b.toNat < 12 then some ⟨b.toNat, h⟩ else none

/-- A slot number: 0 to 3, or without a meaning (03 R45). -/
def slotOf (b : Byte) : Option SlotId :=
  if h : b.toNat < 4 then some ⟨b.toNat, h⟩ else none

/-- A handover context number: 0 to 7, or without a meaning (04 R67). -/
def ctxOf (b : Byte) : Option CtxId :=
  if h : b.toNat < 8 then some ⟨b.toNat, h⟩ else none

/-- A zone number: every byte has a meaning (09 R165). -/
def zoneOf (b : Byte) : ZoneId := b.toFin

/-- The level of a zone: its number divided by 32, rounded down (02 R23). -/
def levelOf (z : ZoneId) : LevelId := ⟨z.val / 32, by omega⟩

/-! ## Codes (10 R173) -/

/-- Mode: 0 manual, 1 supervised. -/
def modeOf (b : Byte) : Option Mode :=
  if b = 0 then some .manual else if b = 1 then some .supervised else none

/-- Front sense: 0 toward entrance, 1 toward far end. -/
def frontOf (b : Byte) : Option FrontSense :=
  if b = 0 then some .towardEntrance else if b = 1 then some .towardFarEnd else none

/-- Measured-from: 0 Entrance, 1 FarEnd. -/
def measuredFromOf (b : Byte) : Option MeasuredFrom :=
  if b = 0 then some .entrance else if b = 1 then some .farEnd else none

/-- Horn, settings and flags: 0 no or off, 1 yes or on. -/
def flagOf (b : Byte) : Option Bool :=
  if b = 0 then some false else if b = 1 then some true else none

/-- Onboard mode: 0 Remote, 1 Local. -/
def onboardOf (b : Byte) : Option Onboard :=
  if b = 0 then some .remote else if b = 1 then some .atMachine else none

/-- Mission: 0 none, 1 running, 2 complete, 3 fault. -/
def missionOf (b : Byte) : Option Mission :=
  match b.toNat with
  | 0 => some .idle
  | 1 => some .running
  | 2 => some .complete
  | 3 => some .faulted
  | _ => none

/-- Zone class: 0 to 5 (02 R25). -/
def classOf (b : Byte) : Option ZoneClass :=
  match b.toNat with
  | 0 => some .closed
  | 1 => some .autoFlagged
  | 2 => some .autoOnly
  | 3 => some .openFlagged
  | 4 => some .openManualFlagged
  | 5 => some .openPlain
  | _ => none

/-- The scope of a WITHDRAW with the number it names (06 R130): 0 LOADER, 1 CHAIR, 2 ALL, the
number ignored for ALL. -/
inductive Scope where
  | loader (l : LoaderId)
  | chair (c : ChairId)
  | all
  deriving DecidableEq, Repr

/-- Reads a scope code and its number. -/
def scopeOf (scope number : Byte) : Option Scope :=
  match scope.toNat with
  | 0 => (loaderOf number).map .loader
  | 1 => (chairOf number).map .chair
  | 2 => some .all
  | _ => none

/-- The modes a WITHDRAW reaches (06 R130): 0 Manual, 1 Supervised, 2 Both (none here). -/
def filterOf (b : Byte) : Option (Option Mode) :=
  match b.toNat with
  | 0 => some (some .manual)
  | 1 => some (some .supervised)
  | 2 => some none
  | _ => none

/-- Parameter codes 1 to 15, in the order of the table of 09 R162. -/
def paramOf (b : Byte) : Option Param :=
  match b.toNat with
  | 1 => some .answer
  | 2 => some .settle
  | 3 => some .confirm
  | 4 => some .watchdog
  | 5 => some .driveLapse
  | 6 => some .linkSilence
  | 7 => some .linkError
  | 8 => some .manualSilence
  | 9 => some .supervisedSilence
  | 10 => some .staleLimit
  | 11 => some .orphanGrace
  | 12 => some .standoff
  | 13 => some .gain
  | 14 => some .creep
  | 15 => some .attention
  | _ => none

/-- Bit 0 of the panel byte: chair stop (10 R172). -/
def panelStop (panel : Byte) : Bool := panel.getLsbD 0

/-- Bit 1 of the panel byte: controls neutral (10 R172). -/
def panelNeutral (panel : Byte) : Bool := panel.getLsbD 1

/-! ## Saturation (00 0-8) -/

/-- The value of the range lo to hi that is nearest to n. -/
def saturate (lo hi n : Nat) : Nat := max lo (min hi n)

/-- A signed value brought into the range from −bound to bound, its sign kept (01 R7, 05 R98). -/
def saturateInt (bound v : Int) : Int := max (-bound) (min bound v)

/-- A speed byte in dm/s, in two's complement, saturated to ±80. -/
def speedOf (b : Byte) : Int := saturateInt 80 b.toInt

/-- A steer, boom or bucket byte in percent, in two's complement, saturated to ±100. -/
def percentOf (b : Byte) : Int := saturateInt 100 b.toInt

/-- A chainage field in dm, saturated to 5119. -/
def chainageOf (w : Word16) : Nat := min Config.chainageMax w.toNat

/-- A counter that gains n and stops at 65,535. -/
def gain (n counter : Nat) : Nat := min Config.counterLimit (counter + n)

/-! ## Timers -/

/-- The time a timer has left. -/
def Timer.remaining (t : Timer) : Nat := t.setting - t.elapsed

/-- A timer started from a setting in milliseconds (00 R1). -/
def Timer.start (ms : Nat) : Timer := ⟨ms, 0⟩

/-- A time in seconds, in milliseconds. -/
def seconds (n : Nat) : Nat := 1000 * n

end Sys2Proof.Machine

namespace Sys2Proof

/-- The range of a numeric parameter (09 R162). -/
def Param.range : Param → Nat × Nat
  | .answer => (2, 60)
  | .settle => (2, 30)
  | .confirm => (1, 20)
  | .watchdog => (1, 127)
  | .driveLapse => (100, 1000)
  | .linkSilence => (250, 5000)
  | .linkError => (1, 15)
  | .manualSilence => (1000, 10000)
  | .supervisedSilence => (5, 60)
  | .staleLimit => (500, 5000)
  | .orphanGrace => (0, 120)
  | .standoff => (0, 100)
  | .gain => (1, 32)
  | .creep => (1, 15)
  | .attention => (0, 1)

/-- The stored value of a parameter. -/
def Params.get (ps : Params) : Param → Nat
  | .answer => ps.answer
  | .settle => ps.settle
  | .confirm => ps.confirm
  | .watchdog => ps.watchdog
  | .driveLapse => ps.driveLapse
  | .linkSilence => ps.linkSilence
  | .linkError => ps.linkError
  | .manualSilence => ps.manualSilence
  | .supervisedSilence => ps.supervisedSilence
  | .staleLimit => ps.staleLimit
  | .orphanGrace => ps.orphanGrace
  | .standoff => ps.standoff
  | .gain => ps.gain
  | .creep => ps.creep
  | .attention => ps.attention

/-- The parameters with one of them replaced (09 R163). -/
def Params.put (ps : Params) (p : Param) (v : Nat) : Params :=
  match p with
  | .answer => { ps with answer := v }
  | .settle => { ps with settle := v }
  | .confirm => { ps with confirm := v }
  | .watchdog => { ps with watchdog := v }
  | .driveLapse => { ps with driveLapse := v }
  | .linkSilence => { ps with linkSilence := v }
  | .linkError => { ps with linkError := v }
  | .manualSilence => { ps with manualSilence := v }
  | .supervisedSilence => { ps with supervisedSilence := v }
  | .staleLimit => { ps with staleLimit := v }
  | .orphanGrace => { ps with orphanGrace := v }
  | .standoff => { ps with standoff := v }
  | .gain => { ps with gain := v }
  | .creep => { ps with creep := v }
  | .attention => { ps with attention := v }

/-- The settings of 09 R162 that start timers, in milliseconds. -/
def Params.answerMs (ps : Params) : Nat := Machine.seconds ps.answer
/-- The settle time (09 R162). -/
def Params.settleMs (ps : Params) : Nat := Machine.seconds ps.settle
/-- The confirm time (09 R162). -/
def Params.confirmMs (ps : Params) : Nat := Machine.seconds ps.confirm
/-- The handover watchdog, in units of 2 s (09 R162, 04 R81). -/
def Params.watchdogMs (ps : Params) : Nat := Machine.seconds (2 * ps.watchdog)
/-- The supervised radio silence time (09 R162). -/
def Params.supervisedSilenceMs (ps : Params) : Nat := Machine.seconds ps.supervisedSilence
/-- The orphan grace setting (09 R162). -/
def Params.orphanGraceMs (ps : Params) : Nat := Machine.seconds ps.orphanGrace

end Sys2Proof
end

