-- ==== Sys2Proof/Machine/Ops.lean ====
section
/-! DEFINITION. The named operations that every meaning is built from: reading and writing one
entry of a table, joining a delivery queue (07 R141 to R143), sending notices and replies (02 R43,
04 R92), and joining the order line (01 R6, 08 R158, R159). -/

namespace Sys2Proof

/-- The link a sender's replies leave on. -/
def Sender.port : Sender → Port
  | .chair c _ => .chair c
  | .supervisor => .supervisor

/-- The request's sender is a chair (03 R49). -/
def Header.fromChair (h : Header) : Except Machine.Reason ChairId :=
  match h.sender with
  | .chair c _ => .ok c
  | .supervisor => .error .notParty

/-- The request's sender is the supervisor (03 R49). -/
def Header.fromSup (h : Header) : Except Machine.Reason Unit :=
  match h.sender with
  | .chair _ _ => .error .notParty
  | .supervisor => .ok ()

end Sys2Proof

namespace Sys2Proof.Machine

/-! ## One entry of a table -/

/-- The record of a loader. -/
def State.loader (s : State) (l : LoaderId) : Loader := s.loaders[l]

/-- Replaces the record of a loader. -/
def State.setLoader (s : State) (l : LoaderId) (r : Loader) : State :=
  { s with loaders := s.loaders.set l r }

/-- Changes the record of a loader. -/
def State.modLoader (s : State) (l : LoaderId) (f : Loader → Loader) : State :=
  s.setLoader l (f (s.loader l))

/-- The record of a chair. -/
def State.chair (s : State) (c : ChairId) : Chair := s.chairs[c]

/-- Changes the record of a chair. -/
def State.modChair (s : State) (c : ChairId) (f : Chair → Chair) : State :=
  { s with chairs := s.chairs.set c (f (s.chair c)) }

/-- A slot of a chair. -/
def State.slot (s : State) (c : ChairId) (i : SlotId) : Slot := (s.chair c).slots[i]

/-- Changes a slot of a chair. -/
def State.modSlot (s : State) (c : ChairId) (i : SlotId) (f : Slot → Slot) : State :=
  s.modChair c fun r => { r with slots := r.slots.set i (f r.slots[i]) }

/-- Changes what a slot holds and leaves its drive state as it stands (03 R48). -/
def State.fillSlot (s : State) (c : ChairId) (i : SlotId) (x : SlotContents) : State :=
  s.modSlot c i fun slot => { slot with contents := x }

/-- The link interface of a chair. -/
def State.link (s : State) (c : ChairId) : ChairLink := s.links[c]

/-- Changes the link interface of a chair. -/
def State.modLink (s : State) (c : ChairId) (f : ChairLink → ChairLink) : State :=
  { s with links := s.links.set c (f (s.link c)) }

/-- A chair's link is UP. -/
def State.isUp (s : State) (c : ChairId) : Bool := (s.link c).state == .up

/-- The descriptor of a zone. -/
def State.zone (s : State) (z : ZoneId) : Zone := s.zones[z]

/-- Changes the descriptor of a zone. -/
def State.modZone (s : State) (z : ZoneId) (f : Zone → Zone) : State :=
  { s with zones := s.zones.set z (f (s.zone z)) }

/-- A closure context, if it is in use. -/
def State.closure (s : State) (k : ClosureId) : Option Closure := s.closures[k]

/-- Writes or frees a closure context. -/
def State.setClosure (s : State) (k : ClosureId) (x : Option Closure) : State :=
  { s with closures := s.closures.set k x }

/-- A handover context, if it is in use. -/
def State.handover (s : State) (k : CtxId) : Option Handover := s.handovers[k]

/-- Writes or frees a handover context. -/
def State.setHandover (s : State) (k : CtxId) (x : Option Handover) : State :=
  { s with handovers := s.handovers.set k x }

/-- Changes a handover context that is in use. -/
def State.modHandover (s : State) (k : CtxId) (f : Handover → Handover) : State :=
  s.setHandover k ((s.handover k).map f)

/-- The handover in flight of a loader in TRANSFER (04 R65). -/
def State.handoverOf (s : State) (l : LoaderId) : Option Handover :=
  (s.loader l).context.bind s.handover

/-- The handover contexts in use that satisfy a test, lowest number first. -/
def State.contextsWhere (s : State) (p : Handover → Bool) : List CtxId :=
  (List.finRange 8).filter fun k => (s.handover k).any p

/-- The loaders whose record satisfies a test, lowest number first. -/
def State.loadersWhere (s : State) (p : Loader → Bool) : List LoaderId :=
  (List.finRange 32).filter fun l => p (s.loader l)

/-! ## Delivery queues (07 7-5) -/

/-- The loader that a frame is a forwarded report of. -/
def Frame.reportOf (f : Frame) : Option LoaderId :=
  match f.body with
  | .report r => some r.loader
  | _ => none

/-- The frame is a forwarded report. -/
def Frame.isReport (f : Frame) : Bool := f.reportOf.isSome

/-- The frame is a notice. -/
def Frame.isNotice (f : Frame) : Bool :=
  match f.body with
  | .notice _ => true
  | _ => false

/-- The frame is a reply. -/
def Frame.isReply (f : Frame) : Bool :=
  match f.body with
  | .reply _ _ => true
  | _ => false

/-- The dropped-frame counter gains one (07 R141). -/
def OutQueue.drop (q : OutQueue) (frames : List Frame) : OutQueue :=
  { q with frames := frames, dropped := gain 1 q.dropped }

/-- A frame joins a delivery queue: a report takes the place of a queued report of its loader
(07 R142), a queue with room takes the frame at its tail (07 R141), and a full one spends its oldest
report, then refuses a report, then spends its oldest notice, and never spends a reply (07 R143). -/
def OutQueue.join (q : OutQueue) (f : Frame) : OutQueue :=
  if f.isReport && q.frames.any (·.reportOf == f.reportOf) then
    { q with frames := q.frames.map fun g => if g.reportOf == f.reportOf then f else g }
  else if q.frames.length < Config.queueLimit then
    { q with frames := q.frames ++ [f] }
  else if q.frames.any Frame.isReport then
    q.drop (q.frames.eraseP Frame.isReport ++ [f])
  else if f.isReport then
    q.drop q.frames
  else if q.frames.any Frame.isNotice then
    q.drop (q.frames.eraseP Frame.isNotice ++ [f])
  else
    q.drop q.frames

/-- The queue holds 32 replies, so that the next request is not taken (07 R143). -/
def OutQueue.fullOfReplies (q : OutQueue) : Bool :=
  Config.queueLimit ≤ q.frames.countP Frame.isReply

/-- The head frame begins to leave; on an empty queue the link is left idle (07 R141, log 6). -/
def OutQueue.transmit (q : OutQueue) : OutQueue :=
  { q with frames := q.frames.tail, sending := q.frames.head? }

/-- Every forwarded report of a loader is removed, uncounted (01 R5, 07 R141). -/
def OutQueue.withoutReports (q : OutQueue) (l : LoaderId) : OutQueue :=
  { q with frames := q.frames.filter fun f => f.reportOf != some l }

/-- The queue is emptied, uncounted; a frame that has begun to leave is completed (07 R141,
08 R149). -/
def OutQueue.emptied (q : OutQueue) : OutQueue := { q with frames := [] }

/-- The delivery queue of a link. -/
def State.queue (s : State) : Port → OutQueue
  | .chair c => s.queues[c]
  | .supervisor => s.supQueue

/-- Changes the delivery queue of a link. -/
def State.modQueue (s : State) (p : Port) (f : OutQueue → OutQueue) : State :=
  match p with
  | .chair c => { s with queues := s.queues.set c (f s.queues[c]) }
  | .supervisor => { s with supQueue := f s.supQueue }

/-- A reply joins the sender's delivery queue, with the request's tag (08 R149). -/
def State.answer (s : State) (h : Header) (k : ReqKind) (r : Reply) : State :=
  s.modQueue h.sender.port (·.join ⟨h.tag, .reply k r⟩)

/-- An OK reply with its fields. -/
def State.ok (s : State) (h : Header) (k : ReqKind) (b : OkBody) : State := s.answer h k (.ok b)

/-- A frame that the switch sends unasked joins a chair's queue; it is not built while the chair's
link is not UP (02 R43, 04 R92, 07 R139). -/
def State.toChair (s : State) (c : ChairId) (b : FrameBody) : State :=
  if s.isUp c then s.modQueue (.chair c) (·.join ⟨0, b⟩) else s

/-- A notice to a chair. -/
def State.tellChair (s : State) (c : ChairId) (n : Notice) : State := s.toChair c (.notice n)

/-- A notice to a chair, where there is one. -/
def State.tellChair? (s : State) (c : Option ChairId) (n : Notice) : State :=
  match c with
  | some c => s.tellChair c n
  | none => s

/-- A notice to the supervisor. -/
def State.tellSup (s : State) (n : Notice) : State :=
  s.modQueue .supervisor (·.join ⟨0, .notice n⟩)

/-! ## The order line (08 R158, R159) -/

/-- The order is a DRIVE. -/
def Order.isDrive (o : Order) : Bool :=
  match o.body with
  | .drive .. => true
  | _ => false

/-- Removes the oldest order whose loader also has a later order waiting (08 R159, step 3). -/
def dropOvertaken : List Order → List Order
  | [] => []
  | o :: rest => if rest.any (·.loader == o.loader) then rest else o :: dropOvertaken rest

/-- The dropped-order counter gains one (08 R159). -/
def FleetLink.drop (f : FleetLink) (orders : List Order) : FleetLink :=
  { f with orders := orders, dropped := gain 1 f.dropped }

/-- An order joins the order line; a full line spends its oldest DRIVE, then refuses a DRIVE, then
spends the oldest order that a later order of the same loader follows (08 R159). -/
def FleetLink.join (f : FleetLink) (o : Order) : FleetLink :=
  if f.orders.length < Config.orderLimit then
    { f with orders := f.orders ++ [o] }
  else if f.orders.any Order.isDrive then
    f.drop (f.orders.eraseP Order.isDrive ++ [o])
  else if o.isDrive then
    f.drop f.orders
  else
    f.drop (dropOvertaken f.orders ++ [o])

/-- The head order begins to leave; on an empty line the link is left idle (08 R158, log 6). -/
def FleetLink.transmit (f : FleetLink) : FleetLink :=
  { f with orders := f.orders.tail, sending := f.orders.head? }

/-- Builds an order for a loader, addressed to the radio address in its map entry; none is built
for a loader that is not enrolled (01 R6). -/
def State.order (s : State) (l : LoaderId) (b : OrderBody) : State :=
  match s.radioMap[l] with
  | some a => { s with fleet := s.fleet.join ⟨l, a, b⟩ }
  | none => s

/-! ## Refusals of the switch -/

/-- The first check that fails gives the reason (03 R49, R50 and every ordered examination). -/
def ensure (p : Prop) [Decidable p] (r : Reason) : Except Reason Unit :=
  if p then .ok () else .error r

/-- A number or code that must have a meaning (03 R49: BADVALUE). -/
def meaning {α : Type} (x : Option α) : Except Reason α :=
  match x with
  | some a => .ok a
  | none => .error .badValue

/-- The reply to an examined request: the reason of the first failure and no change of state, or
what the accepted request does. -/
def State.examined {α : Type} (s : State) (h : Header) (k : ReqKind) (v : Except Reason α)
    (accept : α → State) : State :=
  match v with
  | .error r => s.answer h k (.refused r)
  | .ok a => accept a

/-- The loader is enrolled (01 R2). -/
def State.enrolled (s : State) (l : LoaderId) : Except Reason Unit :=
  ensure ((s.loader l).state ≠ .unenrolled) .unknownLoader

end Sys2Proof.Machine
end

