-- ==== Sys2Proof/Machine/Flags.lean ====
section
/-! DEFINITION. The conditions that the rules compute from the state: authority, judged mode,
permissibility and verdict (Chapter 2), hold condition and silence threshold (Chapter 1), manual
load (03 R51), a closure's count (02 R33), the lamps (02 R40). None of them changes anything. -/

namespace Sys2Proof.Machine

/-! ## Loaders -/

/-- The loader has authority (00 0-7): DRIVEN, SUPERVISED, ORPHANED or TRANSFER. -/
def LoaderState.hasAuthority : LoaderState → Bool
  | .driven | .supervised | .orphaned | .transfer => true
  | _ => false

/-- The record stands in a state with authority. -/
def Loader.hasAuthority (r : Loader) : Bool := r.state.hasAuthority

/-- The mode the holder holds the loader in, where there is a holder (04 R75: the held mode). -/
def Loader.heldMode (r : Loader) : Option Mode := r.holder.map (·.mode)

/-- The chair that holds the loader, where there is one. -/
def Loader.holderChair (r : Loader) : Option ChairId := r.holder.map (·.chair)

/-- The chair holds the loader. -/
def Loader.heldBy (r : Loader) (c : ChairId) : Bool := r.holderChair == some c

/-- The record's position lies in the zone. -/
def Loader.inZone (r : Loader) (z : ZoneId) : Bool := r.position.any (·.zone == z)

/-- The record's position lies on the level. -/
def Loader.onLevel (r : Loader) (n : LevelId) : Bool := r.position.any fun p => levelOf p.zone == n

/-- The zone of the recorded position. -/
def Loader.zone? (r : Loader) : Option ZoneId := r.position.map (·.zone)

/-- The zone and chainage of the recorded position (06 R118). -/
def Loader.place (r : Loader) : Option (ZoneId × Nat) := r.position.map fun p => (p.zone, p.chainage)

/-- The mode a loader with authority is judged in (02 2-3): a loader in TRANSFER by its held mode,
or by the target mode where it has no holder. -/
def State.judgedMode (s : State) (l : LoaderId) : Mode :=
  match (s.loader l).state with
  | .driven => .manual
  | .transfer =>
    match (s.loader l).heldMode with
    | some m => m
    | none => ((s.handoverOf l).map (·.target)).getD .supervised
  | _ => .supervised

/-! ## Ground (02 2-2, 2-3) -/

/-- The limit of a zone's open length, in dm (02 R24). -/
def Zone.limit (z : Zone) : Nat :=
  match z.measuredFrom with
  | .entrance => 40 * z.openLength
  | .farEnd => Config.zoneLength - 40 * z.openLength

/-- The chainage lies within the open length (02 R24). -/
def Zone.within (z : Zone) (chainage : Nat) : Bool :=
  match z.measuredFrom with
  | .entrance => decide (chainage < z.limit)
  | .farEnd => decide (z.limit ≤ chainage)

/-- The class admits the mode (02 R25). -/
def ZoneClass.admits : ZoneClass → Mode → Bool
  | .closed, _ => false
  | .autoFlagged, .manual => false
  | .autoOnly, .manual => false
  | _, _ => true

/-- The class admits the mode at the chainage: the position is permissible too (02 R25). -/
def Zone.admitsAt (z : Zone) (chainage : Nat) (m : Mode) : Bool :=
  z.cls.admits m && z.within chainage

/-- A position is permissible in its zone (02 R24). -/
def Zone.permissible (z : Zone) (chainage : Nat) : Bool := z.cls != .closed && z.within chainage

/-- The zone's class admits the mode at the loader's recorded position (03 R50, check 11). -/
def State.admitsMode (s : State) (l : LoaderId) (m : Mode) : Bool :=
  (s.loader l).position.any fun p => (s.zone p.zone).admitsAt p.chainage m

/-- The zone of the loader's recorded position is Closing (02 R27, check 10). -/
def State.inClosing (s : State) (l : LoaderId) : Bool :=
  (s.loader l).position.any fun p => (s.zone p.zone).closing.isSome

/-- The barrier of the level of the loader's recorded position is breached (02 R27, check 12). -/
def State.barrierBreached (s : State) (l : LoaderId) : Bool :=
  (s.loader l).position.any fun p => s.barriers[levelOf p.zone]

/-- The causes a verdict can name (02 R26), in the order of its tests. -/
inductive Verdict where
  | permissible | zoneClosed | brow | zoneMode | closing | barrier
  deriving DecidableEq, Repr

/-- The verdict on the recorded position of a loader with authority (02 R26). `before` is the zone
of the position that the record held before the event: the position has entered its zone when that
is another one, or none. -/
def State.verdict (s : State) (l : LoaderId) (before : Option ZoneId) : Verdict :=
  match (s.loader l).position with
  | none => .permissible
  | some p =>
    let z := s.zone p.zone
    let m := s.judgedMode l
    if z.cls = .closed then .zoneClosed
    else if !z.within p.chainage then .brow
    else if m = .manual ∧ (z.cls = .autoFlagged ∨ z.cls = .autoOnly) then .zoneMode
    else if z.closing.isSome ∧ before ≠ some p.zone then .closing
    else if m = .supervised ∧ s.barriers[levelOf p.zone] then .barrier
    else .permissible

/-- The loaders with authority whose recorded position lies in the zone: a closure's count is their
number (02 R33). -/
def State.authorityIn (s : State) (z : ZoneId) : List LoaderId :=
  s.loadersWhere fun r => r.hasAuthority && r.inZone z

/-- LAMP n is lit while a loader with authority is recorded on level n (02 R40). -/
def State.lampDue (s : State) (n : LevelId) : Bool :=
  (List.finRange 32).any fun l => (s.loader l).hasAuthority && (s.loader l).onLevel n

/-! ## Hold condition and silence threshold (Chapter 1) -/

/-- A handover holds its loader: SETTLING and not suspended, or CONFIRMING (01 R19). -/
def Handover.holds (h : Handover) : Bool :=
  (h.phase == .settling && !h.suspended) || h.phase == .confirming

/-- The loader is in a hold condition (01 R19). -/
def State.holdCondition (s : State) (l : LoaderId) : Bool :=
  match (s.loader l).state with
  | .parked | .halted | .isolated => true
  | .transfer => (s.handoverOf l).any Handover.holds || (s.loader l).lapse
  | _ => (s.loader l).lapse

/-- The loader is one that the Drive Gate forwards drive orders to (01 R20, 05 R95). -/
def State.drivable (s : State) (l : LoaderId) : Bool :=
  match (s.loader l).state with
  | .driven => true
  | .transfer =>
    (s.loader l).heldMode == some .manual && (s.handoverOf l).any (·.phase != .confirming)
  | _ => false

/-- The silence threshold that applies to the loader (01 R17). -/
def State.silenceThreshold (s : State) (l : LoaderId) : Nat :=
  let t := (s.loader l).silence
  match (s.loader l).state with
  | .supervised | .orphaned => t.supervised
  | .transfer =>
    match s.handoverOf l with
    | some h =>
      if (h.phase = .offered ∨ h.phase = .requested) ∧
          (s.loader l).heldMode = some .supervised then t.supervised else t.manual
    | none => t.manual
  | _ => t.manual

/-! ## Chairs -/

/-- The loaders that the chair holds in manual mode (03 R51). -/
def State.manualHeld (s : State) (c : ChairId) : Nat :=
  (s.loadersWhere fun r => r.hasAuthority && r.heldBy c && r.heldMode == some .manual).length

/-- The manual handovers toward the chair that hold a slot of it (03 R51), without the one named. -/
def State.manualToward (s : State) (c : ChairId) (without : Option CtxId) : Nat :=
  ((s.contextsWhere fun h => h.taking == c && h.slot.isSome && h.target == .manual).filter
    fun k => some k != without).length

/-- The chair's manual load (03 R51). At a commit the committing handover is left out. -/
def State.manualLoad (s : State) (c : ChairId) (without : Option CtxId := none) : Nat :=
  s.manualHeld c + s.manualToward c without

end Sys2Proof.Machine
end

