-- ==== Sys2Proof/Machine/WatchOps.lean ====
section
/-! DEFINITION. The operations of the Watch Table (Chapter 7): lookup, placing a watch, locking and
unlocking a pair, invalidating entries, and marking a delivery. -/

namespace Sys2Proof.Machine

/-- The set of a pair: the loader number combined by exclusive OR with four times the chair number
(07 R133). -/
def setOf (c : ChairId) (l : LoaderId) : SetId :=
  (BitVec.ofNat 6 l.val ^^^ BitVec.ofNat 6 (4 * c.val)).toFin

/-- The entry names the pair. -/
def PinnedEntry.names (e : PinnedEntry) (c : ChairId) (l : LoaderId) : Bool :=
  e.chair == c && e.loader == l

/-- The pinned entry of a pair (07 R133). -/
def WatchTable.pinnedOf (w : WatchTable) (c : ChairId) (l : LoaderId) : Option PinnedId :=
  (List.finRange 40).find? fun i => (w.pinned[i]).any (·.names c l)

/-- The pair stands in a locked pinned entry. -/
def WatchTable.isLocked (w : WatchTable) (c : ChairId) (l : LoaderId) : Bool :=
  (List.finRange 40).any fun i => (w.pinned[i]).any fun e => e.names c l && e.locked

/-- The way of its set that a pair stands in: false is way 0, true is way 1 (07 R133). -/
def WatchTable.wayOf (w : WatchTable) (c : ChairId) (l : LoaderId) : Option Bool :=
  let set := w.openSets[setOf c l]
  if set.way0 = some (c, l) then some false
  else if set.way1 = some (c, l) then some true
  else none

/-- The pair has an entry in either part. -/
def WatchTable.watches (w : WatchTable) (c : ChairId) (l : LoaderId) : Bool :=
  (w.pinnedOf c l).isSome || (w.wayOf c l).isSome

/-- Writes a pinned entry. -/
def WatchTable.setPinned (w : WatchTable) (i : PinnedId) (e : Option PinnedEntry) : WatchTable :=
  { w with pinned := w.pinned.set i e }

/-- Writes an open set. -/
def WatchTable.setOpen (w : WatchTable) (i : SetId) (x : OpenSet) : WatchTable :=
  { w with openSets := w.openSets.set i x }

/-- A pinned entry changed in place, if it is valid. -/
def WatchTable.modPinned (w : WatchTable) (i : PinnedId) (f : PinnedEntry → PinnedEntry) :
    WatchTable :=
  w.setPinned i ((w.pinned[i]).map f)

/-- The pair of an open way becomes invalid; the recency mark is left as it was (07 R135, R136). -/
def OpenSet.clear (x : OpenSet) (p : ChairId × LoaderId) : OpenSet :=
  { x with
    way0 := if x.way0 = some p then none else x.way0
    way1 := if x.way1 = some p then none else x.way1 }

/-- The open way of a pair becomes invalid. -/
def WatchTable.clearOpen (w : WatchTable) (c : ChairId) (l : LoaderId) : WatchTable :=
  w.setOpen (setOf c l) ((w.openSets[setOf c l]).clear (c, l))

/-- A delivery, or a WATCH that finds its pair, touches the entry: a pinned entry's used flag is
set, an open set's recency mark is made to name the other way (07 R134, R139). -/
def WatchTable.touch (w : WatchTable) (c : ChairId) (l : LoaderId) : WatchTable :=
  match w.pinnedOf c l with
  | some i => w.modPinned i fun e => { e with used := true }
  | none =>
    match w.wayOf c l with
    | some way => w.setOpen (setOf c l) { w.openSets[setOf c l] with mark := !way }
    | none => w

/-- A pair that is absent is placed in its set: an invalid way, way 0 before way 1, else the way
that the recency mark names, whose pair is evicted. The mark then names the way not taken
(07 R134). -/
def WatchTable.place (w : WatchTable) (c : ChairId) (l : LoaderId) :
    WatchTable × Option (ChairId × LoaderId) :=
  let x := w.openSets[setOf c l]
  let way := if x.way0.isNone then false else if x.way1.isNone then true else x.mark
  if way then (w.setOpen (setOf c l) { x with way1 := some (c, l), mark := false }, x.way1)
  else (w.setOpen (setOf c l) { x with way0 := some (c, l), mark := true }, x.way0)

/-- The lowest-numbered pinned entry that satisfies a test. -/
def WatchTable.firstPinned (w : WatchTable) (p : Option PinnedEntry → Bool) : Option PinnedId :=
  (List.finRange 40).find? fun i => p w.pinned[i]

/-- The used flag of every unlocked entry is cleared (07 R136, step 3.3). -/
def WatchTable.clearUsed (w : WatchTable) : WatchTable :=
  { w with pinned := w.pinned.map fun e => e.map fun e =>
      if e.locked then e else { e with used := false } }

/-- The entry may take a new pair: it is unlocked and its used flag is clear (07 R136). -/
def PinnedEntry.spare (e : PinnedEntry) : Bool := !e.locked && !e.used

/-- The place that a lock finds in the pinned part, in the order of 07 R136, step 3, with the table
whose used flags step 3.3 may have cleared. -/
def WatchTable.findPlace (w : WatchTable) : WatchTable × Option PinnedId :=
  match w.firstPinned (·.isNone) with
  | some i => (w, some i)
  | none =>
    match w.firstPinned (·.any PinnedEntry.spare) with
    | some i => (w, some i)
    | none => (w.clearUsed, w.clearUsed.firstPinned (·.any PinnedEntry.spare))

/-- Locks a pair; the answer names a pair that was evicted for it (07 R136). -/
def WatchTable.lock (w : WatchTable) (c : ChairId) (l : LoaderId) :
    WatchTable × Option (ChairId × LoaderId) :=
  match w.pinnedOf c l with
  | some i =>
    if (w.pinned[i]).any (·.locked) then (w, none)
    else (w.modPinned i fun e => { e with locked := true, used := true }, none)
  | none =>
    let (w, place) := (w.clearOpen c l).findPlace
    match place with
    | some i =>
      (w.setPinned i (some ⟨c, l, true, true⟩), (w.pinned[i]).map fun e => (e.chair, e.loader))
    | none => (w, none)

/-- Unlocks a pair: its pinned entry stays valid, in the same entry, its used flag as it stood
(07 R137). -/
def WatchTable.unlock (w : WatchTable) (c : ChairId) (l : LoaderId) : WatchTable :=
  match w.pinnedOf c l with
  | some i => w.modPinned i fun e => { e with locked := false }
  | none => w

/-- Invalidates the pinned entries and the open pairs that satisfy a test; marks are left. -/
def WatchTable.invalidate (w : WatchTable) (p : PinnedEntry → Bool)
    (q : ChairId × LoaderId → Bool) : WatchTable where
  pinned := w.pinned.map fun e => e.filter fun e => !p e
  openSets := w.openSets.map fun x =>
    { x with way0 := x.way0.filter fun y => !q y, way1 := x.way1.filter fun y => !q y }

/-- The entry of a pair becomes invalid (07 R135). -/
def WatchTable.remove (w : WatchTable) (c : ChairId) (l : LoaderId) : WatchTable :=
  match w.pinnedOf c l with
  | some i => w.setPinned i none
  | none => w.clearOpen c l

/-- Every entry for a loader becomes invalid (01 R5, 07 R137). -/
def WatchTable.forgetLoader (w : WatchTable) (l : LoaderId) : WatchTable :=
  w.invalidate (fun e => e.loader == l) fun y => y.2 == l

/-- Every unlocked entry for a chair becomes invalid (06 R120, step 3). -/
def WatchTable.forgetChair (w : WatchTable) (c : ChairId) : WatchTable :=
  w.invalidate (fun e => e.chair == c && !e.locked) fun y => y.1 == c

/-- The notice to the chair of an evicted pair (07 R138). -/
def State.tellEvicted (s : State) (p : Option (ChairId × LoaderId)) (part : WatchPart) : State :=
  match p with
  | some (c, l) => s.tellChair c (.watchEvicted l part)
  | none => s

/-- The Watch Table is asked to lock a pair (07 R136, R138). -/
def State.lockPair (s : State) (c : ChairId) (l : LoaderId) : State :=
  State.tellEvicted { s with watch := (s.watch.lock c l).1 } (s.watch.lock c l).2 .pinnedPart

/-- The Watch Table is asked to unlock a pair (07 R137). -/
def State.unlockPair (s : State) (c : ChairId) (l : LoaderId) : State :=
  { s with watch := s.watch.unlock c l }

/-- A watch that is absent is placed in the open part (07 R134, R138). -/
def State.placeWatch (s : State) (c : ChairId) (l : LoaderId) : State :=
  State.tellEvicted { s with watch := (s.watch.place c l).1 } (s.watch.place c l).2 .openPart

end Sys2Proof.Machine
end

