-- ==== Sys2Proof/Machine/LoaderOps.lean ====
section
/-! DEFINITION. Operations on a loader and on the ground it stands on: hold orders and their refresh
(01 R19), drive lapse (01 R20, R21), lamps (02 R40), the flags of a zone (02 R28, R29), the
completion of a closure (02 R35), and entry to HALTED (06 R117). -/

namespace Sys2Proof.Machine

/-! ## Hold orders and drive lapse -/

/-- A HOLD is built for the loader, and its refresh timer restarts if a hold condition holds
(01 R19). -/
def State.emitHold (s : State) (l : LoaderId) : State :=
  let s := s.order l .hold
  if s.holdCondition l then
    s.modLoader l fun r => { r with holdRefresh := some (Timer.start Config.holdRefreshMs) }
  else s

/-- The hold refresh timer stops when no hold condition is left (01 R19). -/
def State.settleRefresh (s : State) (l : LoaderId) : State :=
  if s.holdCondition l then s else s.modLoader l fun r => { r with holdRefresh := none }

/-- The lapse timer starts afresh with the drive-lapse flag clear (01 R20). -/
def State.startLapse (s : State) (l : LoaderId) : State :=
  s.modLoader l fun r =>
    { r with lapse := false, lapseTimer := some (Timer.start s.params.driveLapse) }

/-- The lapse timer stops and the drive-lapse flag clears (01 R21). -/
def State.stopLapse (s : State) (l : LoaderId) : State :=
  s.modLoader l fun r => { r with lapse := false, lapseTimer := none }

/-- The loader's silence timer restarts, latching the two silence times in force (01 R10, R17). -/
def State.restartSilence (s : State) (l : LoaderId) : State :=
  s.modLoader l fun r =>
    { r with silence := ⟨0, s.params.manualSilence, s.params.supervisedSilenceMs⟩ }

/-! ## Lamps and zone flags -/

/-- The Zone Table changes the lamp outputs to what authority and position now ask (02 R40). -/
def State.updateLamps (s : State) : State := { s with lamps := Vector.ofFn s.lampDue }

/-- The entered flag of a zone is set (02 R28). -/
def State.markEntered (s : State) (z : ZoneId) : State :=
  s.modZone z fun x => { x with entered := true }

/-- The attention flag of a zone is set for a loader; when it was clear and attention notices are
on, the supervisor receives ZONE_ATTENTION (02 R29). -/
def State.raiseAttention (s : State) (z : ZoneId) (l : LoaderId) : State :=
  if (s.zone z).attention then s
  else
    let s := s.modZone z fun x => { x with attention := true }
    if s.params.attention = 0 then s
    else s.tellSup (.zoneAttention z (s.zone z).cls l (s.loader l).holderChair s.seconds)

/-- The Zone Table records the presence of a loader with authority at its recorded position: the
attention flag of a class-1 or class-3 zone (02 R29). -/
def State.recordPresence (s : State) (l : LoaderId) : State :=
  match (s.loader l).zone? with
  | none => s
  | some z =>
    if (s.zone z).cls = .autoFlagged ∨ (s.zone z).cls = .openFlagged then s.raiseAttention z l
    else s

/-! ## Closures -/

/-- The closure of a zone completes: its context is freed, the descriptor is written Closed with
both flags clear, and the supervisor receives CLOSURE_DONE (02 R35). -/
def State.completeClosure (s : State) (z : ZoneId) (k : ClosureId) (halted : Nat) : State :=
  let entered := (s.zone z).entered
  let s := s.setClosure k none
  let s := s.modZone z fun x =>
    { x with cls := .closed, closing := none, entered := false, attention := false }
  s.tellSup (.closureDone z halted entered)

/-- The completion check of a zone: a Closing zone with a count of zero completes (02 R35). -/
def State.checkClosure (s : State) (z : ZoneId) (halted : Nat := 0) : State :=
  match (s.zone z).closing with
  | some k => if (s.authorityIn z).isEmpty then s.completeClosure z k halted else s
  | none => s

/-- The completion check of a zone, where there is one. -/
def State.checkClosure? (s : State) (z : Option ZoneId) : State :=
  match z with
  | some z => s.checkClosure z
  | none => s

/-- The completion check of the zone of every closure in flight that satisfies a test, in order of
closure context (02 R35; the order is log 12). -/
def State.checkClosures (s : State) (p : ZoneId → Bool := fun _ => true) : State :=
  (List.finRange 4).foldl (fun s k =>
    match s.closure k with
    | some x => if p x.zone then s.checkClosure x.zone else s
    | none => s) s

/-! ## Entry to HALTED -/

/-- A halt record takes a further cause (06 R118, R119). -/
def HaltRecord.addCause (h : HaltRecord) (cause : Cause) : HaltRecord :=
  { h with latest := cause, further := min 255 (h.further + 1), overwritten := true }

/-- A HALTED loader records a further cause; no notice is sent (06 R119). -/
def State.furtherCause (s : State) (l : LoaderId) (cause : Cause) : State :=
  s.modLoader l fun r => { r with halt := r.halt.map (·.addCause cause) }

/-- The holder's hands are emptied: its slot becomes Empty and its pair is unlocked (06 R117,
step 1; 03 R57, R62; 04 R79). -/
def State.vacate (s : State) (l : LoaderId) : State :=
  match (s.loader l).holder with
  | some h => (s.fillSlot h.chair h.slot .empty).unlockPair h.chair l
  | none => s

/-- The record of a loader that has entered HALTED (06 R117, steps 1 to 4). -/
def Loader.halted (r : Loader) (record : HaltRecord) : Loader :=
  { r with
    state := .halted, holder := none, prior := none, context := none
    lastHolder := r.holderChair.or r.lastHolder
    grace := none, halt := some record, lapse := false, lapseTimer := none }

/-- The HALTED notice, to the last holder when its link is UP and then to the supervisor
(06 R117, step 5). -/
def State.tellHalted (s : State) (l : LoaderId) (slot : Option SlotId) (cause : Cause) : State :=
  let r := s.loader l
  let n := Notice.halted l slot cause r.place r.lastHolder s.seconds
  (s.tellChair? r.lastHolder n).tellSup n

/-- A loader with authority enters HALTED for a cause (06 R117), with the record of R118, or, for a
loader whose halt record its handover context held, with that record and a further cause (04 R89).
The completion checks of step 6 are made by the event, once its halts and aborts are done
(02 R35). -/
def State.enterHaltedWith (s : State) (l : LoaderId) (cause : Cause) (held : Option HaltRecord) :
    State :=
  let r := s.loader l
  let record := match held with
    | some h => h.addCause cause
    | none => ⟨cause, r.place, r.holderChair, s.seconds, cause, 0, false⟩
  let s := s.vacate l
  let s := s.modLoader l (·.halted record)
  let s := s.emitHold l
  (s.tellHalted l (r.holder.map (·.slot)) cause).updateLamps

/-- A loader with authority enters HALTED for a cause, with a new halt record (06 R117, R118). -/
def State.enterHalted (s : State) (l : LoaderId) (cause : Cause) : State :=
  s.enterHaltedWith l cause none

/-- Loaders are halted one after another. -/
def State.haltAll (s : State) (ls : List LoaderId) (cause : Cause) : State :=
  ls.foldl (fun s l => s.enterHalted l cause) s

/-- HALTED loaders take a further cause one after another. -/
def State.furtherAll (s : State) (ls : List LoaderId) (cause : Cause) : State :=
  ls.foldl (fun s l => s.furtherCause l cause) s

end Sys2Proof.Machine
end

