-- ==== Sys2Proof/Machine/Grants.lean ====
section
/-! DEFINITION. The grant checks (03 R50, R52), the grant (03 R53) and the examination that every
request of Chapter 3 begins with (03 R49). -/

namespace Sys2Proof.Machine

/-- Checks 3 to 6: STOP_ALL, the taking chair's link and stop, and the named slot (03 R50). -/
def State.checkChair (s : State) (c : ChairId) (i : SlotId) : Except Reason Unit := do
  ensure (s.stopAll = false) .stopped
  ensure (s.isUp c = true) .chairDown
  ensure ((s.chair c).stop = false) .stopped
  ensure ((s.slot c i).contents = .empty) .slotBusy

/-- Checks 7 and 8: the loader has a position, is heard, and is not in local control (03 R50). -/
def State.checkHeard (s : State) (l : LoaderId) : Except Reason Unit := do
  ensure ((s.loader l).position.isSome ∧ (s.loader l).radioSilent = false) .silent
  ensure ((s.loader l).onboard = .remote) .atMachine

/-- The level of the loader's recorded position is in the chair's clearance (03 R50, check 9). -/
def State.cleared (s : State) (c : ChairId) (l : LoaderId) : Bool :=
  (s.loader l).position.any fun p => (s.chair c).clearance.getLsbD (levelOf p.zone).val

/-- Checks 9 to 13: clearance, closing, ground, barrier, manual load (03 R50). `without` is the
handover that a commit leaves out of the load (03 R51). -/
def State.checkGround (s : State) (l : LoaderId) (c : ChairId) (m : Mode)
    (without : Option CtxId := none) : Except Reason Unit := do
  ensure (s.cleared c l = true) .clearance
  ensure (s.inClosing l = false) .closing
  ensure (s.admitsMode l m = true) .zoneDenied
  ensure (m = .supervised → s.barrierBreached l = false) .barrier
  ensure (m = .manual → s.manualLoad c without = 0) .manualBusy

/-- Check 14: for manual mode the chair's controls are neutral (03 R50). -/
def State.checkNeutral (s : State) (c : ChairId) (m : Mode) : Except Reason Unit :=
  ensure (m = .manual → (s.chair c).neutral = true) .notNeutral

/-- Checks 3 to 14 of ACCEPT, REQUEST and FORCE (03 R52). -/
def State.checkReserve (s : State) (l : LoaderId) (c : ChairId) (i : SlotId) (m : Mode) :
    Except Reason Unit := do
  s.checkChair c i
  s.checkHeard l
  s.checkGround l c m
  s.checkNeutral c m

/-- Checks 3 to 15 of CLAIM and RECLAIM (03 R52). -/
def State.checkGrant (s : State) (l : LoaderId) (c : ChairId) (i : SlotId) (m : Mode) :
    Except Reason Unit := do
  s.checkReserve l c i m
  ensure (m = .manual → (s.loader l).stationary = true) .notStationary

/-- The state of a loader held in a mode (03 R53). -/
def Mode.heldState : Mode → LoaderState
  | .manual => .driven
  | .supervised => .supervised

/-- The record of a loader just granted (03 R53, steps 1, 2 and 4; the orphan grace timer stops at a
commit, 04 R79). -/
def Loader.granted (r : Loader) (c : ChairId) (i : SlotId) (m : Mode) : Loader :=
  { r with
    state := m.heldState, holder := some ⟨c, i, m⟩, prior := none, context := none
    epoch := r.epoch + 1, lastHolder := none, halt := none, grace := none }

/-- The lapse timer as a mode wants it: started afresh for manual, stopped for supervised
(01 R20, R21). -/
def State.setLapse (s : State) (l : LoaderId) (m : Mode) : State :=
  match m with
  | .manual => s.startLapse l
  | .supervised => s.stopLapse l

/-- A grant of a loader to a chair's slot in a mode, in the steps of 03 R53. -/
def State.grant (s : State) (l : LoaderId) (c : ChairId) (i : SlotId) (m : Mode) : State :=
  let s := s.modLoader l (·.granted c i m)
  let s := s.modSlot c i fun _ => ⟨.bound l, none, .fresh⟩
  let s := (s.setLapse l m).settleRefresh l
  let s := s.lockPair c l
  (s.recordPresence l).updateLamps

/-- The examination of a chair's request that names a loader and nothing else that can be without a
meaning (03 R49). -/
def State.examineChair (s : State) (h : Header) (loader : Byte) :
    Except Reason (ChairId × LoaderId) := do
  let c ← h.fromChair
  let l ← meaning (loaderOf loader)
  s.enrolled l
  .ok (c, l)

/-- The examination of a supervisor's request that names a loader (03 R49, 01 R5, R16). -/
def State.examineSup (s : State) (h : Header) (loader : Byte) : Except Reason LoaderId := do
  h.fromSup
  let l ← meaning (loaderOf loader)
  s.enrolled l
  .ok l

/-- The tests that RELEASE, MODE and MISSION share: the loader has a holder, the holder is the
sender, and the state is not TRANSFER (03 R57, R58, R60). The answer is the holding. A loader forced
from ORPHANED has no releasing chair and keeps its holder: the holder of its record is the one
tested, so that a third chair is answered NOT_PARTY (DESIGN CHOICE, log 36). -/
def State.examineHolder (s : State) (l : LoaderId) (c : ChairId) : Except Reason Holding :=
  match (s.loader l).holder with
  | none => .error .loaderState
  | some h => do
    ensure (h.chair = c) .notParty
    ensure ((s.loader l).state ≠ .transfer) .busy
    .ok h

end Sys2Proof.Machine
end

