-- ==== Sys2Proof/Machine/HandoverOps.lean ====
section
/-! DEFINITION. The operations of the Handover Engine (Chapter 4): creation, entry to the phases,
commit and abort. -/

namespace Sys2Proof.Machine

/-! ## Creation and phases -/

/-- The lowest-numbered free context (04 R66). -/
def State.freeContext (s : State) : Option CtxId :=
  (List.finRange 8).find? fun k => (s.handover k).isNone

/-- A context must be free (04 R68 to R70). -/
def State.needContext (s : State) : Except Reason CtxId :=
  match s.freeContext with
  | some k => .ok k
  | none => .error .noContext

/-- A request that starts a handover of a loader (04 R68 to R70). -/
structure Start where
  loader : LoaderId
  kind : HandoverKind
  taking : ChairId
  slot : Option SlotId
  target : Mode
  context : CtxId
  deriving DecidableEq, Repr

/-- The releasing chair of a new handover (04 R65): the holder, but for a FORCE from ORPHANED,
whose holder is no party. -/
def Loader.releasing (r : Loader) : Option ChairId :=
  if r.state = .orphaned then none else r.holderChair

/-- A handover is created, in the steps of 04 R66, in a phase whose timer starts from a setting. -/
def State.createHandover (s : State) (x : Start) (phase : Phase) (ms : Nat) : State :=
  let r := s.loader x.loader
  let s := s.setHandover x.context (some
    { loader := x.loader, kind := x.kind, releasing := r.releasing, taking := x.taking
      slot := x.slot, target := x.target, phase := phase, timer := Timer.start ms
      suspended := false, watchdog := Timer.start s.params.watchdogMs, held := r.halt })
  let s := s.modLoader x.loader fun r =>
    { r with state := .transfer, prior := some r.state, context := some x.context, halt := none }
  let s := match x.slot with
    | some i => s.fillSlot x.taking i (.reserved x.loader x.context)
    | none => s
  (s.lockPair x.taking x.loader).updateLamps

/-- A notice to the releasing chair, where there is one, and to the taking chair. -/
def State.tellParties (s : State) (h : Handover) (n : Notice) : State :=
  (s.tellChair? h.releasing n).tellChair h.taking n

/-- Entry to SETTLING (04 R76), and the return to it (04 R77). -/
def State.enterSettling (s : State) (k : CtxId) : State :=
  match s.handover k with
  | none => s
  | some h =>
    let s := s.setHandover k (some
      { h with phase := .settling, timer := Timer.start s.params.settleMs })
    let s := s.emitHold h.loader
    s.tellParties h (.settleStarted k h.loader s.params.settle)

/-- Entry to CONFIRMING (04 R77). -/
def State.enterConfirming (s : State) (k : CtxId) : State :=
  match s.handover k with
  | none => s
  | some h =>
    let s := s.setHandover k (some
      { h with phase := .confirming, timer := Timer.start s.params.confirmMs })
    let s := if (s.loader h.loader).heldMode = some .manual then s.stopLapse h.loader else s
    let s := s.emitHold h.loader
    let n := Notice.confirmNeeded k h.loader h.slot h.target s.params.confirm
    (s.tellChair h.taking n).tellChair? h.releasing n

/-- The return from CONFIRMING to SETTLING at a moving report (04 R77): for a manual held mode the
lapse timer starts afresh. -/
def State.returnToSettling (s : State) (k : CtxId) : State :=
  match s.handover k with
  | none => s
  | some h =>
    let s := if (s.loader h.loader).heldMode = some .manual then s.startLapse h.loader else s
    s.enterSettling k

/-- The settle-or-confirm decision (04 R75), from the prior state, the held mode and the target. -/
def settleOrConfirm (prior : Option LoaderState) (held : Option Mode) (target : Mode) : Phase :=
  if prior = some .parked ∨ prior = some .halted then .confirming
  else if held = some .supervised ∧ target = .supervised then .confirming
  else .settling

/-- The phase that the decision gives a handover in flight. -/
def State.decidedPhase (s : State) (h : Handover) : Phase :=
  settleOrConfirm (s.loader h.loader).prior (s.loader h.loader).heldMode h.target

/-- The decision is made and its phase entered (04 R75). -/
def State.decidePhase (s : State) (k : CtxId) : State :=
  match s.handover k with
  | none => s
  | some h =>
    match s.decidedPhase h with
    | .confirming => s.enterConfirming k
    | _ => s.enterSettling k

/-! ## Commit -/

/-- A commit passes authority to the taking chair, in the steps of 04 R79. -/
def State.commit (s : State) (k : CtxId) : State :=
  match s.handover k with
  | none => s
  | some h =>
    match h.slot with
    | none => s
    | some i =>
      let l := h.loader
      let former := (s.loader l).holder
      let s := s.vacate l
      let s := s.grant l h.taking i h.target
      let epoch := (s.loader l).epoch
      let s := s.tellChair h.taking (.granted l i h.target epoch)
      let s := match former with
        | some f => s.tellChair f.chair (.released l f.slot)
        | none => s
      let s := s.tellSup (.handoverEnded k l h.kind none h.target.heldState h.taking h.slot
        h.target epoch)
      s.setHandover k none

/-! ## Aborts -/

/-- What aborts a handover: the rows of the table of 04 R87. -/
inductive AbortEvent where
  | declined | refused | cancelled | answerTimeout | settleTimeout | confirmTimeout | watchdog
  | linkTaking | stopTaking | closing | barrier | zoneDenied | clearance | manualBusy | isolated
  | linkReleasing | graceExpired
  | radio | atMachine | brow | zoneClosed | zoneMode | stopAll | stopReleasing | withdrawn | restart
  deriving DecidableEq, Repr

/-- The cause that HANDOVER_ENDED carries (10 R177). -/
def AbortEvent.cause : AbortEvent → Cause
  | .declined => .declined
  | .refused => .refused
  | .cancelled => .cancelled
  | .answerTimeout => .answerTimeout
  | .settleTimeout => .settleTimeout
  | .confirmTimeout => .confirmTimeout
  | .watchdog => .watchdog
  | .linkTaking => .linkT
  | .stopTaking => .chairStop
  | .closing => .closing
  | .barrier => .barrier
  | .zoneDenied => .zoneDenied
  | .clearance => .clearance
  | .manualBusy => .manualBusy
  | .isolated => .withdrawn
  | .linkReleasing => .linkR
  | .graceExpired => .linkR
  | .radio => .radio
  | .atMachine => .atMachine
  | .brow => .brow
  | .zoneClosed => .zoneClosed
  | .zoneMode => .zoneMode
  | .stopAll => .stopAll
  | .stopReleasing => .chairStop
  | .withdrawn => .withdrawn
  | .restart => .restart

/-- Where an abort sends the loader (04 R87). -/
inductive Fate where
  | revert
  | orphan
  | halt (cause : Cause)
  deriving DecidableEq, Repr

/-- The abort-outcome table (04 R87), from the held mode and the orphan grace setting. -/
def AbortEvent.fate (e : AbortEvent) (held : Option Mode) (grace : Nat) : Fate :=
  match e with
  | .declined | .refused | .cancelled | .answerTimeout | .settleTimeout | .confirmTimeout
  | .watchdog | .linkTaking | .stopTaking | .closing | .barrier | .zoneDenied | .clearance
  | .manualBusy | .isolated => .revert
  | .linkReleasing =>
    if held = some .supervised ∧ 0 < grace then .orphan else .halt .chairLink
  | .graceExpired => .halt .chairLink
  | .radio | .atMachine | .brow | .zoneClosed | .zoneMode | .stopAll | .stopReleasing
  | .withdrawn | .restart => .halt e.cause

/-- The loader's state after an abort (04 R88, step 3). -/
def Fate.stateAfter (f : Fate) (prior : LoaderState) : LoaderState :=
  match f with
  | .revert => prior
  | .orphan => .orphaned
  | .halt _ => .halted

/-- The record of a loader that leaves TRANSFER for a state (04 R88, step 3). -/
def Loader.left (r : Loader) (state : LoaderState) : Loader :=
  { r with state := state, prior := none, context := none }

/-- The loader reverts to DRIVEN (04 R89): from CONFIRMING the lapse timer starts afresh and the
slot's last sequence count becomes absent (05 R113). -/
def State.revertToDriven (s : State) (l : LoaderId) (phase : Phase) : State :=
  let s := s.modLoader l (·.left .driven)
  let s := if phase = .confirming then
      let s := s.startLapse l
      match (s.loader l).holder with
      | some x => s.modSlot x.chair x.slot fun slot => { slot with lastCount := none }
      | none => s
    else s
  s.settleRefresh l

/-- The loader reverts to its prior state (04 R89). -/
def State.revertTo (s : State) (l : LoaderId) (prior : LoaderState) (h : Handover) : State :=
  match prior with
  | .driven => s.revertToDriven l h.phase
  | .parked => ((s.modLoader l (·.left .parked)).stopLapse l).emitHold l
  | .halted =>
    ((s.modLoader l fun r => { r.left .halted with halt := h.held }).stopLapse l).emitHold l
  | p => ((s.modLoader l (·.left p)).stopLapse l).settleRefresh l

/-- A SUPERVISED loader becomes ORPHANED, or a loader in TRANSFER by the loss of its releasing
chair's link: it keeps its holder and its grace timer starts (06 R122, 04 R89). -/
def State.orphan (s : State) (l : LoaderId) : State :=
  let s := s.modLoader l fun r =>
    { r.left .orphaned with grace := some (Timer.start s.params.orphanGraceMs) }
  (s.stopLapse l).settleRefresh l

/-- The loader leaves TRANSFER as the fate says (04 R88, step 3; R89). A halt takes effect later,
as step 6. -/
def State.leaveTransfer (s : State) (l : LoaderId) (f : Fate) (prior : LoaderState) (h : Handover) :
    State :=
  match f with
  | .revert => s.revertTo l prior h
  | .orphan => s.orphan l
  | .halt _ => s

/-- The taking slot, where one is Reserved, becomes Empty and the taking pair is unlocked (04 R88,
step 2). -/
def State.dropReservation (s : State) (h : Handover) : State :=
  let s := match h.slot with
    | some i => s.fillSlot h.taking i .empty
    | none => s
  s.unlockPair h.taking h.loader

/-- The held halt record that a halting abort restores: that of a loader forced from HALTED
(04 R89). -/
def Handover.restored (h : Handover) (prior : LoaderState) : Option HaltRecord :=
  if prior = .halted then h.held else none

/-- The fate that an event has for a handover in flight (04 R87). -/
def State.fateOf (s : State) (h : Handover) (e : AbortEvent) : Fate :=
  e.fate (s.loader h.loader).heldMode s.params.orphanGrace

/-- An abort ends a handover without passing authority, in the steps of 04 R88. The lamp is updated
here; the completion checks of step 6 are made by the event, once its halts and aborts are done
(02 R35). -/
def State.abort (s : State) (k : CtxId) (e : AbortEvent) : State :=
  match s.handover k with
  | none => s
  | some h =>
    let l := h.loader
    let prior := (s.loader l).prior.getD .parked
    let fate := s.fateOf h e
    let s := s.dropReservation h
    let s := s.leaveTransfer l fate prior h
    let n := Notice.handoverEnded k l h.kind (some e.cause) (fate.stateAfter prior) h.taking h.slot
      h.target 0
    let s := (s.tellParties h n).tellSup n
    let s := s.setHandover k none
    match fate with
    | .halt cause => s.enterHaltedWith l cause (h.restored prior)
    | _ => s.updateLamps

/-- Handovers are aborted one after another, each with the event that a function gives it
(04 R88: an abort touches no other handover). -/
def State.abortAll (s : State) (ks : List CtxId) (e : CtxId → AbortEvent) : State :=
  ks.foldl (fun s k => s.abort k (e k)) s

/-- The completion check of the zone in which a loader stands (02 R35). -/
def State.checkZoneOf (s : State) (l : LoaderId) : State := s.checkClosure? (s.loader l).zone?

/-- An abort that is the whole of its event: the completion check follows (04 R88, step 6). -/
def State.abortAlone (s : State) (k : CtxId) (e : AbortEvent) : State :=
  match s.handover k with
  | none => s
  | some h => (s.abort k e).checkZoneOf h.loader

/-! ## Halting whatever the state -/

/-- A halt asked of the LAT (06 R116): a loader in TRANSFER has its handover aborted with the cause,
and one with authority outside TRANSFER enters HALTED. The caller makes the completion checks. -/
def State.haltLoader (s : State) (l : LoaderId) (cause : Cause) (e : AbortEvent) : State :=
  match (s.loader l).state with
  | .transfer =>
    match (s.loader l).context with
    | some k => s.abort k e
    | none => s
  | .driven | .supervised | .orphaned => s.enterHalted l cause
  | _ => s

end Sys2Proof.Machine
end

