-- ==== Sys2Proof/Machine/LinkOps.lean ====
section
/-! DEFINITION. What a byte and a frame do to the link they arrive on (Chapter 8): the assembly of a
frame, the error counter and the valid tally, the panel byte and a chair stop (03 R47, 06 R129),
loss and recovery of a chair link (06 R120, R123), and how a request reaches the block that owns it
(08 R155, R156). -/

namespace Sys2Proof.Machine

/-! ## Bytes in reception (08 R147, R161) -/

/-- What a link interface has received of a frame. -/
def State.receiver (s : State) : Link → Receiver
  | .chair c => s.receivers.chairs[c]
  | .supervisor => s.receivers.supervisor
  | .fleet => s.receivers.fleet

/-- Replaces what a link interface has received of a frame. -/
def State.setReceiver (s : State) (k : Link) (r : Receiver) : State :=
  match k with
  | .chair c => { s with receivers := { s.receivers with chairs := s.receivers.chairs.set c r } }
  | .supervisor => { s with receivers := { s.receivers with supervisor := r } }
  | .fleet => { s with receivers := { s.receivers with fleet := r } }

/-- A byte arrives on a link: its interface takes it, and the frame that it completes or shows bad
joins the commands that wait (08 R147). While RESET is asserted the byte is discarded (08 R161). -/
def State.receive (s : State) (k : Link) (x : LineByte) : State :=
  if s.inReset then s
  else
    let done := (s.receiver k).take k x
    let s := s.setReceiver k done.1
    { s with pending := s.pending ++ done.2.toList }

/-! ## Error counter and valid tally (08 R152) -/

/-- A valid frame advances the tally; at 16 it becomes 0 and the error counter loses one. The
answer is the error counter and the tally. -/
def tallyValid (errors tally : Nat) : Nat × Nat :=
  if tally + 1 < Config.runLength then (errors, tally + 1) else (errors - 1, 0)

/-- A bad frame raises the error counter, which stops at 15. -/
def raiseErrors (errors : Nat) : Nat := min 15 (errors + 1)

/-- A chair link's tally advances at a valid frame. -/
def ChairLink.valid (k : ChairLink) : ChairLink :=
  { k with errors := (tallyValid k.errors k.tally).1, tally := (tallyValid k.errors k.tally).2 }

/-- The supervisor link's tally advances at a valid frame (08 R156). -/
def SupLink.valid (k : SupLink) : SupLink :=
  { k with errors := (tallyValid k.errors k.tally).1, tally := (tallyValid k.errors k.tally).2 }

/-- A chair's silence timer restarts, latching the link silence time in force (08 R150), also where
no valid frame restarts it (DEDUCED, log 29). -/
def ChairLink.restartSilence (k : ChairLink) (ps : Params) : ChairLink :=
  { k with silence := some (Timer.start ps.linkSilence) }

/-! ## Panel byte and chair stop -/

/-- The loaders with authority outside TRANSFER that a chair holds. -/
def State.heldOutside (s : State) (c : ChairId) : List LoaderId :=
  s.loadersWhere fun r => r.hasAuthority && r.state != .transfer && r.heldBy c

/-- The handovers in flight in which the chair is a party (04 4-1). -/
def State.partyContexts (s : State) (c : ChairId) : List CtxId :=
  s.contextsWhere fun h => h.taking == c || h.releasing == some c

/-- The chair is the taking chair of the handover in a context. -/
def State.isTaking (s : State) (c : ChairId) (k : CtxId) : Bool :=
  (s.handover k).any (·.taking == c)

/-- The chair stop goes from no to yes (06 R129): the handovers in which the chair is a party are
aborted, then the loaders it holds are halted. -/
def State.pressStop (s : State) (c : ChairId) : State :=
  let s := s.abortAll (s.partyContexts c) fun k =>
    if s.isTaking c k then .stopTaking else .stopReleasing
  let s := s.haltAll (s.heldOutside c) .chairStop
  s.checkClosures

/-- A panel byte newly presses the chair stop: the field goes from no to yes (06 R129). -/
def State.newlyPressed (s : State) (c : ChairId) (panel : Byte) : Bool :=
  panelStop panel && !(s.chair c).stop

/-- The panel byte of a frame is taken into the chair record (03 R47); a stop newly pressed acts
before the frame itself (06 R129). -/
def State.takePanel (s : State) (c : ChairId) (panel : Byte) : State :=
  let pressed := s.newlyPressed c panel
  let s := s.modChair c fun r => { r with stop := panelStop panel, neutral := panelNeutral panel }
  if pressed then s.pressStop c else s

/-! ## Loss of a chair link (06 R120, 08 R153) -/

/-- The event that the loss of a chair's link is for a handover in which it is a party. -/
def State.linkEvent (s : State) (c : ChairId) (k : CtxId) : AbortEvent :=
  if s.isTaking c k then .linkTaking else .linkReleasing

/-- The fate that the loss of a chair's link gives the handover in a context. -/
def State.linkFate (s : State) (c : ChairId) (k : CtxId) : Option Fate :=
  (s.handover k).map fun h => s.fateOf h (s.linkEvent c k)

/-- What the loss of its chair's link does to a loader held outside TRANSFER (06 R120, step 2):
DRIVEN is halted; SUPERVISED is orphaned when the grace setting is above 0, and halted otherwise. -/
def State.loseLoader (s : State) (l : LoaderId) : State :=
  match (s.loader l).state with
  | .driven => s.enterHalted l .chairLink
  | .supervised => if 0 < s.params.orphanGrace then s.orphan l else s.enterHalted l .chairLink
  | _ => s

/-- The loaders that a chair's lost link leaves DRIVEN or SUPERVISED under it. -/
def State.losable (s : State) (c : ChairId) : List LoaderId :=
  s.loadersWhere fun r => (r.state == .driven || r.state == .supervised) && r.heldBy c

/-- The losable loader would be orphaned. -/
def State.wouldOrphan (s : State) (l : LoaderId) : Bool :=
  (s.loader l).state == .supervised && decide (0 < s.params.orphanGrace)

/-- An UP chair link goes LOST (08 R153), and the switch acts on its handovers, loaders, watches and
queue in the steps of 06 R120. -/
def State.loseLink (s : State) (c : ChairId) : State :=
  let s := s.modLink c fun k => { k.restartSilence s.params with state := .lost, run := 0 }
  let ks := s.partyContexts c
  let orphaned := (ks.filter fun k => s.linkFate c k == some .orphan).length
  let halted := (ks.filter fun k => s.linkFate c k == some (.halt .chairLink)).length
  let s := s.abortAll ks (s.linkEvent c)
  let ls := s.losable c
  let orphaned := orphaned + (ls.filter s.wouldOrphan).length
  let halted := halted + (ls.filter fun l => !s.wouldOrphan l).length
  let s := (ls.foldl State.loseLoader s).checkClosures
  let s := { s with watch := s.watch.forgetChair c }
  let s := s.modQueue (.chair c) OutQueue.emptied
  s.tellSup (.linkLost c s.seconds ks.length halted orphaned)

/-! ## Recovery of a chair link (06 R123, 08 R154) -/

/-- A slot as LINK_RESTORED lists it: a Bound slot's loader, state, mode and epoch. -/
def State.restoredSlot (s : State) (x : Slot) : Option RestoredSlot :=
  match x.contents with
  | .bound l =>
    some ⟨l, (s.loader l).state, (s.loader l).heldMode, (s.loader l).epoch⟩
  | _ => none

/-- The slots of a chair as LINK_RESTORED lists them. -/
def State.restoredSlots (s : State) (c : ChairId) : Vector (Option RestoredSlot) 4 :=
  (s.chair c).slots.map s.restoredSlot

/-- The ORPHANED loaders of a chair. -/
def State.orphansOf (s : State) (c : ChairId) : List LoaderId :=
  s.loadersWhere fun r => r.state == .orphaned && r.heldBy c

/-- An orphan becomes SUPERVISED under its chair; its grace timer stops (06 R123, step 1). -/
def State.returnOrphan (s : State) (l : LoaderId) : State :=
  s.modLoader l fun r => { r with state := .supervised, grace := none }

/-- The handovers forced from ORPHANED in which the chair is the loader's holder (04 R90). -/
def State.orphanForces (s : State) (c : ChairId) : List CtxId :=
  s.contextsWhere fun h =>
    (s.loader h.loader).prior == some .orphaned && (s.loader h.loader).heldBy c

/-- The returned chair becomes the releasing chair of a handover forced from ORPHANED (04 R90). -/
def State.rejoin (s : State) (c : ChairId) (k : CtxId) : State :=
  match s.handover k with
  | none => s
  | some h =>
    let s := s.modLoader h.loader fun r => { r with prior := some .supervised, grace := none }
    s.setHandover k (some { h with releasing := some c })

/-- The FORCED notice of a handover (04 R70, R90). -/
def State.forcedNotice (s : State) (k : CtxId) (h : Handover) : Notice :=
  .forced k h.loader h.taking h.slot h.target (s.loader h.loader).prior h.phase

/-- The FORCED notice that tells a returned chair of the handover's present phase (04 R90). -/
def State.tellForced (s : State) (c : ChairId) (k : CtxId) : State :=
  match s.handover k with
  | none => s
  | some h => s.tellChair c (s.forcedNotice k h)

/-- The switch returns a chair's orphans and tells the chair and the supervisor (06 R123). -/
def State.returnLoaders (s : State) (c : ChairId) : State :=
  let ls := s.orphansOf c
  let ks := s.orphanForces c
  let s := ls.foldl State.returnOrphan s
  let s := ks.foldl (fun s k => s.rejoin c k) s
  let s := s.tellChair c (.linkRestored c s.seconds 0 (s.restoredSlots c))
  let s := ks.foldl (fun s k => s.tellForced c k) s
  s.tellSup (.linkRestored c s.seconds ls.length (Vector.replicate 4 none))

/-- A LOST chair link recovers (08 R154): it is UP with its counters at 0, its loaders return, and
the panel byte of the last frame is taken. -/
def State.recover (s : State) (c : ChairId) (panel : Byte) : State :=
  let s := s.modLink c fun k =>
    { k.restartSilence s.params with state := .up, errors := 0, tally := 0, run := 0 }
  (s.returnLoaders c).takePanel c panel

/-- A valid frame arrives on a LOST chair link (08 R151): the recovery run gains one and at 16 the
link recovers. The frame is not acted on. -/
def State.takeLost (s : State) (c : ChairId) (panel : Byte) : State :=
  let s := s.modLink c fun k => { (k.restartSilence s.params).valid with run := k.run + 1 }
  if (s.link c).run < Config.runLength then s else s.recover c panel

/-- A DOWN chair link comes UP at its first valid frame (08 R151). -/
def State.bringUp (s : State) (c : ChairId) : State :=
  let s := s.modLink c fun k => { k.restartSilence s.params with state := .up }
  let s := s.tellChair c (.linkRestored c s.seconds 0 (Vector.replicate 4 none))
  s.tellSup (.linkRestored c s.seconds 0 (Vector.replicate 4 none))

/-! ## Taking a frame -/

/-- A command other than a change of the RESET input does nothing while that input is asserted:
every byte is discarded, every timer stands still, no input is taken and nothing is sent
(08 R161). -/
def State.running (s : State) (body : State → State) : State := if s.inReset then s else body s

/-- A valid frame arrives on a chair link (08 R151): on an UP link, and on a DOWN link once it has
come UP, its panel byte is taken and the frame is acted on (08 R155). -/
def State.takeChairFrame (s : State) (c : ChairId) (panel : Byte) (body : State → State) : State :=
  match (s.link c).state with
  | .down => body ((s.bringUp c).takePanel c panel)
  | .up =>
    let s := s.modLink c fun k => (k.restartSilence s.params).valid
    body (s.takePanel c panel)
  | .lost => s.takeLost c panel

/-- A request passes to the block that owns it, unless its link's queue holds 32 replies: then it is
discarded unexecuted and counted as dropped (07 R143, 08 R155, R156). -/
def State.pass (s : State) (p : Port) (body : State → State) : State :=
  if (s.queue p).fullOfReplies then s.modQueue p fun q => q.drop q.frames else body s

/-- A request arrives, from a chair or from the supervisor (08 R155, R156). The supervisor link counts
the frame before the request is acted on, as 08 R151 orders it for a chair link (DEDUCED,
log 47). -/
def State.takeRequest (s : State) (h : Header) (body : State → State) : State :=
  s.running fun s =>
    match h.sender with
    | .chair c panel => s.takeChairFrame c panel fun s => s.pass (.chair c) body
    | .supervisor => State.pass { s with supLink := s.supLink.valid } .supervisor body

end Sys2Proof.Machine
end

