-- ==== Sys2Proof/Machine/Authority.lean ====
section
/-! DEFINITION. The requests of Chapter 3 that take, keep or clear authority: CLAIM, RECLAIM,
RELEASE, MODE, MISSION, PARK, ISOLATE, RESTORE, SET_CLEARANCE; and WITHDRAW (06 R130, R131). -/

namespace Sys2Proof.Machine

/-- What every meaning answers: the next state. No command of the switch ends in a fault. -/
abbrev Result := Host.Outcome State Fault Refusal

/-! ## CLAIM and RECLAIM -/

/-- What a CLAIM or a RECLAIM names once its numbers and codes have a meaning. -/
structure GrantArgs where
  chair : ChairId
  loader : LoaderId
  slot : SlotId
  mode : Mode
  deriving DecidableEq, Repr

/-- The examination of a CLAIM or RECLAIM (03 R49, R50): the sender, the meanings, the enrolment,
the request's own check 2, and checks 3 to 15. -/
def State.examineGrant (s : State) (h : Header) (loader slot mode : Byte)
    (check2 : ChairId → Loader → Bool) : Except Reason GrantArgs := do
  let c ← h.fromChair
  let l ← meaning (loaderOf loader)
  let i ← meaning (slotOf slot)
  let m ← meaning (modeOf mode)
  s.enrolled l
  ensure (check2 c (s.loader l) = true) .loaderState
  s.checkGrant l c i m
  .ok ⟨c, l, i, m⟩

/-- The grant of a CLAIM or RECLAIM with its reply, which joins first (03 R54). -/
def State.grantAnswered (s : State) (h : Header) (k : ReqKind) (x : GrantArgs) : State :=
  (s.ok h k (.grant x.loader x.slot x.mode ((s.loader x.loader).epoch + 1))).grant
    x.loader x.chair x.slot x.mode

/-- Check 2 of CLAIM: the state is PARKED (03 R55). -/
def claimable (_ : ChairId) (r : Loader) : Bool := r.state == .parked

/-- Check 2 of RECLAIM: HALTED with the sender as last holder (03 R56). -/
def reclaimable (c : ChairId) (r : Loader) : Bool :=
  r.state == .halted && r.lastHolder == some c

/-- A CLAIM as its owner takes it (03 R55). -/
def State.takeClaim (s : State) (h : Header) (loader slot mode : Byte) : State :=
  s.examined h .claim (s.examineGrant h loader slot mode claimable) (s.grantAnswered h .claim)

/-- A RECLAIM as its owner takes it (03 R56). -/
def State.takeReclaim (s : State) (h : Header) (loader slot mode : Byte) : State :=
  s.examined h .reclaim (s.examineGrant h loader slot mode reclaimable) (s.grantAnswered h .reclaim)

/-- CLAIM (03 R55). -/
def execClaim (h : Header) (loader slot mode : Byte) (s : State) : Result :=
  .next (s.takeRequest h fun s => s.takeClaim h loader slot mode)

/-- RECLAIM (03 R56). -/
def execReclaim (h : Header) (loader slot mode : Byte) (s : State) : Result :=
  .next (s.takeRequest h fun s => s.takeReclaim h loader slot mode)

/-! ## RELEASE -/

/-- The record of a loader that its holder released (03 R57). -/
def Loader.parked (r : Loader) : Loader :=
  { r with state := .parked, holder := none, lapse := false, lapseTimer := none }

/-- The examination of a RELEASE (03 R57). -/
def State.examineRelease (s : State) (h : Header) (loader : Byte) :
    Except Reason (LoaderId × Holding) := do
  let (c, l) ← s.examineChair h loader
  let x ← s.examineHolder l c
  .ok (l, x)

/-- The release of a loader (03 R57). -/
def State.releaseLoader (s : State) (l : LoaderId) : State :=
  let s := (s.vacate l).modLoader l Loader.parked
  ((s.emitHold l).updateLamps).checkZoneOf l

/-- A RELEASE as its owner takes it (03 R57). -/
def State.takeRelease (s : State) (h : Header) (loader : Byte) : State :=
  s.examined h .release (s.examineRelease h loader) fun (l, x) =>
    (s.ok h .release (.loaderSlot l x.slot)).releaseLoader l

/-- RELEASE (03 R57). -/
def execRelease (h : Header) (loader : Byte) (s : State) : Result :=
  .next (s.takeRequest h fun s => s.takeRelease h loader)

/-! ## MODE -/

/-- The examination common to both modes (03 R49, R58). -/
def State.examineMode (s : State) (h : Header) (loader mode : Byte) :
    Except Reason (LoaderId × Holding × Mode) := do
  let c ← h.fromChair
  let l ← meaning (loaderOf loader)
  let m ← meaning (modeOf mode)
  s.enrolled l
  let x ← s.examineHolder l c
  .ok (l, x, m)

/-- The tests of MODE to supervised from DRIVEN (03 R58). -/
def State.testSupervised (s : State) (l : LoaderId) : Except Reason Unit := do
  ensure ((s.loader l).state = .driven) .loaderState
  ensure (s.admitsMode l .supervised = true) .zoneDenied
  ensure (s.barrierBreached l = false) .barrier

/-- The tests of MODE to manual from SUPERVISED (03 R59). -/
def State.testManual (s : State) (l : LoaderId) (c : ChairId) : Except Reason Unit := do
  ensure ((s.loader l).state = .supervised) .loaderState
  ensure (s.admitsMode l .manual = true) .zoneDenied
  ensure (s.manualLoad c = 0) .manualBusy
  ensure ((s.chair c).neutral = true) .notNeutral
  ensure ((s.loader l).stationary = true) .notStationary

/-- The loader changes to supervised mode: a HOLD leaves, the lapse timer stops (03 R58). -/
def State.toSupervised (s : State) (l : LoaderId) (x : Holding) : State :=
  let s := s.modLoader l fun r =>
    { r with state := .supervised, holder := some { x with mode := .supervised } }
  ((s.stopLapse l).settleRefresh l).emitHold l

/-- The loader changes to manual mode: its slot takes any count, the lapse timer starts afresh and
a MISSION order with route 0 is built (03 R59). -/
def State.toManual (s : State) (l : LoaderId) (x : Holding) : State :=
  let s := s.modLoader l fun r =>
    { r with state := .driven, holder := some { x with mode := .manual } }
  let s := s.modSlot x.chair x.slot fun slot => { slot with lastCount := none }
  (s.startLapse l).order l (.mission 0)

/-- A MODE as its owner takes it (03 R58, R59). -/
def State.takeMode (s : State) (h : Header) (loader mode : Byte) : State :=
  s.examined h .mode (s.examineMode h loader mode) fun (l, x, m) =>
    let done := s.ok h .mode (.mode l m)
    if x.mode = m then done
    else
      match m with
      | .supervised => s.examined h .mode (s.testSupervised l) fun _ => done.toSupervised l x
      | .manual => s.examined h .mode (s.testManual l x.chair) fun _ => done.toManual l x

/-- MODE to supervised (03 R58): the mode byte is 1. -/
def execModeToSupervised (h : Header) (loader : Byte) (s : State) : Result :=
  .next (s.takeRequest h fun s => s.takeMode h loader 1)

/-- MODE to manual (03 R59), and MODE with a code that has no meaning (03 R49, log 8). -/
def execModeToManual (h : Header) (loader mode : Byte) (s : State) : Result :=
  .next (s.takeRequest h fun s => s.takeMode h loader mode)

/-! ## MISSION -/

/-- The examination of a MISSION (03 R60): the tests of the ground are not made for route 0. -/
def State.examineMission (s : State) (h : Header) (loader route : Byte) :
    Except Reason LoaderId := do
  let (c, l) ← s.examineChair h loader
  let _ ← s.examineHolder l c
  ensure ((s.loader l).state = .supervised) .loaderState
  ensure (route ≠ 0 → s.admitsMode l .supervised = true) .zoneDenied
  ensure (route ≠ 0 → s.barrierBreached l = false) .barrier
  .ok l

/-- A MISSION as its owner takes it (03 R60). -/
def State.takeMission (s : State) (h : Header) (loader route : Byte) : State :=
  s.examined h .mission (s.examineMission h loader route) fun l =>
    (s.ok h .mission (.mission l route)).order l (.mission route)

/-- MISSION (03 R60). -/
def execMission (h : Header) (loader route : Byte) (s : State) : Result :=
  .next (s.takeRequest h fun s => s.takeMission h loader route)

/-! ## PARK, ISOLATE, RESTORE -/

/-- The examination of a supervisor's request that wants one state (03 R61, R63). -/
def State.examineState (s : State) (h : Header) (loader : Byte) (want : LoaderState) :
    Except Reason LoaderId := do
  let l ← s.examineSup h loader
  ensure ((s.loader l).state = want) .loaderState
  .ok l

/-- A loader without authority becomes PARKED under a fresh HOLD (03 R61, R63). -/
def State.parkLoader (s : State) (l : LoaderId) : State :=
  (s.modLoader l fun r => { r with state := .parked, halt := none, lastHolder := none }).emitHold l

/-- A PARK as its owner takes it (03 R61). -/
def State.takePark (s : State) (h : Header) (loader : Byte) : State :=
  s.examined h .park (s.examineState h loader .halted) fun l =>
    (s.ok h .park (.loader l)).parkLoader l

/-- PARK (03 R61). -/
def execPark (h : Header) (loader : Byte) (s : State) : Result :=
  .next (s.takeRequest h fun s => s.takePark h loader)

/-- A RESTORE as its owner takes it (03 R63). -/
def State.takeRestore (s : State) (h : Header) (loader : Byte) : State :=
  s.examined h .restore (s.examineState h loader .isolated) fun l =>
    (s.ok h .restore (.loader l)).parkLoader l

/-- RESTORE (03 R63). -/
def execRestore (h : Header) (loader : Byte) (s : State) : Result :=
  .next (s.takeRequest h fun s => s.takeRestore h loader)

/-- The record of an isolated loader (03 R62, steps 2 to 4). -/
def Loader.isolated (r : Loader) : Loader :=
  { r with
    state := .isolated, holder := none, lastHolder := none, halt := none, grace := none
    lapse := false, lapseTimer := none }

/-- Step 1 of an isolation: a handover in flight is aborted, and the loader reverts (03 R62). -/
def State.isolateAbort (s : State) (l : LoaderId) : State :=
  match (s.loader l).state, (s.loader l).context with
  | .transfer, some k => s.abort k .isolated
  | _, _ => s

/-- Steps 2 to 5 of an isolation (03 R62). -/
def State.isolateRest (s : State) (l : LoaderId) : State :=
  let holder := (s.loader l).holder
  let s := (s.vacate l).modLoader l Loader.isolated
  let s := match holder with
    | some x => s.tellChair x.chair (.isolated l x.slot)
    | none => s
  ((s.emitHold l).updateLamps).checkZoneOf l

/-- An ISOLATE as its owner takes it; an ISOLATED loader is left as it is (03 R62). -/
def State.takeIsolate (s : State) (h : Header) (loader : Byte) : State :=
  s.examined h .isolate (s.examineSup h loader) fun l =>
    let done := s.ok h .isolate (.loader l)
    if (s.loader l).state = .isolated then done else (done.isolateAbort l).isolateRest l

/-- ISOLATE (03 R62). -/
def execIsolate (h : Header) (loader : Byte) (s : State) : Result :=
  .next (s.takeRequest h fun s => s.takeIsolate h loader)

/-! ## SET_CLEARANCE -/

/-- The examination of a SET_CLEARANCE (03 R46, R49). -/
def Header.examineClearance (h : Header) (chair : Byte) : Except Reason ChairId := do
  h.fromSup
  meaning (chairOf chair)

/-- A SET_CLEARANCE as its owner takes it (03 R46). -/
def State.takeSetClearance (s : State) (h : Header) (chair levels : Byte) : State :=
  s.examined h .setClearance (Header.examineClearance h chair) fun c =>
    (s.ok h .setClearance (.clearance c levels)).modChair c fun r => { r with clearance := levels }

/-- SET_CLEARANCE (03 R46). -/
def execSetClearance (h : Header) (chair levels : Byte) (s : State) : Result :=
  .next (s.takeRequest h fun s => s.takeSetClearance h chair levels)

/-! ## WITHDRAW -/

/-- The mode that a WITHDRAW filter tests: the held mode, or the target mode of a TRANSFER without
a holder (06 R130). -/
def State.filteredMode (s : State) (l : LoaderId) : Option Mode :=
  ((s.loader l).heldMode).or ((s.handoverOf l).map (·.target))

/-- The loader is within the scope of a WITHDRAW (06 R130). -/
def Scope.covers (x : Scope) (l : LoaderId) (r : Loader) : Bool :=
  r.hasAuthority &&
    match x with
    | .loader n => n == l
    | .chair c => r.heldBy c
    | .all => true

/-- The loaders that a WITHDRAW affects (06 R130). -/
def State.affected (s : State) (x : Scope) (filter : Option Mode) : List LoaderId :=
  (List.finRange 32).filter fun l =>
    x.covers l (s.loader l) && (filter.isNone || filter == s.filteredMode l)

/-- The examination of a WITHDRAW (06 R130). -/
def State.examineWithdraw (s : State) (h : Header) (scope number filter : Byte) :
    Except Reason (Scope × Option Mode) := do
  h.fromSup
  let x ← meaning (scopeOf scope number)
  let f ← meaning (filterOf filter)
  match x with
  | .loader l => do
    s.enrolled l
    ensure ((s.loader l).hasAuthority = true) .loaderState
  | _ => .ok ()
  .ok (x, f)

/-- The HALTED loaders, lowest number first. -/
def State.haltedLoaders (s : State) : List LoaderId := s.loadersWhere fun r => r.state == .halted

/-- The loaders of a list that have authority. -/
def State.withAuthority (s : State) (ls : List LoaderId) : List LoaderId :=
  ls.filter fun l => (s.loader l).hasAuthority

/-- The loaders of a list have their handovers aborted, in order of context, and those that still
have authority are halted, in order of loader (06 R127, R131, R132). -/
def State.takeAuthority (s : State) (ls : List LoaderId) (e : AbortEvent) : State :=
  let s := s.abortAll (s.contextsWhere fun h => ls.contains h.loader) fun _ => e
  s.haltAll (s.withAuthority ls) e.cause

/-- A WITHDRAW as its owner takes it (06 R131): the reply joins first, and with scope ALL and filter
Both every loader HALTED before takes WITHDRAWN as a further cause. -/
def State.takeWithdraw (s : State) (h : Header) (scope number filter : Byte) : State :=
  s.examined h .withdraw (s.examineWithdraw h scope number filter) fun (x, f) =>
    let ls := s.affected x f
    let marked := if x = .all ∧ f = none then s.haltedLoaders else []
    let s := s.ok h .withdraw (.count (ls.length + marked.length))
    ((s.takeAuthority ls .withdrawn).checkClosures).furtherAll marked .withdrawn

/-- WITHDRAW (06 R130, R131). -/
def execWithdraw (h : Header) (scope number filter : Byte) (s : State) : Result :=
  .next (s.takeRequest h fun s => s.takeWithdraw h scope number filter)

end Sys2Proof.Machine
end

