-- ==== Sys2Proof/Machine/Handovers.lean ====
section
/-! DEFINITION. The requests of Chapter 4: OFFER, REQUEST and FORCE start a handover; ACCEPT, YIELD,
DECLINE, REFUSE, CONFIRM, CANCEL, SUSPEND and RESUME act on one in flight. -/

namespace Sys2Proof.Machine

/-! ## Starts -/

/-- The loader is not in TRANSFER (04 R68 to R70). -/
def State.notInTransfer (s : State) (l : LoaderId) : Except Reason Unit :=
  ensure ((s.loader l).state ≠ .transfer) .busy

/-- The examination of an OFFER (04 R68). -/
def State.examineOffer (s : State) (h : Header) (loader taking target : Byte) :
    Except Reason Start := do
  let c ← h.fromChair
  let l ← meaning (loaderOf loader)
  let t ← meaning (chairOf taking)
  let m ← meaning (modeOf target)
  s.enrolled l
  ensure (t ≠ c) .badValue
  s.notInTransfer l
  ensure ((s.loader l).state = .driven ∨ (s.loader l).state = .supervised) .loaderState
  ensure ((s.loader l).heldBy c = true) .notParty
  ensure (s.isUp t = true) .chairDown
  let k ← s.needContext
  .ok { loader := l, kind := .offer, taking := t, slot := none, target := m, context := k }

/-- The OFFERED notice (04 R68). -/
def State.offeredNotice (s : State) (k : CtxId) (h : Handover) (releasing : ChairId) : Notice :=
  .offered k h.loader releasing (s.loader h.loader).heldMode h.target (s.loader h.loader).zone?
    s.params.answer

/-- The OFFERED notice to the taking chair. -/
def State.tellOffered (s : State) (k : CtxId) : State :=
  match s.handover k with
  | some h =>
    match h.releasing with
    | some c => s.tellChair h.taking (s.offeredNotice k h c)
    | none => s
  | none => s

/-- An OFFER as its owner takes it (04 R68). -/
def State.takeOffer (s : State) (h : Header) (loader taking target : Byte) : State :=
  s.examined h .offer (s.examineOffer h loader taking target) fun x =>
    let s := s.ok h .offer (.context x.context)
    (s.createHandover x .offered s.params.answerMs).tellOffered x.context

/-- OFFER (04 R68). -/
def execOffer (h : Header) (loader taking target : Byte) (s : State) : Result :=
  .next (s.takeRequest h fun s => s.takeOffer h loader taking target)

/-- The examination of a REQUEST (04 R69). -/
def State.examineRequest (s : State) (h : Header) (loader slot target : Byte) :
    Except Reason Start := do
  let c ← h.fromChair
  let l ← meaning (loaderOf loader)
  let i ← meaning (slotOf slot)
  let m ← meaning (modeOf target)
  s.enrolled l
  s.notInTransfer l
  ensure (((s.loader l).state = .driven ∨ (s.loader l).state = .supervised) ∧
    (s.loader l).heldBy c = false) .loaderState
  s.checkReserve l c i m
  let k ← s.needContext
  .ok { loader := l, kind := .request, taking := c, slot := some i, target := m, context := k }

/-- The REQUESTED notice to the releasing chair (04 R69). -/
def State.tellRequested (s : State) (k : CtxId) : State :=
  match s.handover k with
  | some h => s.tellChair? h.releasing (.requested k h.loader h.taking h.target s.params.answer)
  | none => s

/-- A REQUEST as its owner takes it (04 R69). -/
def State.takeRequestStart (s : State) (h : Header) (loader slot target : Byte) : State :=
  s.examined h .request (s.examineRequest h loader slot target) fun x =>
    let s := s.ok h .request (.context x.context)
    (s.createHandover x .requested s.params.answerMs).tellRequested x.context

/-- REQUEST (04 R69). -/
def execRequest (h : Header) (loader slot target : Byte) (s : State) : Result :=
  .next (s.takeRequest h fun s => s.takeRequestStart h loader slot target)

/-- Check 2 of FORCE (04 R70). -/
def forcible (r : Loader) : Bool :=
  r.state == .driven || r.state == .supervised || r.state == .orphaned || r.state == .halted ||
    r.state == .parked

/-- The examination of a FORCE (04 R70). -/
def State.examineForce (s : State) (h : Header) (loader taking slot target : Byte) :
    Except Reason Start := do
  h.fromSup
  let l ← meaning (loaderOf loader)
  let t ← meaning (chairOf taking)
  let i ← meaning (slotOf slot)
  let m ← meaning (modeOf target)
  s.enrolled l
  s.notInTransfer l
  ensure ((s.loader l).heldBy t = false) .badValue
  ensure (forcible (s.loader l) = true) .loaderState
  s.checkReserve l t i m
  let k ← s.needContext
  .ok { loader := l, kind := .force, taking := t, slot := some i, target := m, context := k }

/-- The FORCED notice to the taking chair and to the releasing chair, where there is one (04 R70).
It carries the phase that the decision is about to enter. -/
def State.tellForcedParties (s : State) (k : CtxId) : State :=
  match s.handover k with
  | none => s
  | some h =>
    let n := s.forcedNotice k { h with phase := s.decidedPhase h }
    (s.tellChair h.taking n).tellChair? h.releasing n

/-- A FORCE as its owner takes it (04 R70): the handover is never seen in the phase it is created
in, since the decision is made at once. -/
def State.takeForce (s : State) (h : Header) (loader taking slot target : Byte) : State :=
  s.examined h .force (s.examineForce h loader taking slot target) fun x =>
    let phase := settleOrConfirm (some (s.loader x.loader).state) (s.loader x.loader).heldMode x.target
    let s := s.ok h .force (.force x.context phase)
    let s := s.createHandover x .settling s.params.settleMs
    (s.tellForcedParties x.context).decidePhase x.context

/-- FORCE (04 R70). -/
def execForce (h : Header) (loader taking slot target : Byte) (s : State) : Result :=
  .next (s.takeRequest h fun s => s.takeForce h loader taking slot target)

/-! ## Requests on a handover in flight -/

/-- Steps 2 and 3 of 04 R67: the numbers, the enrolment, and that the loader's record names the
context. -/
def State.namedHandover (s : State) (loader context : Byte) : Except Reason (CtxId × Handover) := do
  let l ← meaning (loaderOf loader)
  let k ← meaning (ctxOf context)
  s.enrolled l
  ensure ((s.loader l).state = .transfer ∧ (s.loader l).context = some k) .noHandover
  match s.handover k with
  | some h => .ok (k, h)
  | none => .error .noHandover

/-- The examination of an ACCEPT (04 R67, R71). The slot number must have a meaning with the other
numbers (log 15). Check 9 runs here as at any grant, so an ACCEPT is refused CLEARANCE once the
loader's level has left the chair's clearance, although 03 R46 has a handover in flight pass its
remaining answers (log 43). -/
def State.examineAccept (s : State) (h : Header) (loader context slot : Byte) :
    Except Reason (CtxId × Handover × SlotId) := do
  let c ← h.fromChair
  let _ ← meaning (loaderOf loader)
  let _ ← meaning (ctxOf context)
  let i ← meaning (slotOf slot)
  let (k, x) ← s.namedHandover loader context
  ensure (x.kind = .offer ∧ x.taking = c) .notParty
  ensure (x.phase = .offered) .phase
  ensure (x.suspended = false) .suspended
  s.checkReserve x.loader c i x.target
  .ok (k, x, i)

/-- The named slot becomes Reserved and is recorded as the taking slot (04 R71). -/
def State.reserve (s : State) (k : CtxId) (x : Handover) (i : SlotId) : State :=
  (s.fillSlot x.taking i (.reserved x.loader k)).setHandover k (some { x with slot := some i })

/-- An ACCEPT as its owner takes it (04 R71). -/
def State.takeAccept (s : State) (h : Header) (loader context slot : Byte) : State :=
  s.examined h .accept (s.examineAccept h loader context slot) fun (k, x, i) =>
    ((s.ok h .accept (.context k)).reserve k x i).decidePhase k

/-- ACCEPT (04 R71). -/
def execAccept (h : Header) (loader context slot : Byte) (s : State) : Result :=
  .next (s.takeRequest h fun s => s.takeAccept h loader context slot)

/-- The examination of a YIELD (04 R67, R72). -/
def State.examineYield (s : State) (h : Header) (loader context : Byte) :
    Except Reason CtxId := do
  let c ← h.fromChair
  let (k, x) ← s.namedHandover loader context
  ensure (x.kind = .request ∧ x.releasing = some c) .notParty
  ensure (x.phase = .requested) .phase
  ensure (x.suspended = false) .suspended
  .ok k

/-- A YIELD as its owner takes it (04 R72). -/
def State.takeYield (s : State) (h : Header) (loader context : Byte) : State :=
  s.examined h .yield (s.examineYield h loader context) fun k =>
    (s.ok h .yield (.context k)).decidePhase k

/-- YIELD (04 R72). -/
def execYield (h : Header) (loader context : Byte) (s : State) : Result :=
  .next (s.takeRequest h fun s => s.takeYield h loader context)

/-- The examination of a DECLINE (04 R67, R73). -/
def State.examineDecline (s : State) (h : Header) (loader context : Byte) :
    Except Reason CtxId := do
  let c ← h.fromChair
  let (k, x) ← s.namedHandover loader context
  ensure (x.kind = .offer ∧ x.taking = c) .notParty
  ensure (x.phase = .offered) .phase
  .ok k

/-- A DECLINE as its owner takes it (04 R73). -/
def State.takeDecline (s : State) (h : Header) (loader context : Byte) : State :=
  s.examined h .decline (s.examineDecline h loader context) fun k =>
    (s.ok h .decline (.context k)).abortAlone k .declined

/-- DECLINE (04 R73). -/
def execDecline (h : Header) (loader context : Byte) (s : State) : Result :=
  .next (s.takeRequest h fun s => s.takeDecline h loader context)

/-- The examination of a REFUSE (04 R67, R73). -/
def State.examineRefuse (s : State) (h : Header) (loader context : Byte) :
    Except Reason CtxId := do
  let c ← h.fromChair
  let (k, x) ← s.namedHandover loader context
  ensure (x.kind = .request ∧ x.releasing = some c) .notParty
  ensure (x.phase = .requested) .phase
  .ok k

/-- A REFUSE as its owner takes it (04 R73). -/
def State.takeRefuse (s : State) (h : Header) (loader context : Byte) : State :=
  s.examined h .refuse (s.examineRefuse h loader context) fun k =>
    (s.ok h .refuse (.context k)).abortAlone k .refused

/-- REFUSE (04 R73). -/
def execRefuse (h : Header) (loader context : Byte) (s : State) : Result :=
  .next (s.takeRequest h fun s => s.takeRefuse h loader context)

/-- The examination of a CONFIRM up to step 1 of 04 R78: the party, the phase, and for a manual
target the controls as this frame's panel byte has set them. -/
def State.examineConfirm (s : State) (h : Header) (loader context : Byte) :
    Except Reason (CtxId × Handover) := do
  let c ← h.fromChair
  let (k, x) ← s.namedHandover loader context
  ensure (x.taking = c) .notParty
  ensure (x.phase = .confirming) .phase
  s.checkNeutral c x.target
  .ok (k, x)

/-- The abort that a failed check at a commit makes (03 R52, 04 R78). Checks 10 and 13 cannot fail
there. -/
def commitAbort : Reason → AbortEvent
  | .clearance => .clearance
  | .closing => .closing
  | .zoneDenied => .zoneDenied
  | .barrier => .barrier
  | _ => .manualBusy

/-- A CONFIRM as its owner takes it (04 R78): checks 9 to 13 are run again, a failure is answered
and aborts the handover, and otherwise the handover commits. -/
def State.takeConfirm (s : State) (h : Header) (loader context : Byte) : State :=
  s.examined h .confirm (s.examineConfirm h loader context) fun (k, x) =>
    match s.checkGround x.loader x.taking x.target (some k) with
    | .error r => (s.answer h .confirm (.refused r)).abortAlone k (commitAbort r)
    | .ok _ => (s.ok h .confirm (.context k)).commit k

/-- CONFIRM (04 R78, R79). -/
def execConfirm (h : Header) (loader context : Byte) (s : State) : Result :=
  .next (s.takeRequest h fun s => s.takeConfirm h loader context)

/-- The sender may CANCEL the handover: a party or the supervisor (04 R67, R74). -/
def Handover.cancellableBy (x : Handover) : Sender → Bool
  | .supervisor => true
  | .chair c _ => x.taking == c || x.releasing == some c

/-- The examination of a CANCEL (04 R67, R74). -/
def State.examineCancel (s : State) (h : Header) (loader context : Byte) :
    Except Reason CtxId := do
  let (k, x) ← s.namedHandover loader context
  ensure (x.cancellableBy h.sender = true) .notParty
  .ok k

/-- A CANCEL as its owner takes it (04 R74). -/
def State.takeCancel (s : State) (h : Header) (loader context : Byte) : State :=
  s.examined h .cancel (s.examineCancel h loader context) fun k =>
    (s.ok h .cancel (.context k)).abortAlone k .cancelled

/-- CANCEL (04 R74). -/
def execCancel (h : Header) (loader context : Byte) (s : State) : Result :=
  .next (s.takeRequest h fun s => s.takeCancel h loader context)

/-! ## Suspension -/

/-- The examination of a SUSPEND (04 R67, R82). -/
def State.examineSuspend (s : State) (h : Header) (loader context : Byte) :
    Except Reason (CtxId × Handover) := do
  h.fromSup
  let (k, x) ← s.namedHandover loader context
  ensure (x.phase ≠ .confirming) .phase
  ensure (x.suspended = false) .suspended
  .ok (k, x)

/-- A handover is suspended (04 R82): its phase timer stands still and the hold condition of
SETTLING ends. -/
def State.suspendHandover (s : State) (k : CtxId) (x : Handover) : State :=
  let s := s.setHandover k (some { x with suspended := true })
  let s := s.settleRefresh x.loader
  s.tellParties x (.suspended k x.loader x.phase x.timer.remaining)

/-- A SUSPEND as its owner takes it (04 R82). -/
def State.takeSuspend (s : State) (h : Header) (loader context : Byte) : State :=
  s.examined h .suspend (s.examineSuspend h loader context) fun (k, x) =>
    (s.ok h .suspend (.context k)).suspendHandover k x

/-- SUSPEND (04 R82). -/
def execSuspend (h : Header) (loader context : Byte) (s : State) : Result :=
  .next (s.takeRequest h fun s => s.takeSuspend h loader context)

/-- The examination of a RESUME (04 R67, R84). -/
def State.examineResume (s : State) (h : Header) (loader context : Byte) :
    Except Reason (CtxId × Handover) := do
  h.fromSup
  let (k, x) ← s.namedHandover loader context
  ensure (x.suspended = true) .phase
  .ok (k, x)

/-- A handover resumes (04 R84): the answer timer runs on from its kept time, and SETTLING starts
again from the full settle time under a fresh HOLD. -/
def State.resumeHandover (s : State) (k : CtxId) (x : Handover) : State :=
  let timer := if x.phase = .settling then Timer.start s.params.settleMs else x.timer
  let s := s.setHandover k (some { x with suspended := false, timer := timer })
  let s := if x.phase = .settling then s.emitHold x.loader else s
  s.tellParties x (.resumed k x.loader x.phase timer.remaining)

/-- A RESUME as its owner takes it (04 R84). -/
def State.takeResume (s : State) (h : Header) (loader context : Byte) : State :=
  s.examined h .resume (s.examineResume h loader context) fun (k, x) =>
    (s.ok h .resume (.context k)).resumeHandover k x

/-- RESUME (04 R84). -/
def execResume (h : Header) (loader context : Byte) (s : State) : Result :=
  .next (s.takeRequest h fun s => s.takeResume h loader context)

end Sys2Proof.Machine
end

