-- ==== Sys2Proof/Machine/Records.lean ====
section
/-! DEFINITION. Enrolment and retirement (01 R4, R5), the intake of a status report (01 R7 to R13,
07 R139, R140), and the position source (01 R15, R16). -/

namespace Sys2Proof.Machine

/-! ## ENROL and RETIRE -/

/-- The examination of an ENROL, in the order of 01 R4. -/
def State.examineEnrol (s : State) (h : Header) (loader : Byte) (address : Word16) :
    Except Reason LoaderId := do
  h.fromSup
  let l ← meaning (loaderOf loader)
  ensure ((s.loader l).state = .unenrolled) .loaderState
  ensure (address ≠ 0 ∧ address ≠ 65535) .badValue
  ensure (¬ s.radioMap.contains (some address) = true) .duplicate
  .ok l

/-- The record of a loader just enrolled (01 R4); its silence timer starts at once. -/
def Loader.enrolled (ps : Params) : Loader :=
  { Loader.blank with
    state := .parked, silence := ⟨0, ps.manualSilence, ps.supervisedSilenceMs⟩ }

/-- An entry of the radio address map is written or emptied (01 1-3). -/
def State.setAddress (s : State) (l : LoaderId) (a : Option Word16) : State :=
  { s with radioMap := s.radioMap.set l a }

/-- An ENROL as its owner takes it (01 R4). -/
def State.takeEnrol (s : State) (h : Header) (loader : Byte) (address : Word16) : State :=
  s.examined h .enrol (s.examineEnrol h loader address) fun l =>
    let s := s.ok h .enrol (.loader l)
    let s := (s.setAddress l (some address)).setLoader l (Loader.enrolled s.params)
    s.emitHold l

/-- ENROL (01 R4). -/
def execEnrol (h : Header) (loader : Byte) (address : Word16) (s : State) : Result :=
  .next (s.takeRequest h fun s => s.takeEnrol h loader address)

/-- The examination of a RETIRE (01 R5). -/
def State.examineRetire (s : State) (h : Header) (loader : Byte) : Except Reason LoaderId := do
  let l ← s.examineSup h loader
  ensure ((s.loader l).state = .parked ∨ (s.loader l).state = .halted ∨
    (s.loader l).state = .isolated) .loaderState
  .ok l

/-- Every forwarded report of a loader leaves every delivery queue, uncounted (01 R5, step 3). -/
def State.removeReports (s : State) (l : LoaderId) : State :=
  { s with
    queues := s.queues.map (·.withoutReports l), supQueue := s.supQueue.withoutReports l }

/-- The retirement of a loader, in the steps of 01 R5. -/
def State.retireLoader (s : State) (l : LoaderId) : State :=
  let s := s.setAddress l none
  let s := { s with watch := s.watch.forgetLoader l }
  let s := s.removeReports l
  (s.setLoader l Loader.blank).updateLamps

/-- A RETIRE as its owner takes it (01 R5). The reply joins the supervisor's queue before step 3
removes the loader's forwarded reports: 01 R5 and 07 R141 give it no place (DESIGN CHOICE, log
33). -/
def State.takeRetire (s : State) (h : Header) (loader : Byte) : State :=
  s.examined h .retire (s.examineRetire h loader) fun l =>
    (s.ok h .retire (.loader l)).retireLoader l

/-- RETIRE (01 R5). -/
def execRetire (h : Header) (loader : Byte) (s : State) : Result :=
  .next (s.takeRequest h fun s => s.takeRetire h loader)

/-! ## Judging a recorded position (01 R12) -/

/-- What a verdict that names a cause asks of the loader: the halt cause and the abort event
(01 R12, 04 R87). -/
def Verdict.asks : Verdict → Option (Cause × AbortEvent)
  | .permissible => none
  | .zoneClosed => some (.zoneClosed, .zoneClosed)
  | .brow => some (.brow, .brow)
  | .zoneMode => some (.zoneMode, .zoneMode)
  | .closing => some (.closing, .closing)
  | .barrier => some (.barrier, .barrier)

/-- The presence that a permissible verdict records (01 R12): on an accepted report a SUPERVISED
or ORPHANED loader sets the entered flag (02 R28), and the attention flag follows the class (02
R29). -/
def State.present (s : State) (l : LoaderId) (onReport : Bool) : State :=
  let moving := (s.loader l).state = .supervised ∨ (s.loader l).state = .orphaned
  let s := match (s.loader l).zone? with
    | some z => if onReport = true ∧ moving then s.markEntered z else s
    | none => s
  s.recordPresence l

/-- The LAT acts once on the verdict on a loader with authority (01 R12). -/
def State.judgeOnce (s : State) (l : LoaderId) (before : Option ZoneId) (onReport : Bool) : State :=
  match (s.verdict l before).asks with
  | none => s.present l onReport
  | some (cause, e) => s.haltLoader l cause e

/-- The LAT acts on the verdict (01 R12). A loader that a CLOSING or BARRIER abort has reverted to a
state with authority is judged again in that state (04 R87, 06 R116). -/
def State.judge (s : State) (l : LoaderId) (before : Option ZoneId) (onReport : Bool) : State :=
  if (s.loader l).hasAuthority then
    let wasTransfer := (s.loader l).state == .transfer
    let asked := (s.verdict l before).asks.isSome
    let s := s.judgeOnce l before onReport
    if wasTransfer && asked && (s.loader l).hasAuthority then s.judgeOnce l before onReport else s
  else s

/-- The completion checks that follow a judged position: the zone just left, and the zone in which
the loader now stands (01 R12, 02 R35). -/
def State.checkMoved (s : State) (l : LoaderId) (before : Option ZoneId) : State :=
  (s.checkClosure? before).checkZoneOf l

/-! ## STATUS_REPORT -/

/-- A report with its codes read and its numbers saturated (01 R7). A stationary byte other than 0
reads yes (10 R173). -/
def readReport (f : StatusFields) (l : LoaderId) : Option Report := do
  let front ← frontOf f.front
  let onboard ← onboardOf f.onboard
  let mission ← missionOf f.mission
  return { loader := l, count := f.count, zone := zoneOf f.zone, chainage := chainageOf f.chainage
           front := front, speed := speedOf f.speed, stationary := f.stationary != 0
           onboard := onboard, mission := mission }

/-- The loader whose map entry holds an address (01 R7). -/
def State.loaderAt (s : State) (a : Word16) : Option LoaderId :=
  (List.finRange 32).find? fun l => s.radioMap[l] == some a

/-- A report count is newer than the last accepted one: the difference modulo 256 lies from 1 to
127, or none was accepted yet (01 R8). -/
def newer (last : Option Byte) (n : Byte) : Bool :=
  match last with
  | none => true
  | some m => decide (0 < (n - m).toNat) && decide ((n - m).toNat < 128)

/-- The position that a report gives. -/
def Report.position (x : Report) : Position := ⟨x.zone, x.chainage, x.front⟩

/-- The record after a report is accepted (01 R8 to R10), its silence timer restarted. -/
def Loader.reported (r : Loader) (x : Report) (ps : Params) : Loader :=
  { r with
    lastCount := some x.count
    lastReported := some x.position
    position := if r.source = .reported then some x.position else r.position
    silence := ⟨0, ps.manualSilence, ps.supervisedSilenceMs⟩
    radioSilent := false
    age := 0
    stationary := x.stationary
    onboard := x.onboard
    mission := x.mission }

/-- A report that shows onboard mode Local halts a loader with authority (01 R11). -/
def State.judgeLocal (s : State) (l : LoaderId) (x : Report) : State :=
  if x.onboard = .atMachine then s.haltLoader l .atMachine .atMachine else s

/-- The report's stationary value reaches the Handover Engine (01 R13): a stationary report ends a
SETTLING that is not suspended (04 R76), a moving one returns a CONFIRMING toward a manual target to
SETTLING (04 R77). -/
def State.settleReport (s : State) (l : LoaderId) (stationary : Bool) : State :=
  match (s.loader l).state, (s.loader l).context with
  | .transfer, some k =>
    match s.handover k with
    | some h =>
      if h.phase = .settling ∧ h.suspended = false ∧ stationary = true then s.enterConfirming k
      else if h.phase = .confirming ∧ h.target = .manual ∧ stationary = false then
        s.returnToSettling k
      else s
    | none => s
  | _, _ => s

/-- Fan-out to one chair: a copy joins the queue of a chair that watches the loader and whose link
is UP, and its entry is touched (07 R139). -/
def State.fanOutTo (s : State) (x : Report) (c : ChairId) : State :=
  if s.isUp c && s.watch.watches c x.loader then
    State.toChair { s with watch := s.watch.touch c x.loader } c (.report x)
  else s

/-- Fan-out of an accepted report to the chairs and, while watch-all is on, to the supervisor
(07 R139, R140). -/
def State.fanOut (s : State) (x : Report) : State :=
  let s := (List.finRange 12).foldl (fun s c => s.fanOutTo x c) s
  if s.watchAll then s.modQueue .supervisor (·.join ⟨0, .report x⟩) else s

/-- The intake of an accepted report, in the order of 01 R8 to R13. -/
def State.intake (s : State) (l : LoaderId) (x : Report) : State :=
  let before := (s.loader l).zone?
  let s := (s.modLoader l (·.reported x s.params)).updateLamps
  let s := s.judgeLocal l x
  let s := s.judge l before true
  let s := s.checkMoved l before
  let s := s.settleReport l x.stationary
  s.fanOut x

/-- The fleet bad-frame counter gains one (08 R148). -/
def FleetLink.bad (f : FleetLink) : FleetLink := { f with badFrames := gain 1 f.badFrames }

/-- A STATUS report as the FLI and the LAT take it (01 R7, R8). -/
def State.takeReport (s : State) (f : StatusFields) : State :=
  match s.loaderAt f.address with
  | none => { s with fleet := { s.fleet with unknown := gain 1 s.fleet.unknown } }
  | some l =>
    match readReport f l with
    | none => { s with fleet := s.fleet.bad }
    | some x => if newer (s.loader l).lastCount x.count then s.intake l x else s

/-- STATUS_REPORT (01 R7 to R13). The tag is not examined (08 R149). -/
def execStatusReport (_tag : Byte) (f : StatusFields) (s : State) : Result :=
  .next (s.running fun s => s.takeReport f)

/-! ## FIX_POSITION and FREE_POSITION -/

/-- The examination of a FIX_POSITION (01 R15). A front sense without a meaning is refused before a
loader that is not enrolled: 01 R15 gives no order (DESIGN CHOICE, log 34). -/
def State.examineFix (s : State) (h : Header) (loader zone : Byte) (chainage : Word16)
    (front : Byte) : Except Reason (LoaderId × Position) := do
  h.fromSup
  let l ← meaning (loaderOf loader)
  let d ← meaning (frontOf front)
  s.enrolled l
  .ok (l, ⟨zoneOf zone, chainageOf chainage, d⟩)

/-- A position is fixed and judged at once (01 R15). -/
def State.fixLoader (s : State) (l : LoaderId) (p : Position) : State :=
  let before := (s.loader l).zone?
  let s := (s.modLoader l fun r => { r with source := .fixed, position := some p, age := 0 })
  (s.updateLamps.judge l before false).checkMoved l before

/-- A FIX_POSITION as its owner takes it (01 R15). The reply carries the state that the fix leaves,
and joins before the notices of the fix (02 R43, 04 R92; log 14). -/
def State.takeFix (s : State) (h : Header) (loader zone : Byte) (chainage : Word16) (front : Byte) :
    State :=
  s.examined h .fixPosition (s.examineFix h loader zone chainage front) fun (l, p) =>
    (s.ok h .fixPosition (.fix l ((s.fixLoader l p).loader l).state)).fixLoader l p

/-- FIX_POSITION (01 R15). -/
def execFixPosition (h : Header) (loader zone : Byte) (chainage : Word16) (front : Byte)
    (s : State) : Result :=
  .next (s.takeRequest h fun s => s.takeFix h loader zone chainage front)

/-- The record whose position source goes back to Reported, its position stale (01 R16). -/
def Loader.freed (r : Loader) : Loader :=
  if r.source = .fixed then { r with source := .reported, age := Config.counterLimit } else r

/-- A FREE_POSITION as its owner takes it (01 R16). -/
def State.takeFree (s : State) (h : Header) (loader : Byte) : State :=
  s.examined h .freePosition (s.examineSup h loader) fun l =>
    (s.ok h .freePosition (.loader l)).modLoader l Loader.freed

/-- FREE_POSITION (01 R16). -/
def execFreePosition (h : Header) (loader : Byte) (s : State) : Result :=
  .next (s.takeRequest h fun s => s.takeFree h loader)

end Sys2Proof.Machine
end

