-- ==== Sys2Proof/Machine/Zones.lean ====
section
/-! DEFINITION. The requests of Chapter 2, SET_ZONE, CLOSE_ZONE and CANCEL_CLOSURE, and the barrier
events (02 R38). -/

namespace Sys2Proof.Machine

/-! ## SET_ZONE -/

/-- The values that a SET_ZONE would store, saturated (02 R31). -/
def newZone (cls : ZoneClass) (openLength : Byte) (measured : MeasuredFrom) (cap : Byte) : Zone :=
  ⟨cls, saturate 0 128 openLength.toNat, measured, saturate 0 80 cap.toNat, false, false, none⟩

/-- The class admits no manual mode but admits supervised: class 1 or 2 (02 R25). -/
def ZoneClass.autoClass (c : ZoneClass) : Bool := c == .autoFlagged || c == .autoOnly

/-- The loader is in TRANSFER toward a manual target. -/
def State.towardManual (s : State) (l : LoaderId) : Bool :=
  (s.loader l).state == .transfer && (s.handoverOf l).any (·.target == .manual)

/-- A new descriptor strands a loader with authority recorded in the zone (02 R32). -/
def State.strands (s : State) (x : Zone) (l : LoaderId) : Bool :=
  (s.loader l).position.any fun p =>
    x.cls == .closed || !x.within p.chainage ||
      (x.cls.autoClass && (s.judgedMode l == .manual || s.towardManual l))

/-- The examination of a SET_ZONE, in the order of 02 R31. -/
def State.examineSetZone (s : State) (h : Header) (zone cls openLength measuredFrom cap : Byte) :
    Except Reason Zone := do
  h.fromSup
  let c ← meaning (classOf cls)
  let m ← meaning (measuredFromOf measuredFrom)
  ensure ((s.zone (zoneOf zone)).closing = none) .busy
  let x := newZone c openLength m cap
  ensure (((s.authorityIn (zoneOf zone)).any fun l => s.strands x l) = false) .occupied
  .ok x

/-- A SET_ZONE as its owner takes it (02 R31): both flags are cleared (02 R30). -/
def State.takeSetZone (s : State) (h : Header) (zone cls openLength measuredFrom cap : Byte) :
    State :=
  s.examined h .setZone (s.examineSetZone h zone cls openLength measuredFrom cap) fun x =>
    (s.ok h .setZone (.zone (zoneOf zone) x.cls x.openLength x.measuredFrom x.cap)).modZone
      (zoneOf zone) fun _ => x

/-- SET_ZONE (02 R31). -/
def execSetZone (h : Header) (zone cls openLength measuredFrom cap : Byte) (s : State) : Result :=
  .next (s.takeRequest h fun s => s.takeSetZone h zone cls openLength measuredFrom cap)

/-! ## CLOSE_ZONE and CANCEL_CLOSURE -/

/-- The lowest-numbered closure context not in use (02 R33). -/
def State.freeClosure (s : State) : Option ClosureId :=
  (List.finRange 4).find? fun k => (s.closure k).isNone

/-- The examination of a CLOSE_ZONE (02 R34). A zone already Closing is refused BUSY also while all
four closure contexts are in use: 02 R34 gives BUSY and FULL no order (DESIGN CHOICE, log 39). -/
def State.examineClose (s : State) (h : Header) (zone : Byte) : Except Reason ClosureId := do
  h.fromSup
  ensure ((s.zone (zoneOf zone)).closing = none) .busy
  match s.freeClosure with
  | some k => .ok k
  | none => .error .full

/-- The handovers in flight whose loader is recorded in a zone. -/
def State.contextsIn (s : State) (z : ZoneId) : List CtxId :=
  s.contextsWhere fun h => (s.loader h.loader).inZone z

/-- The EVACUATE notice to the holder of a loader (02 R34, step 3). -/
def State.tellEvacuate (s : State) (z : ZoneId) (time : Nat) (l : LoaderId) : State :=
  s.tellChair? (s.loader l).holderChair (.evacuate z l time)

/-- A closure begins, in the steps of 02 R34. -/
def State.beginClosure (s : State) (z : ZoneId) (k : ClosureId) (time : Nat) : State :=
  let s := s.setClosure k (some ⟨z, time, Timer.start (Machine.seconds time), s.seconds⟩)
  let s := s.modZone z fun x => { x with closing := some k }
  let s := s.abortAll (s.contextsIn z) fun _ => .closing
  let s := (s.authorityIn z).foldl (fun s l => s.tellEvacuate z time l) s
  s.checkClosure z

/-- A CLOSE_ZONE as its owner takes it (02 R34). -/
def State.takeClose (s : State) (h : Header) (zone : Byte) (time : Word16) : State :=
  s.examined h .closeZone (s.examineClose h zone) fun k =>
    let stored := saturate 10 600 time.toNat
    (s.ok h .closeZone (.closure k stored)).beginClosure (zoneOf zone) k stored

/-- CLOSE_ZONE (02 R34). -/
def execCloseZone (h : Header) (zone : Byte) (time : Word16) (s : State) : Result :=
  .next (s.takeRequest h fun s => s.takeClose h zone time)

/-- The examination of a CANCEL_CLOSURE (02 R37). -/
def State.examineCancelClosure (s : State) (h : Header) (zone : Byte) :
    Except Reason ClosureId := do
  h.fromSup
  match (s.zone (zoneOf zone)).closing with
  | some k => .ok k
  | none => .error .noClosure

/-- A CANCEL_CLOSURE as its owner takes it (02 R37): class, flags and the rest are kept. -/
def State.takeCancelClosure (s : State) (h : Header) (zone : Byte) : State :=
  s.examined h .cancelClosure (s.examineCancelClosure h zone) fun k =>
    ((s.ok h .cancelClosure (.zoneOnly (zoneOf zone))).setClosure k none).modZone (zoneOf zone)
      fun x => { x with closing := none }

/-- CANCEL_CLOSURE (02 R37). -/
def execCancelClosure (h : Header) (zone : Byte) (s : State) : Result :=
  .next (s.takeRequest h fun s => s.takeCancelClosure h zone)

/-! ## The expiry of a closure timer -/

/-- A closure timer expires (02 R36): the loaders with authority still recorded in the zone lose it
with cause ZONE_CLOSED, and the closure completes with their number as the halted count. -/
def State.expireClosure (s : State) (k : ClosureId) : State :=
  match s.closure k with
  | none => s
  | some x =>
    let ls := s.authorityIn x.zone
    (s.takeAuthority ls .zoneClosed).checkClosure x.zone ls.length

/-- CLOSURE_TIMER_EXPIRY (02 R36). -/
def execClosureTimerExpiry (k : ClosureId) (s : State) : Result :=
  .next (s.running fun s => s.expireClosure k)

/-! ## Barriers -/

/-- The handovers that a breach of a level aborts: their loader is recorded on the level and its
held mode or the target mode is supervised (02 R38, step 1). -/
def State.breachContexts (s : State) (n : LevelId) : List CtxId :=
  s.contextsWhere fun h =>
    (s.loader h.loader).onLevel n &&
      ((s.loader h.loader).heldMode == some .supervised || h.target == .supervised)

/-- The loaders that a breach of a level halts (02 R38, step 2), lowest number first: the step gives
no order (DESIGN CHOICE, log 35). -/
def State.breachLoaders (s : State) (n : LevelId) : List LoaderId :=
  s.loadersWhere fun r => (r.state == .supervised || r.state == .orphaned) && r.onLevel n

/-- The filtered level of a barrier input. -/
def State.setBarrierInput (s : State) (n : LevelId) (x : Bool) : State :=
  { s with inputs := { s.inputs with barriers := s.inputs.barriers.set n x } }

/-- The barrier state of a level. -/
def State.setBarrier (s : State) (n : LevelId) (x : Bool) : State :=
  { s with barriers := s.barriers.set n x }

/-- The breach event of a level, in the steps of 02 R38. The aborts of step 1 run in the order that
04 R92 gives their notices, the halts of step 2 in that of log 35. -/
def State.breach (s : State) (n : LevelId) : State :=
  let s := s.setBarrier n true
  let ks := s.breachContexts n
  let s := s.abortAll ks fun _ => .barrier
  let ls := s.breachLoaders n
  let s := s.haltAll ls .barrier
  let s := s.checkClosures fun z => levelOf z == n
  s.tellSup (.barrierChange n true ks.length ls.length)

/-- A barrier input is asserted. While RESET is asserted the change is not taken, but the line has
its new level when RESET is released; and a level that is breached already has not changed
(08 R160, R161, log 17). -/
def State.assertBarrier (s : State) (n : LevelId) : State :=
  let changed := !s.barriers[n]
  let s := s.setBarrierInput n true
  s.running fun s => if changed then s.breach n else s

/-- A barrier input is released (02 R38): nothing is restored. -/
def State.releaseBarrier (s : State) (n : LevelId) : State :=
  let changed := s.barriers[n]
  let s := s.setBarrierInput n false
  s.running fun s =>
    if changed then (s.setBarrier n false).tellSup (.barrierChange n false 0 0) else s

/-- BARRIER_BREACH (02 R38). -/
def execBarrierBreach (level : LevelId) (s : State) : Result := .next (s.assertBarrier level)

/-- BARRIER_RELEASE (02 R38). -/
def execBarrierRelease (level : LevelId) (s : State) : Result := .next (s.releaseBarrier level)

end Sys2Proof.Machine
end

