-- ==== Sys2Proof/Machine/Settings.lean ====
section
/-! DEFINITION. SET_PARAM, WATCH_ALL and RESTART (Chapter 9), the STOP_ALL input (06 6-5), and the
RESET input and power-on (08 R161). -/

namespace Sys2Proof.Machine

/-! ## SET_PARAM and WATCH_ALL -/

/-- The examination of a SET_PARAM (09 R163): attention notices takes a code, every other parameter
a number that is saturated to its range. Code 255, which only a query can name, is refused BADVALUE
(DESIGN CHOICE, log 37). -/
def Header.examineParam (h : Header) (code : Byte) (value : Word16) :
    Except Reason (Param × Nat) := do
  h.fromSup
  let p ← meaning (paramOf code)
  ensure (p = .attention → value.toNat ≤ 1) .badValue
  .ok (p, saturate p.range.1 p.range.2 value.toNat)

/-- A SET_PARAM as its owner takes it (09 R163, R164): no timer, flag, counter or record changes. -/
def State.takeSetParam (s : State) (h : Header) (code : Byte) (value : Word16) : State :=
  s.examined h .setParam (Header.examineParam h code value) fun (p, v) =>
    let s := s.ok h .setParam (.param p v)
    { s with params := s.params.put p v }

/-- SET_PARAM (09 R163). -/
def execSetParam (h : Header) (code : Byte) (value : Word16) (s : State) : Result :=
  .next (s.takeRequest h fun s => s.takeSetParam h code value)

/-- The examination of a WATCH_ALL (09 R168). -/
def Header.examineWatchAll (h : Header) (setting : Byte) : Except Reason Bool := do
  h.fromSup
  meaning (flagOf setting)

/-- A WATCH_ALL as its owner takes it (09 R168). -/
def State.takeWatchAll (s : State) (h : Header) (setting : Byte) : State :=
  s.examined h .watchAll (Header.examineWatchAll h setting) fun on =>
    let s := s.ok h .watchAll (.setting on)
    { s with watchAll := on }

/-- WATCH_ALL (09 R168). -/
def execWatchAll (h : Header) (setting : Byte) (s : State) : Result :=
  .next (s.takeRequest h fun s => s.takeWatchAll h setting)

/-! ## Taking all authority (06 R127, R132) -/

/-- The loaders that lose their authority to a new halt record: those with authority but for one
forced from HALTED. -/
def State.toHalt (s : State) : List LoaderId :=
  s.loadersWhere fun r => r.hasAuthority && r.prior != some .halted

/-- The loaders whose halt record takes a further cause: HALTED ones, and those forced from HALTED,
whose record is restored with it. -/
def State.toMark (s : State) : List LoaderId :=
  s.loadersWhere fun r => r.state == .halted || (r.hasAuthority && r.prior == some .halted)

/-- Every handover is aborted, every remaining loader with authority is halted, and every loader
that was HALTED before takes a further cause (06 R127, R132). -/
def State.takeAllAuthority (s : State) (e : AbortEvent) : State :=
  let marked := s.haltedLoaders
  let s := s.takeAuthority (List.finRange 32) e
  s.furtherAll marked e.cause

/-! ## RESTART (09 R169) -/

/-- Step 2: an enrolled record is marked stale and its lapse timer stops (01 R22). -/
def Loader.restarted (r : Loader) : Loader :=
  if r.state = .unenrolled then r
  else { r with age := Config.counterLimit, lapse := false, lapseTimer := none }

/-- Step 3: every closure completes with halted count 0 (02 R41). -/
def State.completeAll (s : State) : State :=
  (List.finRange 4).foldl (fun s k =>
    match s.closure k with
    | some x => s.completeClosure x.zone k 0
    | none => s) s

/-- Step 4: drive counters at 0, every slot's drive state fresh (03 R64). -/
def Chair.restarted (r : Chair) : Chair :=
  { r with
    counters := .zero
    slots := r.slots.map fun slot => { slot with lastCount := none, outcome := .fresh } }

/-- Step 5: error counter and valid tally at 0, and the silence timer of an UP or LOST link restarts
(08 R150). -/
def ChairLink.restarted (k : ChairLink) (ps : Params) : ChairLink :=
  let k := { k with errors := 0, tally := 0 }
  if k.state = .down then k else k.restartSilence ps

/-- Steps 2 to 5 of a RESTART. -/
def State.restartBlocks (s : State) : State :=
  let s := { s with loaders := s.loaders.map Loader.restarted }
  let s := s.completeAll
  { s with
    chairs := s.chairs.map Chair.restarted
    links := s.links.map fun k => k.restarted s.params
    supLink := { s.supLink with errors := 0, tally := 0 } }

/-- Step 6: the Watch Table and the delivery queues are emptied, uncounted (07 R145). -/
def State.emptyQueues (s : State) : State :=
  { s with
    watch := WatchTable.blank
    queues := s.queues.map OutQueue.emptied
    supQueue := s.supQueue.emptied }

/-- The counts that the RESTART reply carries (09 R169). -/
def State.restartCounts (s : State) : OkBody :=
  .restart (s.contextsWhere fun _ => true).length s.toHalt.length s.toMark.length
    ((List.finRange 4).filter fun k => (s.closure k).isSome).length

/-- A RESTART as its owner takes it, in the steps of 09 R169; the reply joins the emptied queue. The
notices of steps 1 to 3 join the queues before step 6 empties them, so that one which finds a full
queue counts as dropped by 07 R143 (DEDUCED, log 41). -/
def State.takeRestart (s : State) (h : Header) : State :=
  s.examined h .restart h.fromSup fun _ =>
    let counts := s.restartCounts
    ((s.takeAllAuthority .restart).restartBlocks.emptyQueues).ok h .restart counts

/-- RESTART (09 R169). -/
def execRestart (h : Header) (s : State) : Result :=
  .next (s.takeRequest h fun s => s.takeRestart h)

/-! ## The STOP_ALL input -/

/-- The filtered level of the STOP_ALL input. -/
def State.setStopInput (s : State) (x : Bool) : State :=
  { s with inputs := { s.inputs with stopAll := x } }

/-- The assertion event of STOP_ALL, in the steps of 06 R127. -/
def State.stopEverything (s : State) : State :=
  let halted := s.toHalt.length
  let further := s.toMark.length
  let s := ({ s with stopAll := true }.takeAllAuthority .stopAll).checkClosures
  s.tellSup (.stopChange true s.seconds halted further)

/-- The STOP_ALL input is asserted. While RESET is asserted the change is not taken, but the line
has its new level when RESET is released; and a state that is asserted already has not changed (08
R160, R161, log 17). -/
def State.assertStop (s : State) : State :=
  let changed := !s.stopAll
  (s.setStopInput true).running fun s => if changed then s.stopEverything else s

/-- The STOP_ALL input is released (06 R128): nothing is restored. -/
def State.releaseStop (s : State) : State :=
  let changed := s.stopAll
  (s.setStopInput false).running fun s =>
    if changed then State.tellSup { s with stopAll := false } (.stopChange false s.seconds 0 0)
    else s

/-- STOP_ALL_ASSERTION (06 R127). -/
def execStopAllAssertion (s : State) : Result := .next s.assertStop

/-- STOP_ALL_RELEASE (06 R128). -/
def execStopAllRelease (s : State) : Result := .next s.releaseStop

/-! ## The RESET input and power-on (08 R161) -/

/-- A delivery queue at the assertion of RESET: emptied, and the frame in transmission cut off. -/
def OutQueue.cutOff (q : OutQueue) : OutQueue := { q with frames := [], sending := none }

/-- The assertion of RESET: the frames in reception are abandoned, the queues and the order line are
emptied, the frames and the order in transmission are cut off, and the lamps go dark. While the
input stays asserted every timer stands still and every byte is discarded (State.receive). -/
def State.assertReset (s : State) : State :=
  { s with
    inReset := true
    receivers := Receivers.hunting
    queues := s.queues.map OutQueue.cutOff
    supQueue := s.supQueue.cutOff
    fleet := { s.fleet with orders := [], sending := none }
    lamps := Vector.replicate 8 false }

/-- RESET_ASSERTION (08 R161). -/
def execResetAssertion (s : State) : Result := .next s.assertReset

/-- RESET_RELEASE (08 R161): every block takes its power-on values. -/
def execResetRelease (s : State) : Result := .next (State.powerOn s.inputs s.line s.pending)

/-- POWER_ON (08 R161): it behaves as a release of the RESET input. -/
def execPowerOn (s : State) : Result := .next (State.powerOn s.inputs s.line s.pending)

end Sys2Proof.Machine
end

