-- ==== Sys2Proof/Machine/Queries.lean ====
section
/-! DEFINITION. The query requests (09 R165 to R167): each answers a record as it stands and changes
nothing else. -/

namespace Sys2Proof.Machine

/-! ## What the replies carry -/

/-- The halt record that a loader's handover context holds for it (09 R166). -/
def State.heldRecord (s : State) (l : LoaderId) : Option HaltRecord :=
  (s.handoverOf l).bind (·.held)

/-- The reply to QUERY_LOADER (09 R166). -/
def State.viewLoader (s : State) (l : LoaderId) : LoaderView :=
  ⟨l, s.radioMap[l], s.loader l, s.heldRecord l⟩

/-- The reply to QUERY_CHAIR (09 R166). Its last two fields are read before the reply itself joins a
queue, which matters for a chair that names itself (log 44). -/
def State.viewChair (s : State) (c : ChairId) : ChairView where
  chair := c
  link := s.link c
  record := s.chair c
  manualLoad := s.manualLoad c
  queued := (s.queue (.chair c)).frames.length
  dropped := (s.queue (.chair c)).dropped

/-- The reply to QUERY_ZONE (09 R167). -/
def State.viewZone (s : State) (z : ZoneId) : ZoneView where
  zone := z
  descriptor := s.zone z
  level := levelOf z
  barrier := s.barriers[levelOf z]
  lamp := s.lamps[levelOf z]
  count := (s.authorityIn z).length
  closure := (s.zone z).closing.bind s.closure

/-- The reply to QUERY_HANDOVER (09 R167): a free context carries no field, and the held halt record
is left to QUERY_LOADER. -/
def State.viewHandover (s : State) (k : CtxId) : Option HandoverView :=
  (s.handover k).map fun h =>
    ⟨{ h with held := none }, (s.loader h.loader).prior, (s.loader h.loader).grace⟩

/-- The reply to QUERY_PARAM with the all code (09 R165). The dropped-frame counter of the
supervisor's queue is read before the reply itself joins it (log 44). -/
def State.viewModule (s : State) : ModuleView where
  params := s.params
  seconds := s.seconds
  stopAll := s.stopAll
  barriers := s.barriers
  lamps := s.lamps
  watchAll := s.watchAll
  supErrors := s.supLink.errors
  supTally := s.supLink.tally
  supBadFrames := s.supLink.badFrames
  supDropped := s.supQueue.dropped
  fleetBadFrames := s.fleet.badFrames
  unknown := s.fleet.unknown
  ordersDropped := s.fleet.dropped
  ordersWaiting := s.fleet.orders.length
  handoversInUse := (s.contextsWhere fun _ => true).length
  closuresInUse := ((List.finRange 4).filter fun k => (s.closure k).isSome).length

/-! ## The queries -/

/-- A QUERY_LOADER as its owner takes it, from a chair or the supervisor (09 R165, R166). -/
def State.takeQueryLoader (s : State) (h : Header) (loader : Byte) : State :=
  s.examined h .queryLoader (do
      let l ← meaning (loaderOf loader)
      s.enrolled l
      .ok l)
    fun l => s.ok h .queryLoader (.loaderView (s.viewLoader l))

/-- QUERY_LOADER (09 R166). -/
def execQueryLoader (h : Header) (loader : Byte) (s : State) : Result :=
  .next (s.takeRequest h fun s => s.takeQueryLoader h loader)

/-- The examination of a QUERY_CHAIR: a chair may name itself alone (09 R165). -/
def Header.examineQueryChair (h : Header) (chair : Byte) : Except Reason ChairId := do
  let c ← meaning (chairOf chair)
  match h.sender with
  | .chair d _ => ensure (c = d) .notParty
  | .supervisor => .ok ()
  .ok c

/-- A QUERY_CHAIR as its owner takes it (09 R166). -/
def State.takeQueryChair (s : State) (h : Header) (chair : Byte) : State :=
  s.examined h .queryChair (Header.examineQueryChair h chair) fun c =>
    s.ok h .queryChair (.chairView (s.viewChair c))

/-- QUERY_CHAIR (09 R166). -/
def execQueryChair (h : Header) (chair : Byte) (s : State) : Result :=
  .next (s.takeRequest h fun s => s.takeQueryChair h chair)

/-- A QUERY_ZONE as its owner takes it (09 R167). -/
def State.takeQueryZone (s : State) (h : Header) (zone : Byte) : State :=
  s.examined h .queryZone h.fromSup fun _ =>
    s.ok h .queryZone (.zoneView (s.viewZone (zoneOf zone)))

/-- QUERY_ZONE (09 R167). -/
def execQueryZone (h : Header) (zone : Byte) (s : State) : Result :=
  .next (s.takeRequest h fun s => s.takeQueryZone h zone)

/-- The examination of a QUERY_HANDOVER (09 R165). -/
def Header.examineQueryHandover (h : Header) (context : Byte) : Except Reason CtxId := do
  h.fromSup
  meaning (ctxOf context)

/-- A QUERY_HANDOVER as its owner takes it (09 R167). -/
def State.takeQueryHandover (s : State) (h : Header) (context : Byte) : State :=
  s.examined h .queryHandover (Header.examineQueryHandover h context) fun k =>
    s.ok h .queryHandover (.handoverView k (s.viewHandover k))

/-- QUERY_HANDOVER (09 R167). -/
def execQueryHandover (h : Header) (context : Byte) (s : State) : Result :=
  .next (s.takeRequest h fun s => s.takeQueryHandover h context)

/-- What a QUERY_PARAM names: one parameter, or all of them (10 R173: code 255). -/
def queriedParam (code : Byte) : Option (Option Param) :=
  if code = 255 then some none else (paramOf code).map some

/-- The examination of a QUERY_PARAM (09 R165). -/
def Header.examineQueryParam (h : Header) (code : Byte) : Except Reason (Option Param) := do
  h.fromSup
  meaning (queriedParam code)

/-- A QUERY_PARAM as its owner takes it (09 R165). -/
def State.takeQueryParam (s : State) (h : Header) (code : Byte) : State :=
  s.examined h .queryParam (Header.examineQueryParam h code) fun p =>
    match p with
    | some p => s.ok h .queryParam (.param p (s.params.get p))
    | none => s.ok h .queryParam (.module s.viewModule)

/-- QUERY_PARAM (09 R165). -/
def execQueryParam (h : Header) (code : Byte) (s : State) : Result :=
  .next (s.takeRequest h fun s => s.takeQueryParam h code)

end Sys2Proof.Machine
end

