-- ==== Sys2Proof/Machine/Clock.lean ====
section
/-! DEFINITION. The passing of time, which a step on an empty queue lets happen (log 1): one
millisecond passes, or the first timer that is due expires. -/

namespace Sys2Proof.Machine

/-! ## One millisecond -/

/-- A running timer is one millisecond older. -/
def Timer.advance (t : Timer) : Timer := { t with elapsed := t.elapsed + 1 }

/-- The timer has run for its setting. -/
def Timer.isDue (t : Timer) : Bool := decide (t.setting ≤ t.elapsed)

/-- The clocks of a loader record advance (01 R14, R17, R19, R20, 06 R124). -/
def Loader.advance (r : Loader) : Loader :=
  if r.state = .unenrolled then r
  else
    { r with
      age := gain 1 r.age
      silence := { r.silence with elapsed := r.silence.elapsed + 1 }
      lapseTimer := r.lapseTimer.map Timer.advance
      holdRefresh := r.holdRefresh.map Timer.advance
      grace := r.grace.map Timer.advance }

/-- The timers of a handover advance: the phase timer stands still while the context is suspended,
and the watchdog runs on (04 R81, R82). -/
def Handover.advance (h : Handover) : Handover :=
  { h with
    timer := if h.suspended then h.timer else h.timer.advance
    watchdog := h.watchdog.advance }

/-- The timer of a closure advances (02 R33). -/
def Closure.advance (x : Closure) : Closure := { x with timer := x.timer.advance }

/-- The silence timer of a chair link advances (08 R150). -/
def ChairLink.advance (k : ChairLink) : ChairLink :=
  { k with silence := k.silence.map Timer.advance }

/-- One millisecond passes for every clock of the switch. -/
def State.tick (s : State) : State :=
  { s with
    loaders := s.loaders.map Loader.advance
    handovers := s.handovers.map fun h => h.map Handover.advance
    closures := s.closures.map fun x => x.map Closure.advance
    links := s.links.map ChairLink.advance
    millis := s.millis + 1 }

/-! ## What is due -/

/-- The expiries that are due at a loader: silence (01 R17: once for each silence), drive lapse,
orphan grace, hold refresh. -/
def State.loaderDue (s : State) (l : LoaderId) : List Instr :=
  let r := s.loader l
  (if r.state ≠ .unenrolled ∧ r.radioSilent = false ∧ s.silenceThreshold l ≤ r.silence.elapsed
    then [.silenceTimerExpiry l] else []) ++
  (if r.lapseTimer.any Timer.isDue then [.lapseTimerExpiry l] else []) ++
  (if r.grace.any Timer.isDue then [.orphanGraceExpiry l] else []) ++
  (if r.holdRefresh.any Timer.isDue then [.holdRefreshExpiry l] else [])

/-- The expiry of a phase timer (04 R80). -/
def Phase.expiry (p : Phase) (k : CtxId) : Instr :=
  match p with
  | .offered | .requested => .answerTimerExpiry k
  | .settling => .settleTimerExpiry k
  | .confirming => .confirmTimerExpiry k

/-- The expiries that are due at a handover context: its phase timer unless suspended, and the
watchdog. -/
def State.handoverDue (s : State) (k : CtxId) : List Instr :=
  match s.handover k with
  | none => []
  | some h =>
    (if h.suspended = false ∧ h.timer.isDue = true then [h.phase.expiry k] else []) ++
    (if h.watchdog.isDue then [.watchdogExpiry k] else [])

/-- The expiry that is due at a closure context. -/
def State.closureDue (s : State) (k : ClosureId) : List Instr :=
  if (s.closure k).any fun x => x.timer.isDue then [.closureTimerExpiry k] else []

/-- The expiry that is due at a chair link. -/
def State.linkDue (s : State) (c : ChairId) : List Instr :=
  if (s.link c).silence.any Timer.isDue then [.linkSilenceExpiry c] else []

/-- The end of a second. -/
def State.secondDue (s : State) : List Instr :=
  if 1000 ≤ s.millis then [.secondsCounterTick] else []

/-- Everything that is due, in the order in which the model takes it: the second, the chair links,
the loaders, the handovers, the closures (DESIGN CHOICE, log 1). -/
def State.allDue (s : State) : List Instr :=
  s.secondDue ++ (List.finRange 12).flatMap s.linkDue ++ (List.finRange 32).flatMap s.loaderDue ++
    (List.finRange 8).flatMap s.handoverDue ++ (List.finRange 4).flatMap s.closureDue

/-- The first expiry that is due. -/
def State.firstDue (s : State) : Option Instr := s.allDue.head?

end Sys2Proof.Machine
end

