-- ==== Sys2Proof/Machine/Drive.lean ====
section
/-! DEFINITION. The Drive Gate (Chapter 5): the checks on a drive frame, the speed envelope, the
clamp, the DRIVE order, and the counters and refusal notices. -/

namespace Sys2Proof.Machine

/-! ## The envelope (05 5-3) -/

/-- The requested speed asks for travel toward increasing chainage (05 R100). -/
def travelUp (v : Int) (front : FrontSense) : Bool :=
  match front with
  | .towardFarEnd => decide (0 < v)
  | .towardEntrance => decide (v < 0)

/-- The requested speed asks for travel toward decreasing chainage (05 R100). -/
def travelDown (v : Int) (front : FrontSense) : Bool :=
  match front with
  | .towardFarEnd => decide (v < 0)
  | .towardEntrance => decide (0 < v)

/-- The travel approaches the brow of the zone, which has one when its open length is 1 to 127
segments (05 R101). -/
def Zone.approaches (z : Zone) (v : Int) (front : FrontSense) : Bool :=
  decide (1 ≤ z.openLength) && decide (z.openLength ≤ 127) &&
    match z.measuredFrom with
    | .entrance => travelUp v front
    | .farEnd => travelDown v front

/-- The distance from the brow limit (05 R101). -/
def Zone.distance (z : Zone) (chainage : Nat) : Nat :=
  match z.measuredFrom with
  | .entrance => z.limit - chainage
  | .farEnd => chainage - z.limit

/-- The ramp at a distance from the brow (05 R102). -/
def ramp (standoff gain distance : Nat) : Nat :=
  if distance ≤ standoff then 0 else (distance - standoff) * gain / 16

/-- Zone cap and brow ramp: terms 1 and 2 of 05 R106. -/
def browEnvelope (z : Zone) (ps : Params) (p : Position) (v : Int) : Nat :=
  if z.approaches v p.front then min z.cap (ramp ps.standoff ps.gain (z.distance p.chainage))
  else z.cap

/-- The creep cap holds for the loader: a stale or Fixed position, or a breached barrier
(05 R103). -/
def State.creeps (s : State) (l : LoaderId) (p : Position) : Bool :=
  decide (s.params.staleLimit < (s.loader l).age) || (s.loader l).source == .fixed ||
    s.barriers[levelOf p.zone]

/-- The derate count of a link error threshold: its half, rounded up (05 R104). -/
def derateCount (threshold : Nat) : Nat := (threshold + 1) / 2

/-- The loader's handover is in SETTLING and not suspended, which forces the envelope to 0
(05 R105). -/
def State.forcedStill (s : State) (l : LoaderId) : Bool :=
  (s.handoverOf l).any fun h => h.phase == .settling && !h.suspended

/-- The speed envelope for a frame of a chair to a loader, in the order of terms of 05 R106. A
loader that a frame reaches always has a recorded position (05 R99). -/
def State.envelope (s : State) (c : ChairId) (l : LoaderId) (v : Int) : Nat :=
  match (s.loader l).position with
  | none => 0
  | some p =>
    let e := browEnvelope (s.zone p.zone) s.params p v
    let e := if s.creeps l p then min e s.params.creep else e
    let e := if derateCount s.params.linkError ≤ (s.link c).errors then e / 2 else e
    if s.forcedStill l then 0 else e

/-- The speed that an envelope leaves of a requested speed (05 R107). -/
def clampSpeed (e : Nat) (v : Int) : Int :=
  if e < v.natAbs then (if v < 0 then -(e : Int) else e) else v

/-- The speed was lowered (05 R107). -/
def isClamped (e : Nat) (v : Int) : Bool := decide (e < v.natAbs)

/-! ## Checks -/

/-- The refusal checks of a frame for a slot (05 R93 to R96). -/
def State.examineFrame (s : State) (c : ChairId) (i : SlotId) (f : DriveFields) :
    Except Reason (LoaderId × Bool) := do
  let horn ← meaning (flagOf f.horn)
  match (s.slot c i).contents with
  | .bound l => do
    ensure (s.drivable l = true) .notHolder
    ensure (f.epoch = (s.loader l).epoch) .staleGrant
    .ok (l, horn)
  | _ => .error .slotEmpty

/-- Changes the drive counters of a chair. -/
def State.modCounters (s : State) (c : ChairId) (f : DriveCounters → DriveCounters) : State :=
  s.modChair c fun r => { r with counters := f r.counters }

/-- The refused counter gains one (05 R111). -/
def DriveCounters.addRefused (x : DriveCounters) : DriveCounters :=
  { x with refused := gain 1 x.refused }

/-- The loader that a slot is Bound to or Reserved for (05 R112). -/
def SlotContents.loader? : SlotContents → Option LoaderId
  | .empty => none
  | .bound l => some l
  | .reserved l _ => some l

/-- The epoch that a DRIVE_REFUSED notice carries: the loader's current one for STALE_GRANT, else 0
(05 R112, 10 R173). -/
def State.refusedEpoch (s : State) (x : SlotContents) (r : Reason) : Word16 :=
  match x.loader?, r with
  | some l, .staleGrant => (s.loader l).epoch
  | _, _ => 0

/-- A frame is refused: it is counted, the chair is told when the reason differs from the stored
outcome, and the reason is stored (05 R111, R112). -/
def State.refuseFrame (s : State) (c : ChairId) (i : SlotId) (r : Reason) (count : Byte) : State :=
  let x := s.slot c i
  let s := s.modCounters c (·.addRefused)
  let s := if x.outcome = .refused r then s
    else s.tellChair c
      (.driveRefused i r x.contents.loader? (s.refusedEpoch x.contents r) count)
  s.modSlot c i fun slot => { slot with outcome := .refused r }

/-- What the sequence count of a frame says (05 R97): a repeat, an overtaken frame, or a new frame
with the number of frames missing before it. -/
inductive Sequence where
  | duplicate | stale | fresh (missing : Nat)
  deriving DecidableEq, Repr

/-- Compares a frame's sequence count with the slot's last one (05 R97). -/
def sequenceOf (last : Option Byte) (n : Byte) : Sequence :=
  match last with
  | none => .fresh 0
  | some m =>
    let d := (n - m).toNat
    if d = 0 then .duplicate else if d < 128 then .fresh (d - 1) else .stale

/-! ## Forwarding -/

/-- The counters after a frame is forwarded (05 R111). -/
def DriveCounters.forward (x : DriveCounters) (clamped : Bool) (missing : Nat) : DriveCounters :=
  { x with
    accepted := if clamped then x.accepted else gain 1 x.accepted
    clamped := if clamped then gain 1 x.clamped else x.clamped
    gap := gain missing x.gap }

/-- The Zone Table is told of a DRIVE order: a nonzero speed sets the entered flag, and any order
sets the attention flag of a class-4 zone (05 R109, 02 R28, R29). -/
def State.notifyDrive (s : State) (l : LoaderId) (speed : Int) : State :=
  match (s.loader l).zone? with
  | none => s
  | some z =>
    let s := if speed = 0 then s else s.markEntered z
    if (s.zone z).cls = .openManualFlagged then s.raiseAttention z l else s

/-- A frame that reached step 5 is clamped and forwarded (05 R98, R107 to R110): it ends drive
lapse (01 R21). -/
def State.forwardFrame (s : State) (c : ChairId) (i : SlotId) (l : LoaderId) (f : DriveFields)
    (horn : Bool) (missing : Nat) : State :=
  let v := speedOf f.speed
  let e := s.envelope c l v
  let speed := clampSpeed e v
  let outcome := if isClamped e v then DriveOutcome.clamped else .accepted
  let s := s.modSlot c i fun slot => { slot with lastCount := some f.count, outcome := outcome }
  let s := s.modCounters c (·.forward (isClamped e v) missing)
  let s := s.order l
    (.drive speed (percentOf f.steer) (percentOf f.boom) (percentOf f.bucket) horn)
  ((s.notifyDrive l speed).startLapse l).settleRefresh l

/-- A frame that passed the refusal checks is compared by its count (05 R97). -/
def State.sequenceFrame (s : State) (c : ChairId) (i : SlotId) (l : LoaderId) (f : DriveFields)
    (horn : Bool) : State :=
  match sequenceOf (s.slot c i).lastCount f.count with
  | .duplicate => s.modCounters c fun x => { x with duplicate := gain 1 x.duplicate }
  | .stale => s.modCounters c fun x => { x with stale := gain 1 x.stale }
  | .fresh missing => s.forwardFrame c i l f horn missing

/-- A drive frame as the Drive Gate judges it (05 R93). -/
def State.takeDrive (s : State) (c : ChairId) (f : DriveFields) : State :=
  match slotOf f.slot with
  | none => s.modCounters c (·.addRefused)
  | some i =>
    match s.examineFrame c i f with
    | .error r => s.refuseFrame c i r f.count
    | .ok (l, horn) => s.sequenceFrame c i l f horn

/-- DRIVE_FRAME (05 R93). The tag is not examined (08 R149). -/
def execDriveFrame (c : ChairId) (panel _tag : Byte) (f : DriveFields) (s : State) : Result :=
  .next (s.running fun s => s.takeChairFrame c panel fun s => s.takeDrive c f)

end Sys2Proof.Machine
end

