-- ==== Sys2Proof/Machine/Links.lean ====
section
/-! DEFINITION. PING, bad frames and frames on a LOST link (Chapter 8), and the frames and orders
that begin to leave (07 R141, 08 R158). -/

namespace Sys2Proof.Machine

/-- The error counter of the link that a sender's frames arrive on. -/
def State.errorsOf (s : State) : Sender → Nat
  | .chair c _ => (s.link c).errors
  | .supervisor => s.supLink.errors

/-- The panel byte of a sender's frame newly presses its chair stop. -/
def State.carriesStop (s : State) : Sender → Bool
  | .chair c panel => s.newlyPressed c panel
  | .supervisor => false

/-- A PING as its link interface takes it (08 R155, R156): it is answered unless it is to be met in
silence. -/
def State.takePing (s : State) (h : Header) (silent : Bool) : State :=
  if silent then s else s.ok h .ping (.ping s.seconds (s.errorsOf h.sender))

/-- PING, where `answers` says whether one that newly presses the chair stop gets its reply: with
false it acts as 06 R129 has it, with true as 08 R155 has it. -/
def State.ping (s : State) (h : Header) (answers : Bool) : State :=
  let silent := s.carriesStop h.sender && !answers
  s.takeRequest h fun s => s.takePing h silent

/-- PING (08 R155; 06 R129). The two rules say opposite things of a PING that newly presses the chair
stop and no rule ranks them, so its reply is a free value (DESIGN CHOICE, log 40). -/
def execPing (h : Header) (s : State) : Result := .next (s.ping h Config.answersStopPing)

/-- A bad frame on a chair link (08 R148, R152 to R154): on a DOWN link it is only counted; on an UP
link the error counter may reach the threshold, and the link is LOST; on a LOST link the recovery
run is set to 0. -/
def State.badChairFrame (s : State) (c : ChairId) : State :=
  let s := s.modLink c fun k => { k with badFrames := gain 1 k.badFrames }
  match (s.link c).state with
  | .down => s
  | .up =>
    let s := s.modLink c fun k => { k with errors := raiseErrors k.errors }
    if s.params.linkError ≤ (s.link c).errors then s.loseLink c else s
  | .lost => s.modLink c fun k => { k with errors := raiseErrors k.errors, run := 0 }

/-- A bad frame on a link is discarded and counted (08 R148). -/
def State.takeBad (s : State) : Link → State
  | .chair c => s.badChairFrame c
  | .supervisor =>
    { s with supLink :=
        { s.supLink with
          errors := raiseErrors s.supLink.errors, badFrames := gain 1 s.supLink.badFrames } }
  | .fleet => { s with fleet := s.fleet.bad }

/-- BAD_FRAME (08 R148). -/
def execBadFrame (link : Link) (s : State) : Result := .next (s.running fun s => s.takeBad link)

/-- A valid frame on a LOST chair link; on a link that is not LOST the command has no effect, since
what the frame asks is not said (08 R151, log 9). -/
def State.takeIfLost (s : State) (c : ChairId) (panel : Byte) : State :=
  if (s.link c).state = .lost then s.takeLost c panel else s

/-- LOST_LINK_FRAME (08 R151). -/
def execLostLinkFrame (c : ChairId) (panel : Byte) (s : State) : Result :=
  .next (s.running fun s => s.takeIfLost c panel)

/-- DELIVERY_QUEUE_TRANSMIT (07 R141): the link is idle and its head frame begins to leave. -/
def execDeliveryQueueTransmit (port : Port) (s : State) : Result :=
  .next (s.running fun s => s.modQueue port OutQueue.transmit)

/-- ORDER_LINE_TRANSMIT (08 R158): the fleet link is idle and the head order begins to leave. -/
def execOrderLineTransmit (s : State) : Result :=
  .next (s.running fun s => { s with fleet := s.fleet.transmit })

end Sys2Proof.Machine
end

