-- ==== Sys2Proof/Machine/Timers.lean ====
section
/-! DEFINITION. The expiries of the timers (closure timers stand in Zones.lean) and the seconds
counter. An expiry command is taken when its timer runs (log 2). -/

namespace Sys2Proof.Machine

/-! ## Loaders -/

/-- The reading of the silence timer at its expiry: it has reached the threshold (01 R17). -/
def SilenceTimer.reach (t : SilenceTimer) (threshold : Nat) : SilenceTimer :=
  { t with elapsed := max t.elapsed threshold }

/-- A loader's silence timer expires (01 R18): the flag is set, and a loader with authority is
halted with cause RADIO. It expires once for each silence (01 R17). -/
def State.expireSilence (s : State) (l : LoaderId) : State :=
  if (s.loader l).state = .unenrolled ∨ (s.loader l).radioSilent = true then s
  else
    let threshold := s.silenceThreshold l
    let s := s.modLoader l fun r =>
      { r with radioSilent := true, silence := r.silence.reach threshold }
    (s.haltLoader l .radio .radio).checkZoneOf l

/-- SILENCE_TIMER_EXPIRY (01 R18). -/
def execSilenceTimerExpiry (l : LoaderId) (s : State) : Result :=
  .next (s.running fun s => s.expireSilence l)

/-- A loader's lapse timer expires: drive lapse begins, under HOLD (01 R20, R19). -/
def State.expireLapse (s : State) (l : LoaderId) : State :=
  match (s.loader l).lapseTimer with
  | none => s
  | some _ => (s.modLoader l fun r => { r with lapse := true, lapseTimer := none }).emitHold l

/-- LAPSE_TIMER_EXPIRY (01 R20). -/
def execLapseTimerExpiry (l : LoaderId) (s : State) : Result :=
  .next (s.running fun s => s.expireLapse l)

/-- A loader's hold refresh timer expires: while a hold condition holds, a further HOLD is sent and
the timer restarts (01 R19). -/
def State.expireRefresh (s : State) (l : LoaderId) : State :=
  match (s.loader l).holdRefresh with
  | none => s
  | some _ => if s.holdCondition l then s.emitHold l else s.settleRefresh l

/-- HOLD_REFRESH_EXPIRY (01 R19). -/
def execHoldRefreshExpiry (l : LoaderId) (s : State) : Result :=
  .next (s.running fun s => s.expireRefresh l)

/-- An orphan grace timer expires: the loader is halted with cause CHAIR_LINK, after a LINK_R abort
in a handover forced from ORPHANED (06 R124, 04 R90). -/
def State.expireGrace (s : State) (l : LoaderId) : State :=
  match (s.loader l).grace with
  | none => s
  | some _ => (s.haltLoader l .chairLink .graceExpired).checkZoneOf l

/-- ORPHAN_GRACE_EXPIRY (06 R124). -/
def execOrphanGraceExpiry (l : LoaderId) (s : State) : Result :=
  .next (s.running fun s => s.expireGrace l)

/-! ## Handovers -/

/-- A phase timer expires in one of its phases, unless the context is suspended (04 R80). -/
def State.expirePhase (s : State) (k : CtxId) (phases : List Phase) (e : AbortEvent) : State :=
  match s.handover k with
  | none => s
  | some h => if phases.contains h.phase && !h.suspended then s.abortAlone k e else s

/-- ANSWER_TIMER_EXPIRY (04 R80). -/
def execAnswerTimerExpiry (k : CtxId) (s : State) : Result :=
  .next (s.running fun s => s.expirePhase k [.offered, .requested] .answerTimeout)

/-- SETTLE_TIMER_EXPIRY (04 R80). -/
def execSettleTimerExpiry (k : CtxId) (s : State) : Result :=
  .next (s.running fun s => s.expirePhase k [.settling] .settleTimeout)

/-- CONFIRM_TIMER_EXPIRY (04 R80). -/
def execConfirmTimerExpiry (k : CtxId) (s : State) : Result :=
  .next (s.running fun s => s.expirePhase k [.confirming] .confirmTimeout)

/-- WATCHDOG_EXPIRY (04 R81): the watchdog runs through every phase and through suspension. -/
def execWatchdogExpiry (k : CtxId) (s : State) : Result :=
  .next (s.running fun s => s.abortAlone k .watchdog)

/-! ## Chair links and the seconds counter -/

/-- A chair link's silence timer expires (08 R153, R154): an UP link goes LOST; a LOST link has its
recovery run set to 0 and the timer restarts. -/
def State.expireLink (s : State) (c : ChairId) : State :=
  match (s.link c).state, (s.link c).silence with
  | .up, some _ => s.loseLink c
  | .lost, some _ => s.modLink c fun k => { k.restartSilence s.params with run := 0 }
  | _, _ => s

/-- LINK_SILENCE_EXPIRY (08 R153, R154). -/
def execLinkSilenceExpiry (c : ChairId) (s : State) : Result :=
  .next (s.running fun s => s.expireLink c)

/-- The seconds counter gains one at the end of a second, and wraps (00 R1). -/
def State.tickSecond (s : State) : State := { s with seconds := s.seconds + 1, millis := 0 }

/-- SECONDS_COUNTER_TICK (00 R1). -/
def execSecondsCounterTick (s : State) : Result := .next (s.running State.tickSecond)

end Sys2Proof.Machine
end

