-- ==== Sys2Proof/Machine/Watches.lean ====
section
/-! DEFINITION. WATCH and UNWATCH (07 R134, R135). -/

namespace Sys2Proof.Machine

/-- A WATCH as its owner takes it (07 R134): a pair that is found is touched, one that is absent is
placed. -/
def State.takeWatch (s : State) (h : Header) (loader : Byte) : State :=
  s.examined h .watch (s.examineChair h loader) fun (c, l) =>
    let s := s.ok h .watch (.loader l)
    if s.watch.watches c l then { s with watch := s.watch.touch c l } else s.placeWatch c l

/-- WATCH (07 R134). -/
def execWatch (h : Header) (loader : Byte) (s : State) : Result :=
  .next (s.takeRequest h fun s => s.takeWatch h loader)

/-- The examination of an UNWATCH (07 R135): a locked pair is refused. -/
def State.examineUnwatch (s : State) (h : Header) (loader : Byte) :
    Except Reason (ChairId × LoaderId) := do
  let (c, l) ← s.examineChair h loader
  ensure (s.watch.isLocked c l = false) .loaderState
  .ok (c, l)

/-- An UNWATCH as its owner takes it (07 R135). -/
def State.takeUnwatch (s : State) (h : Header) (loader : Byte) : State :=
  s.examined h .unwatch (s.examineUnwatch h loader) fun (c, l) =>
    let s := s.ok h .unwatch (.loader l)
    { s with watch := s.watch.remove c l }

/-- UNWATCH (07 R135). -/
def execUnwatch (h : Header) (loader : Byte) (s : State) : Result :=
  .next (s.takeRequest h fun s => s.takeUnwatch h loader)

end Sys2Proof.Machine
end

