-- ==== Sys2Proof/Machine/Dispatch.lean ====
section
/-! DEFINITION. One arm for each command of the opcode table: its meaning. -/

namespace Sys2Proof.Machine

/-- The effect of a command on everything but the queue of waiting commands. -/
def exec (i : Instr) (s : State) : Host.Outcome State Fault Refusal :=
  match i with
  | .ping h => Sys2Proof.Machine.execPing h s
  | .claim h loader slot mode => Sys2Proof.Machine.execClaim h loader slot mode s
  | .reclaim h loader slot mode => Sys2Proof.Machine.execReclaim h loader slot mode s
  | .release h loader => Sys2Proof.Machine.execRelease h loader s
  | .modeToSupervised h loader => Sys2Proof.Machine.execModeToSupervised h loader s
  | .modeToManual h loader mode => Sys2Proof.Machine.execModeToManual h loader mode s
  | .mission h loader route => Sys2Proof.Machine.execMission h loader route s
  | .offer h loader taking target => Sys2Proof.Machine.execOffer h loader taking target s
  | .request h loader slot target => Sys2Proof.Machine.execRequest h loader slot target s
  | .force h loader taking slot target => Sys2Proof.Machine.execForce h loader taking slot target s
  | .accept h loader context slot => Sys2Proof.Machine.execAccept h loader context slot s
  | .yield h loader context => Sys2Proof.Machine.execYield h loader context s
  | .decline h loader context => Sys2Proof.Machine.execDecline h loader context s
  | .refuse h loader context => Sys2Proof.Machine.execRefuse h loader context s
  | .confirm h loader context => Sys2Proof.Machine.execConfirm h loader context s
  | .cancel h loader context => Sys2Proof.Machine.execCancel h loader context s
  | .suspend h loader context => Sys2Proof.Machine.execSuspend h loader context s
  | .resume h loader context => Sys2Proof.Machine.execResume h loader context s
  | .watch h loader => Sys2Proof.Machine.execWatch h loader s
  | .unwatch h loader => Sys2Proof.Machine.execUnwatch h loader s
  | .enrol h loader address => Sys2Proof.Machine.execEnrol h loader address s
  | .retire h loader => Sys2Proof.Machine.execRetire h loader s
  | .fixPosition h loader zone chainage front => Sys2Proof.Machine.execFixPosition h loader zone chainage front s
  | .freePosition h loader => Sys2Proof.Machine.execFreePosition h loader s
  | .setZone h zone cls openLength measuredFrom cap => Sys2Proof.Machine.execSetZone h zone cls openLength measuredFrom cap s
  | .closeZone h zone time => Sys2Proof.Machine.execCloseZone h zone time s
  | .cancelClosure h zone => Sys2Proof.Machine.execCancelClosure h zone s
  | .park h loader => Sys2Proof.Machine.execPark h loader s
  | .isolate h loader => Sys2Proof.Machine.execIsolate h loader s
  | .restore h loader => Sys2Proof.Machine.execRestore h loader s
  | .setClearance h chair levels => Sys2Proof.Machine.execSetClearance h chair levels s
  | .withdraw h scope number filter => Sys2Proof.Machine.execWithdraw h scope number filter s
  | .setParam h code value => Sys2Proof.Machine.execSetParam h code value s
  | .watchAll h setting => Sys2Proof.Machine.execWatchAll h setting s
  | .restart h => Sys2Proof.Machine.execRestart h s
  | .queryLoader h loader => Sys2Proof.Machine.execQueryLoader h loader s
  | .queryChair h chair => Sys2Proof.Machine.execQueryChair h chair s
  | .queryZone h zone => Sys2Proof.Machine.execQueryZone h zone s
  | .queryHandover h context => Sys2Proof.Machine.execQueryHandover h context s
  | .queryParam h code => Sys2Proof.Machine.execQueryParam h code s
  | .driveFrame c panel tag f => Sys2Proof.Machine.execDriveFrame c panel tag f s
  | .statusReport tag f => Sys2Proof.Machine.execStatusReport tag f s
  | .badFrame link => Sys2Proof.Machine.execBadFrame link s
  | .lostLinkFrame c panel => Sys2Proof.Machine.execLostLinkFrame c panel s
  | .silenceTimerExpiry l => Sys2Proof.Machine.execSilenceTimerExpiry l s
  | .lapseTimerExpiry l => Sys2Proof.Machine.execLapseTimerExpiry l s
  | .holdRefreshExpiry l => Sys2Proof.Machine.execHoldRefreshExpiry l s
  | .orphanGraceExpiry l => Sys2Proof.Machine.execOrphanGraceExpiry l s
  | .answerTimerExpiry k => Sys2Proof.Machine.execAnswerTimerExpiry k s
  | .settleTimerExpiry k => Sys2Proof.Machine.execSettleTimerExpiry k s
  | .confirmTimerExpiry k => Sys2Proof.Machine.execConfirmTimerExpiry k s
  | .watchdogExpiry k => Sys2Proof.Machine.execWatchdogExpiry k s
  | .closureTimerExpiry k => Sys2Proof.Machine.execClosureTimerExpiry k s
  | .linkSilenceExpiry c => Sys2Proof.Machine.execLinkSilenceExpiry c s
  | .secondsCounterTick => Sys2Proof.Machine.execSecondsCounterTick s
  | .stopAllAssertion => Sys2Proof.Machine.execStopAllAssertion s
  | .stopAllRelease => Sys2Proof.Machine.execStopAllRelease s
  | .barrierBreach level => Sys2Proof.Machine.execBarrierBreach level s
  | .barrierRelease level => Sys2Proof.Machine.execBarrierRelease level s
  | .resetAssertion => Sys2Proof.Machine.execResetAssertion s
  | .resetRelease => Sys2Proof.Machine.execResetRelease s
  | .powerOn => Sys2Proof.Machine.execPowerOn s
  | .deliveryQueueTransmit port => Sys2Proof.Machine.execDeliveryQueueTransmit port s
  | .orderLineTransmit => Sys2Proof.Machine.execOrderLineTransmit s

end Sys2Proof.Machine
end

