-- ==== Sys2Proof/Machine/Step.lean ====
section
/-! DEFINITION. One step of the switch: the command at the front of the queue, or, on an empty
queue, the arrival of a byte or the passing of time. -/

namespace Sys2Proof.Machine

/-- No command waits: the next byte that stands on the line arrives (log 5). With none there, while
RESET is asserted the switch idles; otherwise the first expiry that is due is taken, and when none
is due one millisecond passes (DESIGN CHOICE, log 1). -/
def State.idle (s : State) : Host.Outcome State Fault Refusal :=
  match s.line with
  | (k, x) :: rest => .next (State.receive { s with line := rest } k x)
  | [] =>
    if s.inReset then .next s
    else
      match s.firstDue with
      | some i => exec i s
      | none => .next s.tick

/-- One step. -/
def step (s : State) : Host.Outcome State Fault Refusal :=
  match s.pending with
  | i :: rest => exec i { s with pending := rest }
  | [] => s.idle

/-- The state with the command that a word spells by the opcode table's bits at the front of its
queue; no row of the table gives any bit, so the state is as it was (log 31). -/
def State.withFetchWord (s : State) (nbits w : Nat) : State :=
  match Sys2Proof.decodeTableWord nbits w with
  | some i => { s with pending := i :: s.pending }
  | none => s

end Sys2Proof.Machine
end

