-- ==== Sys2Proof/Machine/Wire.lean ====
section
/-! DEFINITION. The bytes of every frame and order that the switch builds (08 R149; 10 R172, R173,
R175 to R177). -/

namespace Sys2Proof.Machine

/-! ## Fields (10 R173) -/

/-- A one-byte number. -/
def wire1 (n : Nat) : List Byte := [BitVec.ofNat 8 n]

/-- A two-byte number. -/
def wire2 (n : Nat) : List Byte := bytes16 (BitVec.ofNat 16 n)

/-- A four-byte number, most significant byte first. -/
def wire4 (w : Word32) : List Byte :=
  [w.extractLsb' 24 8, w.extractLsb' 16 8, w.extractLsb' 8 8, w.extractLsb' 0 8]

/-- A signed byte in two's complement. -/
def wireInt (v : Int) : List Byte := [BitVec.ofInt 8 v]

/-- A one-byte field that may be absent: 255, which 10 R173 gives for a number and the model sends for
a code too (DESIGN CHOICE, log 45). -/
def wire1? (n : Option Nat) : List Byte := wire1 (n.getD 255)

/-- A two-byte number that may be absent: 65,535. -/
def wire2? (n : Option Nat) : List Byte := wire2 (n.getD 65535)

/-- A time stamp that may be absent, whose bytes are then a free value (log 16). -/
def wire4? (w : Option Word32) : List Byte := wire4 (w.getD Config.absentStamp)

/-- A flag: 0 no, off or clear, 1 yes, on or breached. -/
def flagCode (b : Bool) : Nat := if b then 1 else 0

/-- The bits of a set of levels: bit n is level n. -/
def setCode (v : Vector Bool 8) : Nat :=
  (List.finRange 8).foldl (fun n i => n + (if v[i] then 2 ^ i.val else 0)) 0

/-- A duration that is remaining or elapsed: units of 100 ms, saturating. A part of a unit is dropped
(DESIGN CHOICE, log 46). -/
def wireTime (ms : Nat) : List Byte := wire2 (min Config.counterLimit (ms / 100))

/-- A duration that may be absent. -/
def wireTime? (ms : Option Nat) : List Byte :=
  match ms with
  | some n => wireTime n
  | none => wire2 65535

/-! ## Codes (10 R173, R176, R177) -/

/-- Mode. -/
def Mode.code : Mode → Nat
  | .manual => 0
  | .supervised => 1

/-- Front sense. -/
def FrontSense.code : FrontSense → Nat
  | .towardEntrance => 0
  | .towardFarEnd => 1

/-- Measured-from. -/
def MeasuredFrom.code : MeasuredFrom → Nat
  | .entrance => 0
  | .farEnd => 1

/-- Onboard mode. -/
def Onboard.code : Onboard → Nat
  | .remote => 0
  | .atMachine => 1

/-- Mission. -/
def Mission.code : Mission → Nat
  | .idle => 0
  | .running => 1
  | .complete => 2
  | .faulted => 3

/-- Position source (10 R175). -/
def Source.code : Source → Nat
  | .reported => 0
  | .fixed => 1

/-- Zone class (02 R25). -/
def ZoneClass.code : ZoneClass → Nat
  | .closed => 0
  | .autoFlagged => 1
  | .autoOnly => 2
  | .openFlagged => 3
  | .openManualFlagged => 4
  | .openPlain => 5

/-- Loader state. -/
def LoaderState.code : LoaderState → Nat
  | .unenrolled => 0
  | .parked => 1
  | .driven => 2
  | .supervised => 3
  | .transfer => 4
  | .orphaned => 5
  | .halted => 6
  | .isolated => 7

/-- Handover kind. -/
def HandoverKind.code : HandoverKind → Nat
  | .offer => 0
  | .request => 1
  | .force => 2

/-- Phase. -/
def Phase.code : Phase → Nat
  | .offered => 0
  | .requested => 1
  | .settling => 2
  | .confirming => 3

/-- Link state. -/
def LinkState.code : LinkState → Nat
  | .down => 0
  | .up => 1
  | .lost => 2

/-- Watch part. -/
def WatchPart.code : WatchPart → Nat
  | .openPart => 0
  | .pinnedPart => 1

/-- Reason codes (10 R176); 0 is OK. -/
def Reason.code : Reason → Nat
  | .badValue => 1
  | .unknownLoader => 2
  | .loaderState => 3
  | .duplicate => 4
  | .notParty => 5
  | .busy => 6
  | .stopped => 7
  | .chairDown => 8
  | .slotBusy => 9
  | .silent => 10
  | .atMachine => 11
  | .clearance => 12
  | .closing => 13
  | .zoneDenied => 14
  | .barrier => 15
  | .manualBusy => 16
  | .notNeutral => 17
  | .notStationary => 18
  | .noContext => 19
  | .noHandover => 20
  | .phase => 21
  | .suspended => 22
  | .occupied => 23
  | .full => 24
  | .noClosure => 25
  | .slotEmpty => 26
  | .notHolder => 27
  | .staleGrant => 28

/-- Causes (10 R177); 0 is a commit. -/
def Cause.code : Cause → Nat
  | .chairLink => 1
  | .chairStop => 2
  | .stopAll => 3
  | .radio => 4
  | .atMachine => 5
  | .brow => 6
  | .zoneClosed => 7
  | .zoneMode => 8
  | .closing => 9
  | .barrier => 10
  | .withdrawn => 11
  | .restart => 12
  | .declined => 13
  | .refused => 14
  | .cancelled => 15
  | .answerTimeout => 16
  | .settleTimeout => 17
  | .confirmTimeout => 18
  | .watchdog => 19
  | .linkT => 20
  | .linkR => 21
  | .zoneDenied => 22
  | .clearance => 23
  | .manualBusy => 24

/-- Last drive outcome. -/
def DriveOutcome.code : DriveOutcome → Nat
  | .fresh => 0
  | .accepted => 128
  | .clamped => 129
  | .refused r => r.code

/-- Slot contents. -/
def SlotContents.code : SlotContents → Nat
  | .empty => 0
  | .bound _ => 1
  | .reserved _ _ => 2

/-- Parameter codes, 1 to 15 in the order of the table of 09 R162. -/
def paramCode : Param → Nat
  | .answer => 1
  | .settle => 2
  | .confirm => 3
  | .watchdog => 4
  | .driveLapse => 5
  | .linkSilence => 6
  | .linkError => 7
  | .manualSilence => 8
  | .supervisedSilence => 9
  | .staleLimit => 10
  | .orphanGrace => 11
  | .standoff => 12
  | .gain => 13
  | .creep => 14
  | .attention => 15

/-- The parameters in code order. -/
def allParams : List Param :=
  [.answer, .settle, .confirm, .watchdog, .driveLapse, .linkSilence, .linkError, .manualSilence,
    .supervisedSilence, .staleLimit, .orphanGrace, .standoff, .gain, .creep, .attention]

/-- Kinds of request (10 R174). -/
def ReqKind.code : ReqKind → Nat
  | .ping => 0x01
  | .claim => 0x02
  | .reclaim => 0x03
  | .release => 0x04
  | .mode => 0x05
  | .mission => 0x06
  | .offer => 0x07
  | .request => 0x08
  | .accept => 0x09
  | .yield => 0x0A
  | .decline => 0x0B
  | .refuse => 0x0C
  | .confirm => 0x0D
  | .cancel => 0x0E
  | .suspend => 0x0F
  | .resume => 0x10
  | .watch => 0x11
  | .unwatch => 0x12
  | .enrol => 0x13
  | .retire => 0x14
  | .fixPosition => 0x15
  | .freePosition => 0x16
  | .setZone => 0x17
  | .closeZone => 0x18
  | .cancelClosure => 0x19
  | .park => 0x1A
  | .isolate => 0x1B
  | .restore => 0x1C
  | .setClearance => 0x1D
  | .force => 0x1E
  | .withdraw => 0x1F
  | .setParam => 0x20
  | .queryLoader => 0x21
  | .queryChair => 0x22
  | .queryZone => 0x23
  | .queryHandover => 0x24
  | .queryParam => 0x25
  | .watchAll => 0x26
  | .restart => 0x27

/-! ## Payloads (10 R175) -/

/-- A position: zone, chainage, front sense; an absent one has chainage 65,535, and 255 for its front
sense (log 45). -/
def wirePosition (p : Option Position) : List Byte :=
  wire1? (p.map (·.zone.val)) ++ wire2? (p.map (·.chainage)) ++ wire1? (p.map (·.front.code))

/-- The place of a halt: zone and chainage. -/
def wirePlace (p : Option (ZoneId × Nat)) : List Byte :=
  wire1? (p.map (·.1.val)) ++ wire2? (p.map (·.2))

/-- A halt record, after its marker. The causes and the flag of an absent one are 255 (log 45). -/
def wireHalt (h : Option HaltRecord) : List Byte :=
  wire1? (h.map (·.first.code)) ++ wirePlace (h.bind (·.place)) ++
    wire1? (h.bind (·.chair) |>.map (·.val)) ++ wire4? (h.map (·.stamp)) ++
    wire1? (h.map (·.latest.code)) ++ wire1? (h.map (·.further)) ++
    wire1? (h.map (flagCode ·.overwritten))

/-- The halt record marker: 0 none, 1 in the record, 2 held in the context. -/
def haltMarker (v : LoaderView) : Nat :=
  if v.record.halt.isSome then 1 else if v.held.isSome then 2 else 0

/-- The fields of a QUERY_LOADER reply. An absent mode or prior state is 255 (log 45). -/
def LoaderView.wire (v : LoaderView) : List Byte :=
  let r := v.record
  wire1 v.loader.val ++ wire1 r.state.code ++ wire2? (v.address.map (·.toNat)) ++
    wire1? (r.holder.map (·.chair.val)) ++ wire1? (r.holder.map (·.slot.val)) ++
    wire1? (r.holder.map (·.mode.code)) ++ wire1? (r.lastHolder.map (·.val)) ++ bytes16 r.epoch ++
    wire1? (r.prior.map (·.code)) ++ wire1? (r.context.map (·.val)) ++ wirePosition r.position ++
    wirePosition r.lastReported ++ wire1 r.source.code ++ wire2 r.age ++
    wire1 (flagCode r.stationary) ++ wire1 r.onboard.code ++ wire1 r.mission.code ++
    wire2? (r.lastCount.map (·.toNat)) ++ wireTime r.silence.elapsed ++
    wire1 (flagCode r.radioSilent) ++ wire1 (flagCode r.lapse) ++
    wireTime? (r.grace.map Timer.remaining) ++ wire1 (haltMarker v) ++ wireHalt (r.halt.or v.held)

/-- The loader, the context, the count and the outcome of a slot. -/
def Slot.wire (x : Slot) : List Byte :=
  let who := match x.contents with
    | .empty => wire1 255 ++ wire1 255
    | .bound l => wire1 l.val ++ wire1 255
    | .reserved l k => wire1 l.val ++ wire1 k.val
  wire1 x.contents.code ++ who ++ wire2? (x.lastCount.map (·.toNat)) ++ wire1 x.outcome.code

/-- The six drive counters. -/
def DriveCounters.wire (x : DriveCounters) : List Byte :=
  wire2 x.accepted ++ wire2 x.clamped ++ wire2 x.duplicate ++ wire2 x.stale ++ wire2 x.gap ++
    wire2 x.refused

/-- The fields of a QUERY_CHAIR reply. -/
def ChairView.wire (v : ChairView) : List Byte :=
  wire1 v.chair.val ++ wire1 v.link.state.code ++ wire1 v.link.errors ++ wire1 v.link.run ++
    wire2 v.link.badFrames ++ [v.record.clearance] ++ v.record.slots.toList.flatMap Slot.wire ++
    wire1 (flagCode v.record.stop) ++ wire1 (flagCode v.record.neutral) ++ v.record.counters.wire ++
    wire1 v.manualLoad ++ wire1 v.queued ++ wire2 v.dropped

/-- The fields of a QUERY_ZONE reply. -/
def ZoneView.wire (v : ZoneView) : List Byte :=
  let z := v.descriptor
  wire1 v.zone.val ++ wire1 z.cls.code ++ wire1 z.openLength ++ wire1 z.measuredFrom.code ++
    wire1 z.cap ++ wire1 (flagCode z.entered) ++ wire1 (flagCode z.attention) ++
    wire1 (flagCode z.closing.isSome) ++ wire1 v.level.val ++ wire1 (flagCode v.barrier) ++
    wire1 (flagCode v.lamp) ++ wire1 v.count ++ wire1? (z.closing.map (·.val)) ++
    wire2? (v.closure.map (·.time)) ++ wireTime? (v.closure.map (·.timer.remaining)) ++
    wire4? (v.closure.map (·.stamp))

/-- The fields of a QUERY_HANDOVER reply after the context; a free context ends after the in-use
byte. An absent prior state is 255 (log 45). -/
def wireHandover (v : Option HandoverView) : List Byte :=
  match v with
  | none => wire1 0
  | some v =>
    let h := v.handover
    wire1 1 ++ wire1 h.loader.val ++ wire1 h.kind.code ++ wire1? (h.releasing.map (·.val)) ++
      wire1 h.taking.val ++ wire1? (h.slot.map (·.val)) ++ wire1 h.target.code ++
      wire1 h.phase.code ++ wire1 (flagCode h.suspended) ++ wireTime h.timer.remaining ++
      wireTime h.watchdog.remaining ++ wire1? (v.prior.map (·.code)) ++
      wireTime? (v.grace.map Timer.remaining)

/-- The fields of a QUERY_PARAM reply with the all code. The STOP_ALL state is sent as 1 for asserted
and 0 for released, as the flags are: 10 R173 names no code for it (DESIGN CHOICE, log 42). -/
def ModuleView.wire (v : ModuleView) : List Byte :=
  wire1 255 ++ (allParams.flatMap fun p => wire2 (v.params.get p)) ++ wire4 v.seconds ++
    wire1 (flagCode v.stopAll) ++ wire1 (setCode v.barriers) ++ wire1 (setCode v.lamps) ++
    wire1 (flagCode v.watchAll) ++ wire1 v.supErrors ++ wire1 v.supTally ++ wire2 v.supBadFrames ++
    wire2 v.supDropped ++ wire2 v.fleetBadFrames ++ wire2 v.unknown ++ wire2 v.ordersDropped ++
    wire1 v.ordersWaiting ++ wire1 v.handoversInUse ++ wire1 v.closuresInUse

/-- The fields after the reason code of an OK reply. -/
def OkBody.wire : OkBody → List Byte
  | .ping sec errors => wire4 sec ++ wire1 errors
  | .grant l i m epoch => wire1 l.val ++ wire1 i.val ++ wire1 m.code ++ bytes16 epoch
  | .loaderSlot l i => wire1 l.val ++ wire1 i.val
  | .mode l m => wire1 l.val ++ wire1 m.code
  | .mission l route => wire1 l.val ++ [route]
  | .context k => wire1 k.val
  | .force k phase => wire1 k.val ++ wire1 phase.code
  | .loader l => wire1 l.val
  | .fix l state => wire1 l.val ++ wire1 state.code
  | .zone z cls openLength m cap =>
    wire1 z.val ++ wire1 cls.code ++ wire1 openLength ++ wire1 m.code ++ wire1 cap
  | .closure k time => wire1 k.val ++ wire2 time
  | .zoneOnly z => wire1 z.val
  | .clearance c levels => wire1 c.val ++ [levels]
  | .count n => wire1 n
  | .param p v => wire1 (paramCode p) ++ wire2 v
  | .setting on => wire1 (flagCode on)
  | .restart aborted halted further completed =>
    wire1 aborted ++ wire1 halted ++ wire1 further ++ wire1 completed
  | .loaderView v => v.wire
  | .chairView v => v.wire
  | .zoneView v => v.wire
  | .handoverView k v => wire1 k.val ++ wireHandover v
  | .module v => v.wire

/-- The payload of a reply: the reason code, and the fields of an OK. -/
def Reply.wire : Reply → List Byte
  | .refused r => wire1 r.code
  | .ok body => wire1 0 ++ body.wire

/-- A slot as LINK_RESTORED lists it. The state and mode of one it does not list are 255 (log 45). -/
def wireRestored (x : Option RestoredSlot) : List Byte :=
  wire1? (x.map (·.loader.val)) ++ wire1? (x.map (·.state.code)) ++
    wire1? (x.bind (·.mode) |>.map (·.code)) ++ bytes16 ((x.map (·.epoch)).getD 0)

/-- The kind of a notice. -/
def Notice.code : Notice → Nat
  | .offered .. => 0x41
  | .requested .. => 0x42
  | .forced .. => 0x43
  | .settleStarted .. => 0x44
  | .confirmNeeded .. => 0x45
  | .suspended .. => 0x46
  | .resumed .. => 0x47
  | .granted .. => 0x48
  | .released .. => 0x49
  | .handoverEnded .. => 0x4A
  | .halted .. => 0x4B
  | .isolated .. => 0x4C
  | .linkLost .. => 0x4D
  | .linkRestored .. => 0x4E
  | .stopChange .. => 0x4F
  | .zoneAttention .. => 0x50
  | .evacuate .. => 0x51
  | .closureDone .. => 0x52
  | .barrierChange .. => 0x53
  | .watchEvicted .. => 0x54
  | .driveRefused .. => 0x55

/-- The payload of a notice. The STOP_ALL state of STOP_CHANGE is sent as 1 for asserted and 0 for
released: 10 R173 names no code for it (DESIGN CHOICE, log 42). An absent held mode or prior state is
255 (log 45). -/
def Notice.wire : Notice → List Byte
  | .offered k l releasing held target zone answer =>
    wire1 k.val ++ wire1 l.val ++ wire1 releasing.val ++ wire1? (held.map (·.code)) ++
      wire1 target.code ++ wire1? (zone.map (·.val)) ++ wire1 answer
  | .requested k l taking target answer =>
    wire1 k.val ++ wire1 l.val ++ wire1 taking.val ++ wire1 target.code ++ wire1 answer
  | .forced k l taking slot target prior phase =>
    wire1 k.val ++ wire1 l.val ++ wire1 taking.val ++ wire1? (slot.map (·.val)) ++
      wire1 target.code ++ wire1? (prior.map (·.code)) ++ wire1 phase.code
  | .settleStarted k l settle => wire1 k.val ++ wire1 l.val ++ wire1 settle
  | .confirmNeeded k l slot target confirm =>
    wire1 k.val ++ wire1 l.val ++ wire1? (slot.map (·.val)) ++ wire1 target.code ++ wire1 confirm
  | .suspended k l phase remaining | .resumed k l phase remaining =>
    wire1 k.val ++ wire1 l.val ++ wire1 phase.code ++ wireTime remaining
  | .granted l slot mode epoch => wire1 l.val ++ wire1 slot.val ++ wire1 mode.code ++ bytes16 epoch
  | .released l slot => wire1 l.val ++ wire1 slot.val
  | .handoverEnded k l kind cause after taking slot mode epoch =>
    wire1 k.val ++ wire1 l.val ++ wire1 kind.code ++ wire1 ((cause.map (·.code)).getD 0) ++
      wire1 after.code ++ wire1 taking.val ++ wire1? (slot.map (·.val)) ++ wire1 mode.code ++
      bytes16 epoch
  | .halted l slot cause place lastHolder stamp =>
    wire1 l.val ++ wire1? (slot.map (·.val)) ++ wire1 cause.code ++ wirePlace place ++
      wire1? (lastHolder.map (·.val)) ++ wire4 stamp
  | .isolated l slot => wire1 l.val ++ wire1 slot.val
  | .linkLost c stamp aborted stopped orphaned =>
    wire1 c.val ++ wire4 stamp ++ wire1 aborted ++ wire1 stopped ++ wire1 orphaned
  | .linkRestored c stamp returned slots =>
    wire1 c.val ++ wire4 stamp ++ wire1 returned ++ slots.toList.flatMap wireRestored
  | .stopChange asserted stamp stopped further =>
    wire1 (flagCode asserted) ++ wire4 stamp ++ wire1 stopped ++ wire1 further
  | .zoneAttention z cls l holder stamp =>
    wire1 z.val ++ wire1 cls.code ++ wire1 l.val ++ wire1? (holder.map (·.val)) ++ wire4 stamp
  | .evacuate z l time => wire1 z.val ++ wire1 l.val ++ wire2 time
  | .closureDone z stopped entered => wire1 z.val ++ wire1 stopped ++ wire1 (flagCode entered)
  | .barrierChange level breached aborted stopped =>
    wire1 level.val ++ wire1 (flagCode breached) ++ wire1 aborted ++ wire1 stopped
  | .watchEvicted l part => wire1 l.val ++ wire1 part.code
  | .driveRefused slot reason l epoch count =>
    wire1 slot.val ++ wire1 reason.code ++ wire1? (l.map (·.val)) ++ bytes16 epoch ++ [count]

/-- The payload of a forwarded report. -/
def Report.wire (x : Report) : List Byte :=
  wire1 x.loader.val ++ [x.count] ++ wire1 x.zone.val ++ wire2 x.chainage ++ wire1 x.front.code ++
    wireInt x.speed ++ wire1 (flagCode x.stationary) ++ wire1 x.onboard.code ++ wire1 x.mission.code

/-! ## Frames -/

/-- The kind of a frame: a reply has its request's kind plus 0x80, a forwarded report 0x40. -/
def FrameBody.code : FrameBody → Nat
  | .reply k _ => k.code + 0x80
  | .notice n => n.code
  | .report _ => 0x40

/-- The payload of a frame. -/
def FrameBody.wire : FrameBody → List Byte
  | .reply _ r => r.wire
  | .notice n => n.wire
  | .report x => x.wire

/-- The bytes of a frame in a delivery queue, as it leaves its link (08 R149). -/
def Frame.bytes (f : Frame) : List Byte :=
  frameBytes (BitVec.ofNat 8 f.body.code) f.tag f.body.wire

/-- The kind of an order (10 R175). -/
def OrderBody.code : OrderBody → Nat
  | .drive .. => 0x61
  | .hold => 0x62
  | .mission _ => 0x63

/-- The payload of an order after its radio address. -/
def OrderBody.wire : OrderBody → List Byte
  | .drive speed steer boom bucket horn =>
    wireInt speed ++ wireInt steer ++ wireInt boom ++ wireInt bucket ++ wire1 (flagCode horn)
  | .hold => []
  | .mission route => [route]

/-- The bytes of an order, as it leaves the fleet link: its tag is 0 (08 R149, R158). -/
def Order.bytes (o : Order) : List Byte :=
  frameBytes (BitVec.ofNat 8 o.body.code) 0 (bytes16 o.address ++ o.body.wire)

end Sys2Proof.Machine
end

