-- ==== Sys2Proof/Safety.lean ====
section
/-! DEFINITION. The terms that claims are stated in: which part of the state two states share, how a
request arrives, the grant checks as the table of 03 R50 lists them, and the laws that a safe run
keeps. No command of the switch ends in a fault, so a safe run is one in whose every state these
laws hold. -/

namespace Sys2Proof.Machine

/-- Which requests a chair may send (03 R49, 04 R67 to R70, 07 R134, 08 R155, 09 R165). -/
def ReqKind.fromChairs : ReqKind → Bool
  | .ping | .claim | .reclaim | .release | .mode | .mission | .offer | .request | .accept | .yield
  | .decline | .refuse | .confirm | .cancel | .watch | .unwatch | .queryLoader | .queryChair => true
  | .suspend | .resume | .enrol | .retire | .fixPosition | .freePosition | .setZone | .closeZone
  | .cancelClosure | .park | .isolate | .restore | .setClearance | .force | .withdraw | .setParam
  | .queryZone | .queryHandover | .queryParam | .watchAll | .restart => false

/-- Which requests the supervisor may send (the same rules; 01 R4 to R16, 02 R31 to R37). -/
def ReqKind.fromSupervisor : ReqKind → Bool
  | .claim | .reclaim | .release | .mode | .mission | .offer | .request | .accept | .yield
  | .decline | .refuse | .confirm | .watch | .unwatch => false
  | .ping | .cancel | .suspend | .resume | .enrol | .retire | .fixPosition | .freePosition
  | .setZone | .closeZone | .cancelClosure | .park | .isolate | .restore | .setClearance | .force
  | .withdraw | .setParam | .queryLoader | .queryChair | .queryZone | .queryHandover | .queryParam
  | .watchAll | .restart => true

end Sys2Proof.Machine

namespace Sys2Proof

/-- The header of a request. -/
def Instr.header? : Instr → Option Header
  | .ping h | .claim h _ _ _ | .reclaim h _ _ _ | .release h _ | .modeToSupervised h _
  | .modeToManual h _ _ | .mission h _ _ | .offer h _ _ _ | .request h _ _ _ | .force h _ _ _ _
  | .accept h _ _ _ | .yield h _ _ | .decline h _ _ | .refuse h _ _ | .confirm h _ _
  | .cancel h _ _ | .suspend h _ _ | .resume h _ _ | .watch h _ | .unwatch h _ | .enrol h _ _
  | .retire h _ | .fixPosition h _ _ _ _ | .freePosition h _ | .setZone h _ _ _ _ _
  | .closeZone h _ _ | .cancelClosure h _ | .park h _ | .isolate h _ | .restore h _
  | .setClearance h _ _ | .withdraw h _ _ _ | .setParam h _ _ | .watchAll h _ | .restart h
  | .queryLoader h _ | .queryChair h _ | .queryZone h _ | .queryHandover h _
  | .queryParam h _ => some h
  | .driveFrame .. | .statusReport .. | .badFrame _ | .lostLinkFrame .. | .silenceTimerExpiry _
  | .lapseTimerExpiry _ | .holdRefreshExpiry _ | .orphanGraceExpiry _ | .answerTimerExpiry _
  | .settleTimerExpiry _ | .confirmTimerExpiry _ | .watchdogExpiry _ | .closureTimerExpiry _
  | .linkSilenceExpiry _ | .secondsCounterTick | .stopAllAssertion | .stopAllRelease
  | .barrierBreach _ | .barrierRelease _ | .resetAssertion | .resetRelease | .powerOn
  | .deliveryQueueTransmit _ | .orderLineTransmit => none

/-- The kind of a request (10 R174). -/
def Instr.kind? : Instr → Option Machine.ReqKind
  | .ping _ => some .ping
  | .claim .. => some .claim
  | .reclaim .. => some .reclaim
  | .release .. => some .release
  | .modeToSupervised .. | .modeToManual .. => some .mode
  | .mission .. => some .mission
  | .offer .. => some .offer
  | .request .. => some .request
  | .force .. => some .force
  | .accept .. => some .accept
  | .yield .. => some .yield
  | .decline .. => some .decline
  | .refuse .. => some .refuse
  | .confirm .. => some .confirm
  | .cancel .. => some .cancel
  | .suspend .. => some .suspend
  | .resume .. => some .resume
  | .watch .. => some .watch
  | .unwatch .. => some .unwatch
  | .enrol .. => some .enrol
  | .retire .. => some .retire
  | .fixPosition .. => some .fixPosition
  | .freePosition .. => some .freePosition
  | .setZone .. => some .setZone
  | .closeZone .. => some .closeZone
  | .cancelClosure .. => some .cancelClosure
  | .park .. => some .park
  | .isolate .. => some .isolate
  | .restore .. => some .restore
  | .setClearance .. => some .setClearance
  | .withdraw .. => some .withdraw
  | .setParam .. => some .setParam
  | .watchAll .. => some .watchAll
  | .restart _ => some .restart
  | .queryLoader .. => some .queryLoader
  | .queryChair .. => some .queryChair
  | .queryZone .. => some .queryZone
  | .queryHandover .. => some .queryHandover
  | .queryParam .. => some .queryParam
  | .driveFrame .. | .statusReport .. | .badFrame _ | .lostLinkFrame .. | .silenceTimerExpiry _
  | .lapseTimerExpiry _ | .holdRefreshExpiry _ | .orphanGraceExpiry _ | .answerTimerExpiry _
  | .settleTimerExpiry _ | .confirmTimerExpiry _ | .watchdogExpiry _ | .closureTimerExpiry _
  | .linkSilenceExpiry _ | .secondsCounterTick | .stopAllAssertion | .stopAllRelease
  | .barrierBreach _ | .barrierRelease _ | .resetAssertion | .resetRelease | .powerOn
  | .deliveryQueueTransmit _ | .orderLineTransmit => none

/-- The sender may send a request of the kind. -/
def Sender.maySend (x : Sender) (k : Machine.ReqKind) : Bool :=
  match x with
  | .chair _ _ => k.fromChairs
  | .supervisor => k.fromSupervisor

end Sys2Proof

namespace Sys2Proof.Machine

/-! ## Frames: what two states share -/

/-- The parts of the state, one for each field. -/
inductive Part where
  | loaders | radioMap | chairs | links | zones | closures | barriers | lamps | handovers | watch
  | queues | supQueue | supLink | fleet | params | watchAll | seconds | millis | stopAll | inputs
  | inReset | receivers | line | pending
  deriving DecidableEq, Repr

/-- Two states agree on a part. -/
def Part.same (p : Part) (s t : State) : Prop :=
  match p with
  | .loaders => t.loaders = s.loaders
  | .radioMap => t.radioMap = s.radioMap
  | .chairs => t.chairs = s.chairs
  | .links => t.links = s.links
  | .zones => t.zones = s.zones
  | .closures => t.closures = s.closures
  | .barriers => t.barriers = s.barriers
  | .lamps => t.lamps = s.lamps
  | .handovers => t.handovers = s.handovers
  | .watch => t.watch = s.watch
  | .queues => t.queues = s.queues
  | .supQueue => t.supQueue = s.supQueue
  | .supLink => t.supLink = s.supLink
  | .fleet => t.fleet = s.fleet
  | .params => t.params = s.params
  | .watchAll => t.watchAll = s.watchAll
  | .seconds => t.seconds = s.seconds
  | .millis => t.millis = s.millis
  | .stopAll => t.stopAll = s.stopAll
  | .inputs => t.inputs = s.inputs
  | .inReset => t.inReset = s.inReset
  | .receivers => t.receivers = s.receivers
  | .line => t.line = s.line
  | .pending => t.pending = s.pending

/-- The second state is the first but for the parts listed. -/
def State.sameBut (ps : List Part) (s t : State) : Prop := ∀ p, p ∉ ps → p.same s t

/-- Every loader record but one is as it was. -/
def State.otherLoaders (l : LoaderId) (s t : State) : Prop := ∀ n, n ≠ l → t.loader n = s.loader n

/-- Every handover context but one is as it was. -/
def State.otherHandovers (k : CtxId) (s t : State) : Prop :=
  ∀ n, n ≠ k → t.handover n = s.handover n

/-- Every chair record is as it was but for the contents and drive state of the slots listed. -/
def State.otherSlots (xs : List (ChairId × SlotId)) (s t : State) : Prop :=
  ∀ c, (t.chair c).clearance = (s.chair c).clearance ∧ (t.chair c).stop = (s.chair c).stop ∧
    (t.chair c).neutral = (s.chair c).neutral ∧ (t.chair c).counters = (s.chair c).counters ∧
    ∀ i, (c, i) ∉ xs → t.slot c i = s.slot c i

/-- The frame stands in a link's delivery queue. -/
def State.queued (s : State) (p : Port) (f : Frame) : Prop := f ∈ (s.queue p).frames

/-! ## How a request arrives -/

/-- A frame of a sender is taken without more ado: RESET is released, and a chair's link is UP and
its panel byte does not newly press the chair stop. -/
def State.hears (s : State) (x : Sender) : Prop :=
  s.inReset = false ∧
    match x with
    | .chair c panel => (s.link c).state = .up ∧ (panelStop panel = true → (s.chair c).stop = true)
    | .supervisor => True

/-- A request of a header is passed to its owner: it is heard, and its queue does not hold 32
replies (07 R143). -/
def State.ready (s : State) (h : Header) : Prop :=
  s.hears h.sender ∧ (s.queue h.sender.port).fullOfReplies = false

/-- The state once a frame of a sender has been heard, before it is acted on: the error counter and
tally of its link have taken a valid frame (08 R152, R156; log 47), and a chair's silence timer has
restarted (08 R151) and its panel byte has been taken (03 R47). -/
def State.heard (s : State) (x : Sender) : State :=
  match x with
  | .chair c panel =>
    { s with
      links := s.links.set c
        { s.link c with
          silence := some ⟨s.params.linkSilence, 0⟩
          errors := if (s.link c).tally < 15 then (s.link c).errors else (s.link c).errors - 1
          tally := if (s.link c).tally < 15 then (s.link c).tally + 1 else 0 }
      chairs := s.chairs.set c
        { s.chair c with stop := panel.getLsbD 0, neutral := panel.getLsbD 1 } }
  | .supervisor =>
    { s with
      supLink :=
        { s.supLink with
          errors := if s.supLink.tally < 15 then s.supLink.errors else s.supLink.errors - 1
          tally := if s.supLink.tally < 15 then s.supLink.tally + 1 else 0 } }

/-- The state once the first frame on a DOWN chair link has been heard, where its panel byte does
not newly press the chair stop: the link is UP with its counters as they were (08 R151), the chair
and the supervisor have been told (06 R123), and the panel byte has been taken (03 R47). -/
def State.broughtUp (s : State) (c : ChairId) (panel : Byte) : State :=
  { s with
    links := s.links.set c
      { s.link c with state := .up, silence := some ⟨s.params.linkSilence, 0⟩ }
    chairs := s.chairs.set c
      { s.chair c with stop := panel.getLsbD 0, neutral := panel.getLsbD 1 }
    queues := s.queues.set c (OutQueue.join s.queues[c]
      ⟨0, .notice (.linkRestored c s.seconds 0 (Vector.replicate 4 none))⟩)
    supQueue := s.supQueue.join
      ⟨0, .notice (.linkRestored c s.seconds 0 (Vector.replicate 4 none))⟩ }

/-! ## The grant checks as 03 R50 tables them -/

/-- A check: whether it passes, and the reason when it fails. -/
abbrev Check := Bool × Reason

/-- What the first test that fails gives. -/
def firstFailing {α : Type} (xs : List (Bool × α)) : Option α :=
  (xs.find? fun x => !x.1).map (·.2)

/-- The level of a recorded position. -/
def Position.level (p : Position) : Nat := p.zone.val / 32

/-- The position lies within the open length of a descriptor (02 R24, in segments). -/
def Zone.holdsSegment (z : Zone) (p : Position) : Bool :=
  match z.measuredFrom with
  | .entrance => decide (p.chainage / 40 < z.openLength)
  | .farEnd => decide (128 ≤ p.chainage / 40 + z.openLength)

/-- The class column of 02 R25. -/
def ZoneClass.open (x : ZoneClass) (m : Mode) : Bool :=
  match m with
  | .manual => x == .openFlagged || x == .openManualFlagged || x == .openPlain
  | .supervised => x != .closed

/-- Checks 3 to 8 of 03 R50. -/
def State.checks3to8 (s : State) (l : LoaderId) (c : ChairId) (i : SlotId) : List Check :=
  [(!s.stopAll, .stopped), ((s.link c).state == .up, .chairDown), (!(s.chair c).stop, .stopped),
    ((s.slot c i).contents == .empty, .slotBusy),
    ((s.loader l).position.isSome && !(s.loader l).radioSilent, .silent),
    ((s.loader l).onboard == .remote, .atMachine)]

/-- Checks 9 to 13 of 03 R50, with a manual load as 03 R51 gives it. -/
def State.checks9to13 (s : State) (l : LoaderId) (c : ChairId) (m : Mode) (load : Nat) :
    List Check :=
  let p := (s.loader l).position
  [(p.any fun p => (s.chair c).clearance.getLsbD p.level, .clearance),
    (!(p.any fun p => (s.zone p.zone).closing.isSome), .closing),
    (p.any fun p => (s.zone p.zone).cls.open m && (s.zone p.zone).holdsSegment p, .zoneDenied),
    (m == .manual || !(p.any fun p => s.barriers[levelOf p.zone]), .barrier),
    (m == .supervised || load == 0, .manualBusy)]

/-- Checks 14 and 15 of 03 R50. -/
def State.checks14to15 (s : State) (l : LoaderId) (c : ChairId) (m : Mode) : List Check :=
  [(m == .supervised || (s.chair c).neutral, .notNeutral),
    (m == .supervised || (s.loader l).stationary, .notStationary)]

/-- The manual load of 03 R51, counted afresh: the loaders that the chair holds in manual mode, and
the manual handovers toward it that hold a slot, but for the one named. -/
def State.countedLoad (s : State) (c : ChairId) (without : Option CtxId) : Nat :=
  (List.finRange 32).countP (fun l =>
    (s.loader l).hasAuthority && (s.loader l).holder.any fun x => x.chair == c && x.mode == .manual) +
  (List.finRange 8).countP fun k =>
    some k != without &&
      (s.handover k).any fun h => h.taking == c && h.slot.isSome && h.target == .manual

/-- Checks 3 to 15 of 03 R50, in the order of its table. -/
def State.checks3to15 (s : State) (l : LoaderId) (c : ChairId) (i : SlotId) (m : Mode) :
    List Check :=
  s.checks3to8 l c i ++ s.checks9to13 l c m (s.countedLoad c none) ++ s.checks14to15 l c m

/-- Checks 3 to 14 of 03 R50. -/
def State.checks3to14 (s : State) (l : LoaderId) (c : ChairId) (i : SlotId) (m : Mode) :
    List Check :=
  (s.checks3to15 l c i m).dropLast

/-- Every check of a list passes. -/
def allPass (xs : List Check) : Prop := ∀ x ∈ xs, x.1 = true

/-! ## The verdict as 02 R26 tables it -/

/-- The first cause that a position gives a loader held outside a handover in a mode, in the order
of 02 R26; `before` is the zone of the position recorded until then. -/
def State.groundCause (s : State) (m : Mode) (before : Option ZoneId) (p : Position) :
    Option Cause :=
  firstFailing
    [((s.zone p.zone).cls != .closed, .zoneClosed), ((s.zone p.zone).holdsSegment p, .brow),
      (m == .supervised || (s.zone p.zone).cls.open .manual, .zoneMode),
      ((s.zone p.zone).closing.isNone || before == some p.zone, .closing),
      (m == .manual || !s.barriers[levelOf p.zone], .barrier)]

/-! ## What events leave -/

/-- The order line once an order has been built for a loader: it is addressed by the loader's map
entry, and none is built where the entry is empty (01 R6). -/
def State.ordered (s : State) (l : LoaderId) (b : OrderBody) : FleetLink :=
  match s.radioMap[l] with
  | some a => s.fleet.join ⟨l, a, b⟩
  | none => s.fleet

/-- The delivery queues of the chairs once a frame has joined one of them. -/
def State.joined (s : State) (c : ChairId) (f : Frame) : Vector OutQueue 12 :=
  s.queues.set c (OutQueue.join s.queues[c] f)

/-- What the request for a lock of a pair leaves of the locks: where an entry of the pinned part is
invalid, unlocked or the pair's own, the pair is locked afterwards (07 R136), and no other pair's
lock changes. -/
def WatchTable.lockedFor (w w' : WatchTable) (c : ChairId) (l : LoaderId) : Prop :=
  ((∃ n : PinnedId, ∀ e ∈ w.pinned[n], e.locked = false ∨ e.names c l = true) →
    w'.isLocked c l = true) ∧
  ∀ d n, d ≠ c ∨ n ≠ l → w'.isLocked d n = w.isLocked d n

/-- What a grant leaves of the record, the slot, the zones and the locks (03 R53): the attention
flag of a class-1 or class-3 zone in which the loader stands is set (02 R29), and the pair is
locked. The former holding is given at a commit: its slot may change and its pair is unlocked (04
R79). -/
def State.grantedTo (s t : State) (l : LoaderId) (c : ChairId) (i : SlotId) (m : Mode)
    (former : Option Holding) : Prop :=
  t.loader l =
    { s.loader l with
      state := if m = .manual then .driven else .supervised
      holder := some ⟨c, i, m⟩
      prior := none
      context := none
      epoch := (s.loader l).epoch + 1
      lastHolder := none
      halt := none
      grace := none
      lapse := false
      lapseTimer := if m = .manual then some ⟨s.params.driveLapse, 0⟩ else none
      holdRefresh := none } ∧
  t.slot c i = ⟨.bound l, none, .fresh⟩ ∧ s.otherLoaders l t ∧
  s.otherSlots ((c, i) :: former.toList.map fun y => (y.chair, y.slot)) t ∧
  (∀ z, t.zone z =
    { s.zone z with
      attention := (s.zone z).attention || ((s.loader l).inZone z &&
        ((s.zone z).cls == .autoFlagged || (s.zone z).cls == .openFlagged)) }) ∧
  (match former with
    | none => s.watch
    | some y => s.watch.unlock y.chair l).lockedFor t.watch c l

/-- What an entry to HALTED leaves of the record (06 R117, R118), its further data as 04 R89 gives
them for a loader forced from HALTED. -/
def Loader.haltedBy (r r' : Loader) (cause : Cause) (seconds : Word32) : Prop :=
  r' =
    { r with
      state := .halted
      holder := none
      lastHolder := (r.holder.map (·.chair)).or r.lastHolder
      prior := none
      context := none
      grace := none
      lapse := false
      lapseTimer := none
      holdRefresh := some ⟨500, 0⟩
      halt := some ⟨cause, r.position.map fun p => (p.zone, p.chainage), r.holder.map (·.chair),
        seconds, cause, 0, false⟩ }

/-- What an abort that halts leaves of the record (04 R89): a loader forced from HALTED takes the
cause as a further one into the halt record that its context held, and any other gets a new
record. -/
def Loader.haltedFrom (r r' : Loader) (held : Option HaltRecord) (cause : Cause)
    (seconds : Word32) : Prop :=
  match r.prior, held with
  | some .halted, some h =>
    r' =
      { r with
        state := .halted
        holder := none
        lastHolder := (r.holder.map (·.chair)).or r.lastHolder
        prior := none
        context := none
        grace := none
        lapse := false
        lapseTimer := none
        holdRefresh := some ⟨500, 0⟩
        halt := some { h with
          latest := cause, further := min 255 (h.further + 1), overwritten := true } }
  | _, _ => r.haltedBy r' cause seconds

/-- What an abort that reverts leaves of the record of a loader forced from PARKED or HALTED
(04 R89). -/
def Loader.backFrom (r r' : Loader) (held : Option HaltRecord) : Prop :=
  r' =
    { r with
      state := r.prior.getD .parked
      prior := none
      context := none
      lapse := false
      lapseTimer := none
      holdRefresh := some ⟨500, 0⟩
      halt := if r.prior = some .halted then held else r.halt }

/-! ## A handover in flight -/

/-- The loader is in TRANSFER by the handover in a context, and the two name each other
(04 R65). -/
def State.inFlight (s : State) (l : LoaderId) (k : CtxId) (x : Handover) : Prop :=
  (s.loader l).state = .transfer ∧ (s.loader l).context = some k ∧ s.handover k = some x ∧
    x.loader = l

/-- What a cause of the verdict, or local control, leaves of a loader in TRANSFER whose record reads
`r` (01 R11, R12; 04 R87): the handover is ended and one HOLD is built. CLOSING and BARRIER send a
loader forced from PARKED or HALTED back there. Everything else halts: at once, or, for CLOSING and
BARRIER, once the loader has reverted and been judged again. -/
def State.judgedInFlight (s t : State) (l : LoaderId) (k : CtxId) (x : Handover) (r : Loader)
    (cause : Cause) : Prop :=
  t.handover k = none ∧ t.fleet = s.ordered l .hold ∧
  if cause ∈ [Cause.closing, .barrier] ∧ r.prior ∈ [some LoaderState.parked, some .halted] then
    r.backFrom (t.loader l) x.held
  else r.haltedFrom (t.loader l) x.held cause s.seconds

/-! ## Laws that a safe run keeps -/

/-- The lamp law (02 R40): while the switch runs, LAMP n is lit exactly while a loader with
authority is recorded on level n. -/
def State.lampLaw (s : State) : Prop :=
  s.inReset = false → ∀ n : LevelId, s.lamps[n] = true ↔
    ∃ l, (s.loader l).hasAuthority = true ∧ ∃ p ∈ (s.loader l).position, p.level = n.val

/-- The law of STOP_ALL (06 R126): while it is asserted, no loader has authority and no handover is
in flight. -/
def State.stopLaw (s : State) : Prop :=
  s.stopAll = true → (∀ l, (s.loader l).hasAuthority = false) ∧ ∀ k, s.handover k = none

/-- The law of TRANSFER (04 R65): a context is in use exactly for each loader in TRANSFER, the two
name each other, and the prior state is one that a handover can begin from. -/
def State.transferLaw (s : State) : Prop :=
  (∀ k, ∀ x ∈ s.handover k,
    (s.loader x.loader).state = .transfer ∧ (s.loader x.loader).context = some k) ∧
  ∀ l, (s.loader l).state = .transfer →
    (∃ k ∈ (s.loader l).context, ∃ x ∈ s.handover k, x.loader = l) ∧
    (s.loader l).prior ∈ [some LoaderState.parked, some .driven, some .supervised, some .orphaned,
      some .halted]

/-- The halt-record law (06 R118): a loader has a halt record exactly when it is HALTED, and a
handover context holds one exactly for a loader that entered TRANSFER from HALTED. -/
def State.haltLaw (s : State) : Prop :=
  (∀ l, (s.loader l).halt.isSome = true ↔ (s.loader l).state = .halted) ∧
  ∀ k, ∀ x ∈ s.handover k,
    (x.held.isSome = true ↔ (s.loader x.loader).prior = some .halted)

/-- The holder law (01 R2, 04 R65): a loader has a holder exactly while it is DRIVEN, SUPERVISED or
ORPHANED, or in TRANSFER from one of these states, and holds it in manual mode exactly while it is
DRIVEN or in TRANSFER from DRIVEN (01 1-1, log 23). -/
def State.holderLaw (s : State) : Prop :=
  ∀ l, ((s.loader l).holder.isSome = true ↔
    (s.loader l).state ∈ [LoaderState.driven, .supervised, .orphaned] ∨
      ((s.loader l).state = .transfer ∧
        (s.loader l).prior ∈ [some LoaderState.driven, some .supervised, some .orphaned])) ∧
    ∀ y ∈ (s.loader l).holder, (y.mode = .manual ↔ (s.loader l).state = .driven ∨
      ((s.loader l).state = .transfer ∧ (s.loader l).prior = some .driven))

/-- The slot law (03 R45): a slot is Bound to a loader exactly when the loader's record names that
chair and slot as holder, and Reserved for it exactly when a handover in flight names them as its
taking side. -/
def State.slotLaw (s : State) : Prop :=
  ∀ c i, (∀ l, (s.slot c i).contents = .bound l ↔
      ∃ y ∈ (s.loader l).holder, y.chair = c ∧ y.slot = i) ∧
    ∀ l k, (s.slot c i).contents = .reserved l k ↔
      ∃ x ∈ s.handover k, x.loader = l ∧ x.taking = c ∧ x.slot = some i

/-- The law of the manual load (03 R51): no chair's manual load is above 1. -/
def State.loadLaw (s : State) : Prop := ∀ c, s.countedLoad c none ≤ 1

/-- The law of the Watch Table (07 R133): a pair stands at most once in the whole table, and an open
pair in its own set. -/
def State.watchLaw (s : State) : Prop :=
  (∀ c l, ∀ m n : PinnedId, (s.watch.pinned[m]).any (·.names c l) = true →
    (s.watch.pinned[n]).any (·.names c l) = true → m = n) ∧
  (∀ c l, (s.watch.pinnedOf c l).isSome = true → s.watch.wayOf c l = none) ∧
  ∀ n : SetId, (∀ p ∈ (s.watch.openSets[n]).way0, setOf p.1 p.2 = n ∧
      (s.watch.openSets[n]).way1 ≠ some p) ∧
    ∀ p ∈ (s.watch.openSets[n]).way1, setOf p.1 p.2 = n

/-- The watch-lock law (07 7-3): the locked pairs are exactly those of a loader and its holder,
and of the loader and the taking chair of a handover in flight; a taking chair never holds the
loader. -/
def State.lockLaw (s : State) : Prop :=
  (∀ c l, s.watch.isLocked c l = true ↔ (s.loader l).heldBy c = true ∨
    ∃ k, ∃ x ∈ s.handover k, x.loader = l ∧ x.taking = c) ∧
  ∀ k, ∀ x ∈ s.handover k, (s.loader x.loader).heldBy x.taking = false

/-- The laws that bind the loader records to the handover contexts, the halt records, the slots, the
manual loads and the Watch Table. -/
structure State.recordLaws (s : State) : Prop where
  transfer : s.transferLaw
  halts : s.haltLaw
  holders : s.holderLaw
  slots : s.slotLaw
  loads : s.loadLaw
  watches : s.watchLaw
  locks : s.lockLaw

/-- The position law (02 R26): a loader with authority has a recorded position within the open
length of its zone, whose class admits the mode it is judged in. -/
def State.positionLaw (s : State) : Prop :=
  ∀ l, (s.loader l).hasAuthority = true → ∃ p ∈ (s.loader l).position,
    (s.zone p.zone).cls.open (s.judgedMode l) = true ∧ (s.zone p.zone).holdsSegment p = true

/-- The closure law (02 R33): a closure context is in use exactly while its zone is Closing, and
each Closing zone names its own context. -/
def State.closureLaw (s : State) : Prop :=
  (∀ k, ∀ x ∈ s.closure k, (s.zone x.zone).closing = some k) ∧
  ∀ z, ∀ k ∈ (s.zone z).closing, ∃ x ∈ s.closure k, x.zone = z

/-- The limits of a delivery queue (07 R141). -/
def OutQueue.law (q : OutQueue) : Prop :=
  q.frames.length ≤ 32 ∧ (∀ l : LoaderId, q.frames.countP (fun f => f.reportOf == some l) ≤ 1) ∧
    q.dropped ≤ 65535

/-- The limits of the delivery queues and of the order line (07 R141, 08 R158, R159). -/
def State.queueLaw (s : State) : Prop :=
  (∀ c : ChairId, OutQueue.law s.queues[c]) ∧ s.supQueue.law ∧ s.fleet.orders.length ≤ 64 ∧
    s.fleet.dropped ≤ 65535

/-- Every parameter lies in its range (09 R162). -/
def State.paramLaw (s : State) : Prop :=
  ∀ p ∈ allParams, p.range.1 ≤ s.params.get p ∧ s.params.get p ≤ p.range.2

/-- The fields of a chair link in their ranges; its silence timer runs unless the link is DOWN, and
a DOWN link has taken no frame (08 R150). -/
def ChairLink.law (k : ChairLink) : Prop :=
  k.errors ≤ 15 ∧ k.tally ≤ 15 ∧ k.run ≤ 15 ∧ k.badFrames ≤ 65535 ∧
    (k.silence = none ↔ k.state = .down) ∧
    (k.state = .down → k.errors = 0 ∧ k.tally = 0 ∧ k.run = 0)

/-- Every link interface keeps its ranges (08 R148, R150, R156, R157). -/
def State.linkLaw (s : State) : Prop :=
  (∀ c : ChairId, (s.link c).law) ∧ s.supLink.errors ≤ 15 ∧ s.supLink.tally ≤ 15 ∧
    s.supLink.badFrames ≤ 65535 ∧ s.fleet.badFrames ≤ 65535 ∧ s.fleet.unknown ≤ 65535

/-- The radio-address law (01 1-3, R4): no two filled entries hold the same address, and none holds
0 or 65,535. -/
def State.addressLaw (s : State) : Prop :=
  (∀ l : LoaderId, ∀ a ∈ s.radioMap[l], a ≠ 0 ∧ a ≠ 65535) ∧
  ∀ l n : LoaderId, s.radioMap[l].isSome = true → s.radioMap[l] = s.radioMap[n] → l = n

/-- A position lies on a zone's axis (00 0-8). -/
def Position.law (p : Position) : Prop := p.chainage ≤ 5119

/-- The drive counters stop at 65,535 (03 R48). -/
def DriveCounters.law (x : DriveCounters) : Prop :=
  x.accepted ≤ 65535 ∧ x.clamped ≤ 65535 ∧ x.duplicate ≤ 65535 ∧ x.stale ≤ 65535 ∧
    x.gap ≤ 65535 ∧ x.refused ≤ 65535

/-- Positions, ages, zone values and drive counters lie in their ranges (01 1-1, 02 R23,
03 R48). -/
def State.rangeLaw (s : State) : Prop :=
  (∀ l, (∀ p ∈ (s.loader l).position, p.law) ∧ (∀ p ∈ (s.loader l).lastReported, p.law) ∧
    (s.loader l).age ≤ 65535) ∧
  (∀ z, (s.zone z).openLength ≤ 128 ∧ (s.zone z).cap ≤ 80) ∧
  ∀ c, (s.chair c).counters.law

/-- A state in which every law holds. -/
structure State.lawful (s : State) : Prop where
  lamps : s.lampLaw
  stop : s.stopLaw
  records : s.recordLaws
  positions : s.positionLaw
  closures : s.closureLaw
  queues : s.queueLaw
  params : s.paramLaw
  links : s.linkLaw
  addresses : s.addressLaw
  ranges : s.rangeLaw

end Sys2Proof.Machine
end

