-- ==== Sys2Proof/Certificates/Slice0/Obligations.lean ====
section
/-! DEFINITION. The statements for the provers. A statement about a command names the state `a` in
which the command finds the switch once its frame has been heard (`State.heard`), so that what the
frame does to its link and its panel stands apart from what the command does. Every payload byte is
quantified, and read as the model reads it (`loaderOf loader = some l`). -/

open Sys2Proof Sys2Proof.Machine

/-! ## The machine -/

/-- A step takes the command at the front of the queue and runs it with the queue's rest. -/
def Obligations.StepRunsFrontCommand : Prop :=
  ∀ (s : State) (i : Instr) (rest : List Instr),
  s.pending = i :: rest →
  step s = exec i { s with pending := rest }

/-- On an empty queue the next byte on the line arrives: a running switch gives it to its link's
interface, and what it completes joins the queue; in RESET it is discarded. With no byte there a
running switch takes the first expiry that is due, and otherwise lets one millisecond pass for every
clock but the phase timer of a suspended handover; in RESET it idles. That a step on an empty queue
stands for these is the model's choice (logs 1 and 5). -/
def Obligations.EmptyQueueLetsTimePass : Prop :=
  ∀ (s : State) (later : Timer → Timer),
  s.pending = [] →
  later = (fun y => ⟨y.setting, y.elapsed + 1⟩) →
  (∀ k b rest, s.line = (k, b) :: rest →
    (s.inReset = true → step s = .next { s with line := rest }) ∧
    (s.inReset = false → ∃ t, step s = .next t ∧
      t.receiver k = ((s.receiver k).take k b).1 ∧
      t.pending = ((s.receiver k).take k b).2.toList ∧ t.line = rest ∧
      (∀ n, n ≠ k → t.receiver n = s.receiver n) ∧
      s.sameBut [.receivers, .line, .pending] t)) ∧
  (s.line = [] → s.inReset = true → step s = .next s) ∧
  (s.line = [] → s.inReset = false → ∀ i, s.allDue.head? = some i → step s = exec i s) ∧
  (s.line = [] → s.inReset = false → s.allDue = [] → ∃ t, step s = .next t ∧
    t.millis = s.millis + 1 ∧
    (∀ l, t.loader l =
      if (s.loader l).state = .unenrolled then s.loader l
      else
        { s.loader l with
          age := min 65535 ((s.loader l).age + 1)
          silence := { (s.loader l).silence with elapsed := (s.loader l).silence.elapsed + 1 }
          lapseTimer := (s.loader l).lapseTimer.map later
          holdRefresh := (s.loader l).holdRefresh.map later
          grace := (s.loader l).grace.map later }) ∧
    (∀ k, t.handover k = (s.handover k).map fun x =>
      { x with
        timer := if x.suspended = true then x.timer else later x.timer
        watchdog := later x.watchdog }) ∧
    (∀ k, t.closure k = (s.closure k).map fun x => { x with timer := later x.timer }) ∧
    (∀ c, t.link c = { s.link c with silence := (s.link c).silence.map later }) ∧
    s.sameBut [.loaders, .handovers, .closures, .links, .millis] t)

/-- Every command answers a next state, and none touches the commands that wait behind it or the
bytes that have yet to arrive: no command of the switch ends in a fault or a refusal. -/
def Obligations.EveryCommandAnswersNext : Prop :=
  ∀ (i : Instr) (s : State), ∃ t, exec i s = .next t ∧ t.pending = s.pending ∧ t.line = s.line

/-! ## Reset -/

/-- The release of RESET, and power-on, leave the values that 08 R161 lists; the STOP_ALL and
barrier states are those of their inputs, and every link hunts for a frame. What the record of an
UNENROLLED loader holds beside its state, all of `Loader.blank`, is the model's choice (log 32). -/
def Obligations.ResetReleaseGivesPowerOnValues : Prop :=
  ∀ (s : State) (i : Instr),
  i ∈ [Instr.resetRelease, .powerOn] →
  ∃ t, exec i s = .next t ∧
    (∀ l, t.loader l = Loader.blank ∧ t.radioMap[l] = none) ∧
    (∀ z, t.zone z = ⟨.closed, 0, .entrance, 0, false, false, none⟩) ∧
    (∀ c, (t.link c).state = .down ∧ (t.link c).errors = 0 ∧ (t.link c).tally = 0 ∧
      (t.link c).run = 0 ∧ (t.link c).badFrames = 0 ∧ (t.link c).silence = none ∧
      (t.chair c).clearance = 0 ∧ (t.chair c).stop = false ∧ (t.chair c).neutral = false ∧
      (t.chair c).counters = ⟨0, 0, 0, 0, 0, 0⟩ ∧
      (∀ n, t.slot c n = ⟨.empty, none, .fresh⟩) ∧
      (t.queue (.chair c)).frames = [] ∧ (t.queue (.chair c)).dropped = 0) ∧
    (∀ k, t.handover k = none) ∧ (∀ k, t.closure k = none) ∧
    (∀ n : PinnedId, t.watch.pinned[n] = none) ∧
    (∀ n : SetId, t.watch.openSets[n] = ⟨none, none, false⟩) ∧
    t.supQueue.frames = [] ∧ t.supQueue.dropped = 0 ∧ t.supLink = ⟨0, 0, 0⟩ ∧
    t.fleet = ⟨0, 0, [], 0, none⟩ ∧ t.params = Params.defaults ∧ t.watchAll = false ∧
    t.seconds = 0 ∧ (∀ n : LevelId, t.lamps[n] = false) ∧
    t.stopAll = s.inputs.stopAll ∧ t.barriers = s.inputs.barriers ∧ t.inReset = false ∧
    t.inputs = s.inputs ∧ (∀ k, t.receiver k = .hunting) ∧ t.line = s.line

/-- The assertion of RESET abandons the frames in reception, empties every queue and the order line,
cuts off what is being sent and darkens the lamps. While RESET is asserted no command but a change
of that input, or power-on, changes anything but the levels of the input lines, and a byte that
arrives is discarded. That the tables, the timers' readings and the dropped counters stand as they
were until the release is the model's reading (log 18). -/
def Obligations.ResetAssertionStopsEverything : Prop :=
  ∀ (s : State),
  (∃ t, exec .resetAssertion s = .next t ∧
    t.inReset = true ∧ (∀ n : LevelId, t.lamps[n] = false) ∧
    (∀ p, (t.queue p).frames = [] ∧ (t.queue p).sending = none ∧
      (t.queue p).dropped = (s.queue p).dropped) ∧
    t.fleet = { s.fleet with orders := [], sending := none } ∧
    (∀ k, t.receiver k = .hunting) ∧
    s.sameBut [.inReset, .lamps, .queues, .supQueue, .fleet, .receivers] t) ∧
  (∀ i, s.inReset = true → i ∉ [Instr.resetAssertion, .resetRelease, .powerOn] →
    ∃ t, exec i s = .next t ∧ s.sameBut [.inputs] t) ∧
  (s.inReset = true → ∀ k b, s.receive k b = s)

/-! ## How frames are taken -/

/-- A PING is answered by the link interface with the seconds counter and the error counter of its
link, and changes nothing else. That the supervisor link's counter has counted the PING itself is the
model's reading (log 47). -/
def Obligations.PingIsAnswered : Prop :=
  ∀ (s a : State) (h : Header),
  s.ready h →
  a = s.heard h.sender →
  exec (.ping h) s = .next (a.modQueue h.sender.port fun q => q.join
    ⟨h.tag, .reply .ping (.ok (.ping s.seconds
      (match h.sender with
        | .chair c _ => (a.link c).errors
        | .supervisor => a.supLink.errors)))⟩)

/-- A request whose link's queue holds 32 replies is discarded unexecuted and unanswered, and the
dropped-frame counter gains one. A request from a sender that may not send it is refused NOT_PARTY.
Neither changes anything else. -/
def Obligations.RequestsTurnedAway : Prop :=
  ∀ (s a : State) (h : Header) (i : Instr) (k : ReqKind),
  i.header? = some h →
  i.kind? = some k →
  s.hears h.sender →
  a = s.heard h.sender →
  (32 ≤ (s.queue h.sender.port).frames.countP Frame.isReply →
    exec i s = .next (a.modQueue h.sender.port fun q =>
      { q with dropped := min 65535 (q.dropped + 1) })) ∧
  ((s.queue h.sender.port).frames.countP Frame.isReply < 32 → h.sender.maySend k = false →
    exec i s = .next (a.modQueue h.sender.port
      (·.join ⟨h.tag, .reply k (.refused .notParty)⟩)))

/-- The first valid frame on a DOWN link brings it UP: the chair and then the supervisor are told,
and the link's counters stay as they are. A PING that does it is answered behind the notice. Any
other frame is acted on as the same frame is on an UP link which, having heard it, stands as this
one does. -/
def Obligations.FirstFrameBringsLinkUp : Prop :=
  ∀ (s : State) (h : Header) (c : ChairId) (panel : Byte),
  h.sender = .chair c panel →
  s.inReset = false →
  (s.link c).state = .down →
  (panelStop panel = true → (s.chair c).stop = true) →
  ((s.queue (.chair c)).frames = [] → ∃ t, exec (.ping h) s = .next t ∧
    t.link c = { s.link c with state := .up, silence := some ⟨s.params.linkSilence, 0⟩ } ∧
    (t.queue (.chair c)).frames =
      [⟨0, .notice (.linkRestored c s.seconds 0 (Vector.replicate 4 none))⟩,
        ⟨h.tag, .reply .ping (.ok (.ping s.seconds (s.link c).errors))⟩] ∧
    t.supQueue = s.supQueue.join
      ⟨0, .notice (.linkRestored c s.seconds 0 (Vector.replicate 4 none))⟩ ∧
    (t.chair c).stop = panelStop panel ∧ (t.chair c).neutral = panelNeutral panel ∧
    (∀ d, d ≠ c → t.link d = s.link d ∧ t.chair d = s.chair d) ∧
    s.sameBut [.links, .chairs, .queues, .supQueue] t) ∧
  (∀ u i, i.header? = some h ∨ (∃ tag f, i = .driveFrame c panel tag f) →
    u.hears (.chair c panel) → u.heard (.chair c panel) = s.broughtUp c panel →
    exec i s = exec i u)

/-- A valid frame on a LOST link, whatever it carries, only restarts the silence timer, advances the
tally and adds one to the recovery run, until the run reaches 16. A silence expiry restarts the
timer too, and sets the run to 0. That the timer then latches the link silence time in force is the
model's reading (log 29). -/
def Obligations.LostLinkFramesAreOnlyCounted : Prop :=
  ∀ (s : State) (c : ChairId) (panel : Byte) (i : Instr),
  s.inReset = false →
  (s.link c).state = .lost →
  (i = .lostLinkFrame c panel ∨ (∃ tag f, i = .driveFrame c panel tag f) ∨
      (∃ h, i.header? = some h ∧ h.sender = .chair c panel) →
    (s.link c).run < 15 →
    exec i s = .next { s with
      links := s.links.set c
        { s.link c with
          silence := some ⟨s.params.linkSilence, 0⟩
          errors := if (s.link c).tally < 15 then (s.link c).errors else (s.link c).errors - 1
          tally := if (s.link c).tally < 15 then (s.link c).tally + 1 else 0
          run := (s.link c).run + 1 } }) ∧
  ((s.link c).silence.isSome = true →
    exec (.linkSilenceExpiry c) s = .next { s with
      links := s.links.set c
        { s.link c with silence := some ⟨s.params.linkSilence, 0⟩, run := 0 } })

/-- The sixteenth clean frame in a row brings a LOST link back UP with its counters at 0; the
chair's orphans are SUPERVISED again under it with their epochs, and the frame's panel byte is
taken. A handover forced from ORPHANED takes the chair, its loader's holder, as its releasing chair
and goes on as one from SUPERVISED, and the chair is told of it. -/
def Obligations.SixteenthFrameRecoversLink : Prop :=
  ∀ (s : State) (c : ChairId) (panel : Byte),
  s.inReset = false →
  (s.link c).state = .lost →
  (s.link c).run = 15 →
  (panelStop panel = true → (s.chair c).stop = true) →
  ∃ t, exec (.lostLinkFrame c panel) s = .next t ∧
    t.link c = { s.link c with
      state := .up, errors := 0, tally := 0, run := 0
      silence := some ⟨s.params.linkSilence, 0⟩ } ∧
    (∀ l, (s.loader l).state = .orphaned → (s.loader l).heldBy c = true →
      (t.loader l).state = .supervised ∧ (t.loader l).grace = none ∧
      (t.loader l).holder = (s.loader l).holder ∧ (t.loader l).epoch = (s.loader l).epoch) ∧
    (∀ l, (s.loader l).heldBy c = false → t.loader l = s.loader l) ∧
    (∀ l k x, s.inFlight l k x → (s.loader l).prior = some .orphaned →
      (s.loader l).heldBy c = true →
      t.handover k = some { x with releasing := some c } ∧
      t.loader l = { s.loader l with prior := some .supervised, grace := none } ∧
      ((s.queue (.chair c)).frames = [] → t.queued (.chair c) ⟨0, .notice
        (.forced k l x.taking x.slot x.target (some .supervised) x.phase)⟩)) ∧
    (∀ k, (∀ x ∈ s.handover k, (s.loader x.loader).prior ≠ some .orphaned ∨
      (s.loader x.loader).heldBy c = false) → t.handover k = s.handover k) ∧
    (t.chair c).stop = panelStop panel ∧ (t.chair c).neutral = panelNeutral panel ∧
    s.sameBut [.loaders, .handovers, .links, .chairs, .queues, .supQueue] t

/-- A bad frame is counted, up to 65,535. It leaves the error counter of a DOWN link, and raises
that of an UP link below its threshold, of a LOST link, whose recovery run becomes 0, and of the
supervisor link by one, up to 15. -/
def Obligations.BadFrameIsCounted : Prop :=
  ∀ (s : State),
  s.inReset = false →
  (∀ c, (s.link c).state = .down → exec (.badFrame (.chair c)) s = .next { s with
      links := s.links.set c
        { s.link c with badFrames := min 65535 ((s.link c).badFrames + 1) } }) ∧
  (∀ c, (s.link c).state = .up → min 15 ((s.link c).errors + 1) < s.params.linkError →
    exec (.badFrame (.chair c)) s = .next { s with
      links := s.links.set c
        { s.link c with
          badFrames := min 65535 ((s.link c).badFrames + 1)
          errors := min 15 ((s.link c).errors + 1) } }) ∧
  (∀ c, (s.link c).state = .lost → exec (.badFrame (.chair c)) s = .next { s with
      links := s.links.set c
        { s.link c with
          badFrames := min 65535 ((s.link c).badFrames + 1)
          errors := min 15 ((s.link c).errors + 1)
          run := 0 } }) ∧
  exec (.badFrame .supervisor) s = .next { s with
    supLink := ⟨min 15 (s.supLink.errors + 1), s.supLink.tally,
      min 65535 (s.supLink.badFrames + 1)⟩ } ∧
  exec (.badFrame .fleet) s = .next { s with
    fleet := { s.fleet with badFrames := min 65535 (s.fleet.badFrames + 1) } }

/-- The silence expiry of an UP link, and a bad frame that raises its error counter to the
threshold, make the link LOST: the chair's queue is emptied, no DRIVEN or SUPERVISED loader is
left under the chair, no handover in which it is a party and no unlocked pinned watch of it.
Outside a handover a DRIVEN loader is halted, and a SUPERVISED one is ORPHANED where the grace
setting is above 0. Of the handovers it ends, one toward the chair reverts its loader, and one
from the chair orphans a loader held in supervised mode, where the grace setting is above 0, and
halts any other. That the silence timer, restarted at the loss, latches the link silence time in
force is the model's reading (log 29). -/
def Obligations.LostLinkTakesAuthority : Prop :=
  ∀ (s : State) (c : ChairId) (i : Instr),
  s.inReset = false →
  (s.link c).state = .up →
  (i = .linkSilenceExpiry c ∧ (s.link c).silence.isSome = true) ∨
    (i = .badFrame (.chair c) ∧ s.params.linkError ≤ min 15 ((s.link c).errors + 1)) →
  ∃ t, exec i s = .next t ∧
    (t.link c).state = .lost ∧ (t.link c).run = 0 ∧
    (t.link c).silence = some ⟨s.params.linkSilence, 0⟩ ∧
    (t.link c).tally = (s.link c).tally ∧
    (t.queue (.chair c)).frames = [] ∧
    (∀ l, (t.loader l).heldBy c = true →
      (t.loader l).state ≠ .driven ∧ (t.loader l).state ≠ .supervised) ∧
    (∀ l, (s.loader l).state = .driven → (s.loader l).heldBy c = true →
      (∀ k, ∀ x ∈ s.handover k, x.loader ≠ l) →
      (s.loader l).haltedBy (t.loader l) .chairLink s.seconds) ∧
    (∀ l, (s.loader l).state = .supervised → (s.loader l).heldBy c = true →
      (∀ k, ∀ x ∈ s.handover k, x.loader ≠ l) →
      if 0 < s.params.orphanGrace then
        (t.loader l).state = .orphaned ∧ (t.loader l).holder = (s.loader l).holder ∧
          (t.loader l).grace = some ⟨1000 * s.params.orphanGrace, 0⟩
      else (s.loader l).haltedBy (t.loader l) .chairLink s.seconds) ∧
    (∀ l, (s.loader l).heldBy c = false →
      (∀ k, ∀ x ∈ s.handover k, x.loader ≠ l) → t.loader l = s.loader l) ∧
    (∀ n : PinnedId, ∀ e ∈ t.watch.pinned[n], e.chair = c → e.locked = true) ∧
    (∀ k, t.handover k =
      if ∃ x ∈ s.handover k, x.taking = c ∨ x.releasing = some c then none else s.handover k) ∧
    (∀ l k x p, s.transferLaw → s.inFlight l k x → (s.loader l).prior = some p →
      (x.taking = c → (s.loader l).heldBy c = false →
        (t.loader l).state = p ∧ (t.loader l).prior = none ∧ (t.loader l).context = none ∧
          (t.loader l).holder = (s.loader l).holder ∧
          (t.loader l).epoch = (s.loader l).epoch ∧ (t.loader l).grace = (s.loader l).grace ∧
          (p = .halted → (t.loader l).halt = x.held)) ∧
      (x.taking ≠ c → x.releasing = some c →
        if (s.loader l).heldMode = some .supervised ∧ 0 < s.params.orphanGrace then
          t.loader l =
            { s.loader l with
              state := .orphaned, prior := none, context := none, lapse := false
              lapseTimer := none, holdRefresh := none
              grace := some ⟨1000 * s.params.orphanGrace, 0⟩ }
        else (s.loader l).haltedFrom (t.loader l) x.held .chairLink s.seconds) ∧
      (x.taking ≠ c → x.releasing ≠ some c → t.loader l = s.loader l)) ∧
    s.sameBut [.loaders, .handovers, .links, .chairs, .queues, .supQueue, .watch, .fleet, .lamps,
      .zones, .closures] t

/-- A chair stop newly pressed, here by a PING, halts every loader that the chair holds outside a
handover with cause CHAIR_STOP and ends every handover in which it is a party: one toward the chair
reverts its loader, and one from the chair halts it with that cause. Whether the PING is answered is
a free value, since two rules say opposite things of it (log 40). -/
def Obligations.ChairStopHaltsItsLoaders : Prop :=
  ∀ (s : State) (h : Header) (c : ChairId) (panel : Byte),
  h.sender = .chair c panel →
  s.inReset = false →
  (s.link c).state = .up →
  panelStop panel = true →
  (s.chair c).stop = false →
  ∃ t, exec (.ping h) s = .next t ∧
    (t.chair c).stop = true ∧
    (∀ l, (s.loader l).state ∈ [LoaderState.driven, .supervised, .orphaned] →
      (s.loader l).heldBy c = true → (∀ k, ∀ x ∈ s.handover k, x.loader ≠ l) →
      (s.loader l).haltedBy (t.loader l) .chairStop s.seconds) ∧
    (∀ l, (s.loader l).heldBy c = false →
      (∀ k, ∀ x ∈ s.handover k, x.loader ≠ l) → t.loader l = s.loader l) ∧
    (∀ k, ∀ x ∈ t.handover k, s.handover k = some x ∧ x.taking ≠ c ∧ x.releasing ≠ some c) ∧
    (∀ l k x p, s.transferLaw → s.inFlight l k x → (s.loader l).prior = some p →
      (x.taking = c → (s.loader l).heldBy c = false →
        (t.loader l).state = p ∧ (t.loader l).prior = none ∧ (t.loader l).context = none ∧
          (t.loader l).holder = (s.loader l).holder ∧
          (t.loader l).epoch = (s.loader l).epoch ∧ (t.loader l).grace = (s.loader l).grace ∧
          (p = .halted → (t.loader l).halt = x.held)) ∧
      (x.taking ≠ c → x.releasing = some c →
        (s.loader l).haltedFrom (t.loader l) x.held .chairStop s.seconds) ∧
      (x.taking ≠ c → x.releasing ≠ some c → t.loader l = s.loader l)) ∧
    (t.queue (.chair c)).frames.filter Frame.isReply =
      (s.queue (.chair c)).frames.filter Frame.isReply ++
        (if Config.answersStopPing = true ∧
            (s.queue (.chair c)).frames.countP Frame.isReply < 32 then
          [⟨h.tag, .reply .ping (.ok (.ping s.seconds ((s.heard h.sender).link c).errors))⟩]
        else []) ∧
    s.sameBut [.loaders, .handovers, .links, .chairs, .queues, .supQueue, .watch, .fleet, .lamps,
      .zones, .closures] t

/-! ## Holding authority -/

/-- The grant checks are tested in the order of their table, and the first that fails gives the
reason. -/
def Obligations.FirstFailingGrantCheckGivesReason : Prop :=
  ∀ (s : State) (l : LoaderId) (c : ChairId) (i : SlotId) (m : Mode),
  s.checkGrant l c i m =
    match firstFailing (s.checks3to15 l c i m) with
    | some r => .error r
    | none => .ok ()

/-- A CLAIM of a PARKED loader, and a RECLAIM of a HALTED one by its last holder, that pass the
checks grant the loader: the OK joins the chair's queue with the new epoch, the halt record and the
last holder are gone, the pair is locked in the Watch Table, the zone's attention flag is set where
its class asks for it, and nothing leaves on the fleet link. -/
def Obligations.ClaimAndReclaimGrantLoader : Prop :=
  ∀ (s a : State) (h : Header) (c : ChairId) (panel loader slot mode : Byte) (l : LoaderId)
    (i : SlotId) (m : Mode) (cmd : Instr) (kind : ReqKind),
  h.sender = .chair c panel →
  s.ready h →
  a = s.heard h.sender →
  loaderOf loader = some l →
  slotOf slot = some i →
  modeOf mode = some m →
  (cmd = .claim h loader slot mode ∧ kind = .claim ∧ (a.loader l).state = .parked) ∨
    (cmd = .reclaim h loader slot mode ∧ kind = .reclaim ∧ (a.loader l).state = .halted ∧
      (a.loader l).lastHolder = some c) →
  allPass (a.checks3to15 l c i m) →
  ∃ t, exec cmd s = .next t ∧
    a.grantedTo t l c i m none ∧
    t.queued (.chair c) ⟨h.tag, .reply kind (.ok (.grant l i m ((a.loader l).epoch + 1)))⟩ ∧
    a.sameBut [.loaders, .chairs, .zones, .lamps, .watch, .queues, .supQueue] t

/-- A CLAIM that fails a test is answered with the first reason of the order of 03 R49 and R50, and
changes nothing else. -/
def Obligations.ClaimRefusalChangesNothing : Prop :=
  ∀ (s a : State) (h : Header) (c : ChairId) (panel loader slot mode : Byte) (r : Reason),
  h.sender = .chair c panel →
  s.ready h →
  a = s.heard h.sender →
  (match loaderOf loader, slotOf slot, modeOf mode with
    | some l, some i, some m =>
      firstFailing (((a.loader l).state != .unenrolled, Reason.unknownLoader) ::
        ((a.loader l).state == .parked, .loaderState) :: a.checks3to15 l c i m)
    | _, _, _ => some .badValue) = some r →
  exec (.claim h loader slot mode) s = .next { a with
    queues := a.joined c ⟨h.tag, .reply .claim (.refused r)⟩ }

/-- A RELEASE by the holder parks the loader under HOLD: its slot is Empty with its drive state
kept, and the pair's watch is unlocked. -/
def Obligations.ReleaseParksLoader : Prop :=
  ∀ (s a : State) (h : Header) (c : ChairId) (panel loader : Byte) (l : LoaderId) (x : Holding),
  h.sender = .chair c panel →
  s.ready h →
  a = s.heard h.sender →
  loaderOf loader = some l →
  (a.loader l).state ≠ .unenrolled →
  (a.loader l).state ≠ .transfer →
  (a.loader l).holder = some x →
  x.chair = c →
  ∃ t, exec (.release h loader) s = .next t ∧
    t.loader l =
      { a.loader l with
        state := .parked, holder := none, lapse := false, lapseTimer := none
        holdRefresh := some ⟨500, 0⟩ } ∧
    t.slot c x.slot = { a.slot c x.slot with contents := .empty } ∧
    a.otherLoaders l t ∧ a.otherSlots [(c, x.slot)] t ∧
    t.fleet = a.ordered l .hold ∧ t.watch = a.watch.unlock c l ∧
    t.queues = a.joined c ⟨h.tag, .reply .release (.ok (.loaderSlot l x.slot))⟩ ∧
    a.sameBut [.loaders, .chairs, .watch, .queues, .supQueue, .fleet, .lamps, .zones, .closures] t

/-- RELEASE, MODE and MISSION share their first tests: a loader without a holder gives LOADER_STATE,
another chair's loader NOT_PARTY, and a loader in TRANSFER BUSY. A MODE that names the mode already
held is answered OK; a mode code with no meaning is refused BADVALUE. Nothing else changes. That a
loader forced from ORPHANED is tested by the holder of its record is the model's choice (log 36). -/
def Obligations.HolderRequestsFirstTests : Prop :=
  ∀ (s a : State) (h : Header) (c : ChairId) (panel loader mode : Byte) (l : LoaderId),
  h.sender = .chair c panel →
  s.ready h →
  a = s.heard h.sender →
  loaderOf loader = some l →
  (a.loader l).state ≠ .unenrolled →
  (∀ i k r,
    (i = .release h loader ∧ k = .release) ∨ (i = .modeToSupervised h loader ∧ k = .mode) ∨
      (i = .modeToManual h loader 0 ∧ k = .mode) ∨
      (i = .mission h loader mode ∧ k = .mission) →
    ((a.loader l).holder = none ∧ r = .loaderState) ∨
      ((∃ x ∈ (a.loader l).holder, x.chair ≠ c) ∧ r = .notParty) ∨
      ((∃ x ∈ (a.loader l).holder, x.chair = c) ∧ (a.loader l).state = .transfer ∧ r = .busy) →
    exec i s = .next { a with queues := a.joined c ⟨h.tag, .reply k (.refused r)⟩ }) ∧
  (∀ x, (a.loader l).holder = some x → x.chair = c → (a.loader l).state ≠ .transfer →
    (x.mode = .supervised → exec (.modeToSupervised h loader) s = .next { a with
      queues := a.joined c ⟨h.tag, .reply .mode (.ok (.mode l .supervised))⟩ }) ∧
    (modeOf mode = some x.mode → exec (.modeToManual h loader mode) s = .next { a with
      queues := a.joined c ⟨h.tag, .reply .mode (.ok (.mode l x.mode))⟩ }) ∧
    (modeOf mode = none → exec (.modeToManual h loader mode) s = .next { a with
      queues := a.joined c ⟨h.tag, .reply .mode (.refused .badValue)⟩ }))

/-- MODE to supervised from DRIVEN keeps holder, slot and epoch, stops the lapse timer and builds
one HOLD that is not refreshed. -/
def Obligations.ModeToSupervisedHoldsAndReleases : Prop :=
  ∀ (s a : State) (h : Header) (c : ChairId) (panel loader : Byte) (l : LoaderId) (i : SlotId)
    (p : Position),
  h.sender = .chair c panel →
  s.ready h →
  a = s.heard h.sender →
  loaderOf loader = some l →
  (a.loader l).state = .driven →
  (a.loader l).holder = some ⟨c, i, .manual⟩ →
  (a.loader l).position = some p →
  ((a.zone p.zone).cls.open .supervised && (a.zone p.zone).holdsSegment p) = true →
  a.barriers[levelOf p.zone] = false →
  exec (.modeToSupervised h loader) s = .next { a with
    loaders := a.loaders.set l
      { a.loader l with
        state := .supervised, holder := some ⟨c, i, .supervised⟩
        lapse := false, lapseTimer := none, holdRefresh := none }
    fleet := a.ordered l .hold
    queues := a.joined c ⟨h.tag, .reply .mode (.ok (.mode l .supervised))⟩ }

/-- MODE to manual from SUPERVISED, on ground that admits it, with no manual load, the controls
neutral and the loader stationary: the slot takes any count, the lapse timer starts afresh, and a
MISSION order with route 0 is built. -/
def Obligations.ModeToManualStartsDriving : Prop :=
  ∀ (s a : State) (h : Header) (c : ChairId) (panel loader mode : Byte) (l : LoaderId) (i : SlotId)
    (p : Position),
  h.sender = .chair c panel →
  s.ready h →
  a = s.heard h.sender →
  loaderOf loader = some l →
  modeOf mode = some .manual →
  (a.loader l).state = .supervised →
  (a.loader l).holder = some ⟨c, i, .supervised⟩ →
  (a.loader l).position = some p →
  ((a.zone p.zone).cls.open .manual && (a.zone p.zone).holdsSegment p) = true →
  a.countedLoad c none = 0 →
  (a.chair c).neutral = true →
  (a.loader l).stationary = true →
  ∃ t, exec (.modeToManual h loader mode) s = .next t ∧
    t.loader l =
      { a.loader l with
        state := .driven, holder := some ⟨c, i, .manual⟩
        lapse := false, lapseTimer := some ⟨a.params.driveLapse, 0⟩ } ∧
    t.slot c i = { a.slot c i with lastCount := none } ∧
    a.otherLoaders l t ∧ a.otherSlots [(c, i)] t ∧
    t.fleet = a.ordered l (.mission 0) ∧
    t.queues = a.joined c ⟨h.tag, .reply .mode (.ok (.mode l .manual))⟩ ∧
    a.sameBut [.loaders, .chairs, .queues, .fleet] t

/-- An accepted MISSION builds one MISSION order with the route; the ground is tested for a route
other than 0 only, and the record does not change. -/
def Obligations.MissionBuildsOrder : Prop :=
  ∀ (s a : State) (h : Header) (c : ChairId) (panel loader route : Byte) (l : LoaderId)
    (x : Holding),
  h.sender = .chair c panel →
  s.ready h →
  a = s.heard h.sender →
  loaderOf loader = some l →
  (a.loader l).state = .supervised →
  (a.loader l).holder = some x →
  x.chair = c →
  route = 0 ∨ (∃ p ∈ (a.loader l).position,
    ((a.zone p.zone).cls.open .supervised && (a.zone p.zone).holdsSegment p) = true ∧
      a.barriers[levelOf p.zone] = false) →
  exec (.mission h loader route) s = .next { a with
    fleet := a.ordered l (.mission route)
    queues := a.joined c ⟨h.tag, .reply .mission (.ok (.mission l route))⟩ }

/-- PARK of a HALTED loader and RESTORE of an ISOLATED one leave it PARKED under a fresh HOLD, with
no halt record and no last holder; in every other enrolled state they are refused LOADER_STATE and
change nothing. -/
def Obligations.ParkAndRestoreLeaveParked : Prop :=
  ∀ (s a : State) (h : Header) (loader : Byte) (l : LoaderId) (cmd : Instr) (kind : ReqKind)
    (want : LoaderState),
  h.sender = .supervisor →
  s.ready h →
  a = s.heard h.sender →
  loaderOf loader = some l →
  (cmd = .park h loader ∧ kind = .park ∧ want = .halted) ∨
    (cmd = .restore h loader ∧ kind = .restore ∧ want = .isolated) →
  (a.loader l).state ≠ .unenrolled →
  ((a.loader l).state = want → exec cmd s = .next { a with
    loaders := a.loaders.set l
      { a.loader l with
        state := .parked, halt := none, lastHolder := none, holdRefresh := some ⟨500, 0⟩ }
    fleet := a.ordered l .hold
    supQueue := a.supQueue.join ⟨h.tag, .reply kind (.ok (.loader l))⟩ }) ∧
  ((a.loader l).state ≠ want → exec cmd s = .next { a with
    supQueue := a.supQueue.join ⟨h.tag, .reply kind (.refused .loaderState)⟩ })

/-- ISOLATE leaves an enrolled loader, whatever its state, ISOLATED and in no chair's hands; an
ISOLATED loader is left as it is. -/
def Obligations.IsolateTakesLoaderOut : Prop :=
  ∀ (s a : State) (h : Header) (loader : Byte) (l : LoaderId),
  h.sender = .supervisor →
  s.ready h →
  a = s.heard h.sender →
  loaderOf loader = some l →
  (a.loader l).state ≠ .unenrolled →
  ((a.loader l).state = .isolated → exec (.isolate h loader) s = .next { a with
    supQueue := a.supQueue.join ⟨h.tag, .reply .isolate (.ok (.loader l))⟩ }) ∧
  ((a.loader l).state ≠ .isolated → ∃ t, exec (.isolate h loader) s = .next t ∧
    (t.loader l).state = .isolated ∧ (t.loader l).holder = none ∧
    (t.loader l).lastHolder = none ∧ (t.loader l).halt = none ∧ (t.loader l).grace = none ∧
    (t.loader l).lapse = false ∧ (t.loader l).lapseTimer = none ∧
    (t.loader l).holdRefresh = some ⟨500, 0⟩ ∧
    (t.loader l).epoch = (a.loader l).epoch ∧ (t.loader l).position = (a.loader l).position ∧
    (t.loader l).silence = (a.loader l).silence ∧
    (∀ x ∈ (a.loader l).holder, (t.slot x.chair x.slot).contents = .empty) ∧
    ((a.loader l).state ≠ .transfer → a.otherLoaders l t ∧ t.fleet = a.ordered l .hold ∧
      t.handovers = a.handovers) ∧
    (∀ k x, a.inFlight l k x → t.handover k = none ∧ a.otherHandovers k t ∧ a.otherLoaders l t) ∧
    t.queued .supervisor ⟨h.tag, .reply .isolate (.ok (.loader l))⟩ ∧
    a.sameBut [.loaders, .chairs, .handovers, .watch, .queues, .supQueue, .fleet, .lamps, .zones,
      .closures] t)

/-- WITHDRAW halts every loader within its scope and filter, leaves every other loader as it was but
for the further cause that scope ALL with filter Both gives HALTED ones, and answers their number.
The model's readings: the filter takes a loader forced from ORPHANED as held in supervised mode
(log 23), and a HOLD is built for a loader forced from HALTED as for any other (log 11). -/
def Obligations.WithdrawHaltsItsScope : Prop :=
  ∀ (s a : State) (h : Header) (scope number filter : Byte) (x : Scope) (f : Option Mode)
    (covered : LoaderId → Bool),
  h.sender = .supervisor →
  s.ready h →
  a = s.heard h.sender →
  scopeOf scope number = some x →
  filterOf filter = some f →
  covered = (fun l => (a.loader l).hasAuthority &&
    (match x with
      | .loader n => n == l
      | .chair c => (a.loader l).holder.any (·.chair == c)
      | .all => true) &&
    (match f with
      | none => true
      | some m => (((a.loader l).holder.map (·.mode)).or
          ((a.handoverOf l).map (·.target))) == some m)) →
  (∀ n, x = .loader n → (a.loader n).hasAuthority = true) →
  ∃ t, exec (.withdraw h scope number filter) s = .next t ∧
    (∀ l, covered l = true → (t.loader l).state = .halted ∧ (t.loader l).holder = none) ∧
    (∀ l, covered l = true → (a.loader l).state ≠ .transfer →
      (∀ k, ∀ y ∈ a.handover k, y.loader ≠ l) →
      (a.loader l).haltedBy (t.loader l) .withdrawn s.seconds) ∧
    (∀ l k y, covered l = true → a.transferLaw → a.inFlight l k y →
      (a.loader l).haltedFrom (t.loader l) y.held .withdrawn s.seconds) ∧
    (∀ l, covered l = false → t.loader l =
      if x = .all ∧ f = none ∧ (a.loader l).state = .halted then
        { a.loader l with halt := (a.loader l).halt.map (·.addCause .withdrawn) }
      else a.loader l) ∧
    (∀ k, ∀ y ∈ a.handover k, t.handover k = if covered y.loader = true then none else some y) ∧
    t.queued .supervisor ⟨h.tag, .reply .withdraw (.ok (.count
      ((List.finRange 32).countP covered +
        if x = .all ∧ f = none then
          (List.finRange 32).countP fun l => (a.loader l).state == .halted
        else 0)))⟩ ∧
    a.sameBut [.loaders, .handovers, .chairs, .watch, .queues, .supQueue, .fleet, .lamps, .zones,
      .closures] t

/-! ## Handover transactions -/

/-- An accepted OFFER creates a handover in the lowest free context, in OFFERED, with no slot named;
the loader keeps its holder and mode, the taking pair is locked in the Watch Table, and nothing
leaves on the fleet link. -/
def Obligations.OfferCreatesHandover : Prop :=
  ∀ (s a : State) (h : Header) (c d : ChairId) (panel loader taking target : Byte) (l : LoaderId)
    (m : Mode) (k : CtxId),
  h.sender = .chair c panel →
  s.ready h →
  a = s.heard h.sender →
  loaderOf loader = some l →
  chairOf taking = some d →
  modeOf target = some m →
  d ≠ c →
  (a.loader l).state ∈ [LoaderState.driven, .supervised] →
  (a.loader l).heldBy c = true →
  (a.link d).state = .up →
  a.handover k = none →
  (∀ n, n < k → a.handover n ≠ none) →
  ∃ t, exec (.offer h loader taking target) s = .next t ∧
    t.handover k = some
      { loader := l, kind := .offer, releasing := some c, taking := d, slot := none, target := m
        phase := .offered, timer := ⟨1000 * a.params.answer, 0⟩, suspended := false
        watchdog := ⟨2000 * a.params.watchdog, 0⟩, held := (a.loader l).halt } ∧
    t.loader l =
      { a.loader l with
        state := .transfer, prior := some (a.loader l).state, context := some k, halt := none } ∧
    a.otherLoaders l t ∧ a.otherHandovers k t ∧ a.watch.lockedFor t.watch d l ∧
    t.queued (.chair c) ⟨h.tag, .reply .offer (.ok (.context k))⟩ ∧
    a.sameBut [.loaders, .handovers, .watch, .lamps, .queues] t

/-- An accepted REQUEST creates a handover in REQUESTED, its slot Reserved and its pair locked in
the Watch Table. -/
def Obligations.RequestReservesSlot : Prop :=
  ∀ (s a : State) (h : Header) (c : ChairId) (panel loader slot target : Byte) (l : LoaderId)
    (i : SlotId) (m : Mode) (x : Holding) (k : CtxId),
  h.sender = .chair c panel →
  s.ready h →
  a = s.heard h.sender →
  loaderOf loader = some l →
  slotOf slot = some i →
  modeOf target = some m →
  (a.loader l).state ∈ [LoaderState.driven, .supervised] →
  (a.loader l).holder = some x →
  x.chair ≠ c →
  allPass (a.checks3to14 l c i m) →
  a.handover k = none →
  (∀ n, n < k → a.handover n ≠ none) →
  ∃ t, exec (.request h loader slot target) s = .next t ∧
    t.handover k = some
      { loader := l, kind := .request, releasing := some x.chair, taking := c, slot := some i
        target := m, phase := .requested, timer := ⟨1000 * a.params.answer, 0⟩
        suspended := false, watchdog := ⟨2000 * a.params.watchdog, 0⟩
        held := (a.loader l).halt } ∧
    t.loader l =
      { a.loader l with
        state := .transfer, prior := some (a.loader l).state, context := some k, halt := none } ∧
    t.slot c i = { a.slot c i with contents := .reserved l k } ∧
    a.otherLoaders l t ∧ a.otherHandovers k t ∧ a.otherSlots [(c, i)] t ∧
    a.watch.lockedFor t.watch c l ∧
    t.queued (.chair c) ⟨h.tag, .reply .request (.ok (.context k))⟩ ∧
    a.sameBut [.loaders, .handovers, .chairs, .watch, .lamps, .queues] t

/-- An accepted FORCE creates a handover and enters CONFIRMING at once for a PARKED or HALTED
loader, or for supervised to supervised, and SETTLING otherwise; either way one HOLD is built, the
slot is Reserved and its pair is locked in the Watch Table. -/
def Obligations.ForceEntersDecidedPhase : Prop :=
  ∀ (s a : State) (h : Header) (d : ChairId) (loader taking slot target : Byte) (l : LoaderId)
    (i : SlotId) (m : Mode) (k : CtxId) (phase : Phase),
  h.sender = .supervisor →
  s.ready h →
  a = s.heard h.sender →
  loaderOf loader = some l →
  chairOf taking = some d →
  slotOf slot = some i →
  modeOf target = some m →
  (a.loader l).state ∈ [LoaderState.driven, .supervised, .orphaned, .halted, .parked] →
  (a.loader l).heldBy d = false →
  allPass (a.checks3to14 l d i m) →
  a.handover k = none →
  (∀ n, n < k → a.handover n ≠ none) →
  phase = (if (a.loader l).state = .parked ∨ (a.loader l).state = .halted ∨
    ((a.loader l).holder.map (·.mode) = some .supervised ∧ m = .supervised) then .confirming
    else .settling) →
  ∃ t, exec (.force h loader taking slot target) s = .next t ∧
    t.handover k = some
      { loader := l, kind := .force
        releasing := if (a.loader l).state = .orphaned then none
          else (a.loader l).holder.map (·.chair)
        taking := d, slot := some i, target := m, phase := phase
        timer := ⟨1000 * (if phase = .confirming then a.params.confirm else a.params.settle), 0⟩
        suspended := false, watchdog := ⟨2000 * a.params.watchdog, 0⟩
        held := (a.loader l).halt } ∧
    (t.loader l).state = .transfer ∧ (t.loader l).prior = some (a.loader l).state ∧
    (t.loader l).context = some k ∧ (t.loader l).holder = (a.loader l).holder ∧
    (t.loader l).halt = none ∧ (t.loader l).epoch = (a.loader l).epoch ∧
    (t.loader l).holdRefresh = some ⟨500, 0⟩ ∧ (t.loader l).grace = (a.loader l).grace ∧
    t.slot d i = { a.slot d i with contents := .reserved l k } ∧
    a.otherLoaders l t ∧ a.otherHandovers k t ∧ a.otherSlots [(d, i)] t ∧
    a.watch.lockedFor t.watch d l ∧
    t.fleet = a.ordered l .hold ∧
    t.queued .supervisor ⟨h.tag, .reply .force (.ok (.force k phase))⟩ ∧
    a.sameBut [.loaders, .handovers, .chairs, .watch, .lamps, .queues, .supQueue, .fleet] t

/-- An ACCEPT that passes its checks reserves the named slot and enters SETTLING, or CONFIRMING from
supervised to supervised; a YIELD does the same without checks. Either builds one HOLD. That the
checks of an ACCEPT have the clearance among them, whatever took the level out of it, is the model's
reading (log 43). -/
def Obligations.AcceptAndYieldEnterNextPhase : Prop :=
  ∀ (s a : State) (h : Header) (c : ChairId) (panel loader context slot : Byte) (l : LoaderId)
    (k : CtxId) (i : SlotId) (x : Handover) (cmd : Instr) (kind : ReqKind) (phase : Phase)
    (kept : Option SlotId) (reserved : List (ChairId × SlotId)),
  h.sender = .chair c panel →
  s.ready h →
  a = s.heard h.sender →
  loaderOf loader = some l →
  ctxOf context = some k →
  a.inFlight l k x →
  x.suspended = false →
  (cmd = .accept h loader context slot ∧ kind = .accept ∧ x.kind = .offer ∧ x.taking = c ∧
      x.phase = .offered ∧ slotOf slot = some i ∧ allPass (a.checks3to14 l c i x.target) ∧
      kept = some i ∧ reserved = [(c, i)]) ∨
    (cmd = .yield h loader context ∧ kind = .yield ∧ x.kind = .request ∧ x.releasing = some c ∧
      x.phase = .requested ∧ kept = x.slot ∧ reserved = []) →
  phase = (if (a.loader l).prior = some .parked ∨ (a.loader l).prior = some .halted ∨
    ((a.loader l).holder.map (·.mode) = some .supervised ∧ x.target = .supervised) then .confirming
    else .settling) →
  ∃ t, exec cmd s = .next t ∧
    t.handover k = some
      { x with
        slot := kept, phase := phase
        timer := ⟨1000 * (if phase = .confirming then a.params.confirm else a.params.settle), 0⟩ } ∧
    (t.loader l).state = .transfer ∧ (t.loader l).holder = (a.loader l).holder ∧
    (t.loader l).holdRefresh = some ⟨500, 0⟩ ∧
    (phase = .confirming → (a.loader l).holder.map (·.mode) = some .manual →
      (t.loader l).lapse = false ∧ (t.loader l).lapseTimer = none) ∧
    (∀ y ∈ reserved, t.slot y.1 y.2 = { a.slot y.1 y.2 with contents := .reserved l k }) ∧
    a.otherSlots reserved t ∧ a.otherLoaders l t ∧ a.otherHandovers k t ∧
    t.fleet = a.ordered l .hold ∧
    t.queued (.chair c) ⟨h.tag, .reply kind (.ok (.context k))⟩ ∧
    a.sameBut [.loaders, .handovers, .chairs, .queues, .fleet] t

/-- What an abort that reverts leaves: DECLINE, REFUSE and CANCEL, and the expiry of the phase timer
that runs and of the watchdog. The context is free, the taking slot Empty and its pair unlocked, the
loader is back in its prior state with its holder, epoch and position, and the supervisor and the
parties whose links are UP are told the cause. Of a slot only the contents of the taking one change,
and, on a return from CONFIRMING to DRIVEN, the count of the holder's. The mode that the notice
carries is left open (log 10). -/
def Obligations.RevertingAbortsRestoreLoader : Prop :=
  ∀ (s a : State) (l : LoaderId) (k : CtxId) (x : Handover) (prior : LoaderState) (cmd : Instr)
    (cause : Cause),
  (∃ h loader context, loaderOf loader = some l ∧ ctxOf context = some k ∧ s.ready h ∧
      a = s.heard h.sender ∧
      ((∃ panel, h.sender = .chair x.taking panel ∧ cmd = .decline h loader context ∧
          x.kind = .offer ∧ x.phase = .offered ∧ cause = .declined) ∨
        (∃ c panel, h.sender = .chair c panel ∧ x.releasing = some c ∧
          cmd = .refuse h loader context ∧ x.kind = .request ∧ x.phase = .requested ∧
          cause = .refused) ∨
        ((h.sender = .supervisor ∨ ∃ c panel, h.sender = .chair c panel ∧
            (x.taking = c ∨ x.releasing = some c)) ∧
          cmd = .cancel h loader context ∧ cause = .cancelled))) ∨
    (s.inReset = false ∧ a = s ∧
      ((cmd = .answerTimerExpiry k ∧ x.suspended = false ∧
          x.phase ∈ [Phase.offered, .requested] ∧ cause = .answerTimeout) ∨
        (cmd = .settleTimerExpiry k ∧ x.suspended = false ∧ x.phase = .settling ∧
          cause = .settleTimeout) ∨
        (cmd = .confirmTimerExpiry k ∧ x.suspended = false ∧ x.phase = .confirming ∧
          cause = .confirmTimeout) ∨
        (cmd = .watchdogExpiry k ∧ cause = .watchdog))) →
  a.inFlight l k x →
  (a.loader l).prior = some prior →
  prior ∈ [LoaderState.driven, .supervised, .orphaned, .parked, .halted] →
  ∃ t, exec cmd s = .next t ∧
    t.handover k = none ∧
    (t.loader l).state = prior ∧ (t.loader l).prior = none ∧ (t.loader l).context = none ∧
    (t.loader l).holder = (a.loader l).holder ∧ (t.loader l).epoch = (a.loader l).epoch ∧
    (t.loader l).position = (a.loader l).position ∧ (t.loader l).grace = (a.loader l).grace ∧
    (prior = .halted → (t.loader l).halt = x.held) ∧
    (prior ∈ [LoaderState.parked, .halted] → (t.loader l).holdRefresh = some ⟨500, 0⟩ ∧
      t.fleet = a.ordered l .hold) ∧
    (prior ∉ [LoaderState.parked, .halted] → t.fleet = a.fleet) ∧
    (prior = .driven → x.phase = .confirming → (t.loader l).lapse = false ∧
      (t.loader l).lapseTimer = some ⟨a.params.driveLapse, 0⟩) ∧
    (prior = .driven → x.phase ≠ .confirming →
      (t.loader l).lapse = (a.loader l).lapse ∧
      (t.loader l).lapseTimer = (a.loader l).lapseTimer) ∧
    (prior ≠ .driven → (t.loader l).lapse = false ∧ (t.loader l).lapseTimer = none) ∧
    (∀ c, t.chair c = { a.chair c with slots := (t.chair c).slots }) ∧
    (∀ c i, t.slot c i =
      { a.slot c i with
        contents := if c = x.taking ∧ x.slot = some i then .empty else (a.slot c i).contents
        lastCount := if prior = .driven ∧ x.phase = .confirming ∧
            (a.loader l).holder.map (fun y => (y.chair, y.slot)) = some (c, i) then none
          else (a.slot c i).lastCount }) ∧
    (∃ m, ∀ p, (p = .supervisor ∨ ∃ c, p = .chair c ∧ (a.link c).state = .up ∧
        (c = x.taking ∨ x.releasing = some c)) → (a.queue p).frames.length < 29 →
      t.queued p ⟨0, .notice
        (.handoverEnded k l x.kind (some cause) prior x.taking x.slot m 0)⟩) ∧
    t.watch = a.watch.unlock x.taking l ∧
    a.otherLoaders l t ∧ a.otherHandovers k t ∧
    a.sameBut [.loaders, .handovers, .chairs, .watch, .queues, .supQueue, .fleet, .lamps, .zones,
      .closures] t

/-- A CONFIRM in CONFIRMING whose checks pass commits: the taking chair holds the loader with the
next epoch, its pair is locked, the former holder's slot is Empty and its pair unlocked, the zone's
attention flag is set where its class asks for it, and the context is free. -/
def Obligations.ConfirmCommitsHandover : Prop :=
  ∀ (s a : State) (h : Header) (c : ChairId) (panel loader context : Byte) (l : LoaderId)
    (k : CtxId) (i : SlotId) (x : Handover),
  h.sender = .chair c panel →
  s.ready h →
  a = s.heard h.sender →
  loaderOf loader = some l →
  ctxOf context = some k →
  a.inFlight l k x →
  x.taking = c →
  x.slot = some i →
  x.phase = .confirming →
  (x.target = .manual → (a.chair c).neutral = true) →
  allPass (a.checks9to13 l c x.target (a.countedLoad c (some k))) →
  ∃ t, exec (.confirm h loader context) s = .next t ∧
    a.grantedTo t l c i x.target (a.loader l).holder ∧
    (∀ y ∈ (a.loader l).holder, (y.chair, y.slot) ≠ (c, i) →
      t.slot y.chair y.slot = { a.slot y.chair y.slot with contents := .empty }) ∧
    t.handover k = none ∧ a.otherHandovers k t ∧
    t.queued (.chair c) ⟨h.tag, .reply .confirm (.ok (.context k))⟩ ∧
    a.sameBut [.loaders, .handovers, .chairs, .zones, .lamps, .watch, .queues, .supQueue] t

/-- A CONFIRM with a manual target whose own panel byte does not show the controls neutral is
refused NOT_NEUTRAL, and the handover stays as it was. One that fails a check at the commit is
answered with its reason, and the handover is aborted. -/
def Obligations.ConfirmFailures : Prop :=
  ∀ (s a : State) (h : Header) (c : ChairId) (panel loader context : Byte) (l : LoaderId)
    (k : CtxId) (x : Handover) (prior : LoaderState),
  h.sender = .chair c panel →
  s.ready h →
  a = s.heard h.sender →
  loaderOf loader = some l →
  ctxOf context = some k →
  a.inFlight l k x →
  x.taking = c →
  x.phase = .confirming →
  (x.target = .manual → panelNeutral panel = false →
    exec (.confirm h loader context) s = .next { a with
      queues := a.joined c ⟨h.tag, .reply .confirm (.refused .notNeutral)⟩ }) ∧
  ((x.target = .manual → panelNeutral panel = true) → (a.loader l).prior = some prior →
    prior ∈ [LoaderState.driven, .supervised, .orphaned, .parked, .halted] →
    ∀ r, firstFailing (a.checks9to13 l c x.target (a.countedLoad c (some k))) = some r →
    ∃ t, exec (.confirm h loader context) s = .next t ∧
      t.handover k = none ∧ (t.loader l).state = prior ∧
      (t.loader l).holder = (a.loader l).holder ∧ (t.loader l).epoch = (a.loader l).epoch ∧
      a.otherLoaders l t ∧ a.otherHandovers k t ∧
      t.queued (.chair c) ⟨h.tag, .reply .confirm (.refused r)⟩)

/-- The answers to a handover, and SUSPEND and RESUME, are examined in the order of 04 R67 from its
third step on: that the loader and the context name each other and the context is in use, then the
party, the phase and the suspension, each where the command tests it, and for ACCEPT the grant
checks and for CONFIRM the controls. A refusal changes nothing else. The model's readings: a handover
of the wrong kind is refused NOT_PARTY (log 22), and an ACCEPT is refused CLEARANCE also where the
level left the chair's clearance after the OFFER (log 43). -/
def Obligations.AnswersAreExaminedInOrder : Prop :=
  ∀ (s a : State) (h : Header) (loader context slot : Byte) (l : LoaderId) (k : CtxId) (i : SlotId)
    (x : Handover) (cmd : Instr) (kind : ReqKind) (checks : List Check) (r : Reason),
  s.ready h →
  a = s.heard h.sender →
  loaderOf loader = some l →
  ctxOf context = some k →
  slotOf slot = some i →
  (a.loader l).state ≠ .unenrolled →
  a.handover k ∈ [none, some x] →
  (∃ c panel, h.sender = .chair c panel ∧ (cmd, kind, checks) ∈
      [(.accept h loader context slot, .accept,
          [(x.kind == .offer && x.taking == c, .notParty), (x.phase == .offered, .phase),
            (!x.suspended, .suspended)] ++ a.checks3to14 x.loader c i x.target),
        (.yield h loader context, .yield,
          [(x.kind == .request && x.releasing == some c, .notParty),
            (x.phase == .requested, .phase), (!x.suspended, .suspended)]),
        (.decline h loader context, .decline,
          [(x.kind == .offer && x.taking == c, .notParty), (x.phase == .offered, .phase)]),
        (.refuse h loader context, .refuse,
          [(x.kind == .request && x.releasing == some c, .notParty),
            (x.phase == .requested, .phase)]),
        (.confirm h loader context, .confirm,
          [(x.taking == c, .notParty), (x.phase == .confirming, .phase),
            (x.target == .supervised || (a.chair c).neutral, .notNeutral)]),
        (.cancel h loader context, .cancel,
          [(x.taking == c || x.releasing == some c, .notParty)])]) ∨
    (h.sender = .supervisor ∧ (cmd, kind, checks) ∈
      [(.cancel h loader context, .cancel, []),
        (.suspend h loader context, .suspend,
          [(x.phase != .confirming, .phase), (!x.suspended, .suspended)]),
        (.resume h loader context, .resume, [(x.suspended, .phase)])]) →
  firstFailing (((a.loader l).state == .transfer && (a.loader l).context == some k &&
    (a.handover k).isSome, Reason.noHandover) :: checks) = some r →
  exec cmd s = .next (a.modQueue h.sender.port (·.join ⟨h.tag, .reply kind (.refused r)⟩))

/-- SUSPEND keeps the phase timer with the time it has left and leaves the watchdog; the hold
refresh ends unless drive lapse wants it. RESUME lets an answer timer run on from the time it kept,
and starts SETTLING again from the full settle time under a fresh HOLD. -/
def Obligations.SuspendFreezesAndResumeGoesOn : Prop :=
  ∀ (s a : State) (h : Header) (loader context : Byte) (l : LoaderId) (k : CtxId) (x : Handover),
  h.sender = .supervisor →
  s.ready h →
  a = s.heard h.sender →
  loaderOf loader = some l →
  ctxOf context = some k →
  a.inFlight l k x →
  (x.phase ≠ .confirming → x.suspended = false → ∃ t, exec (.suspend h loader context) s = .next t ∧
    t.handover k = some { x with suspended := true } ∧
    t.loader l =
      { a.loader l with
        holdRefresh := if (a.loader l).lapse = true then (a.loader l).holdRefresh else none } ∧
    a.otherLoaders l t ∧ a.otherHandovers k t ∧
    t.supQueue = a.supQueue.join ⟨h.tag, .reply .suspend (.ok (.context k))⟩ ∧
    a.sameBut [.loaders, .handovers, .queues, .supQueue] t) ∧
  (x.suspended = true → ∃ t, exec (.resume h loader context) s = .next t ∧
    t.handover k = some
      { x with
        suspended := false
        timer := if x.phase = .settling then ⟨1000 * a.params.settle, 0⟩ else x.timer } ∧
    t.loader l =
      (if x.phase = .settling then { a.loader l with holdRefresh := some ⟨500, 0⟩ }
      else a.loader l) ∧
    t.fleet = (if x.phase = .settling then a.ordered l .hold else a.fleet) ∧
    a.otherLoaders l t ∧ a.otherHandovers k t ∧
    t.supQueue = a.supQueue.join ⟨h.tag, .reply .resume (.ok (.context k))⟩ ∧
    a.sameBut [.loaders, .handovers, .queues, .supQueue, .fleet] t)

/-- At the expiry of an orphan grace timer an ORPHANED loader is halted with cause CHAIR_LINK; one
in a handover forced from ORPHANED has it aborted with LINK_R first, and is halted alike. -/
def Obligations.GraceExpiryHaltsOrphan : Prop :=
  ∀ (s : State) (l : LoaderId),
  s.inReset = false →
  (s.loader l).grace.isSome = true →
  ((s.loader l).state = .orphaned → ∃ t, exec (.orphanGraceExpiry l) s = .next t ∧
    (s.loader l).haltedBy (t.loader l) .chairLink s.seconds ∧
    s.otherLoaders l t ∧ t.fleet = s.ordered l .hold ∧
    (∀ x ∈ (s.loader l).holder, (t.slot x.chair x.slot).contents = .empty) ∧
    s.sameBut [.loaders, .chairs, .watch, .queues, .supQueue, .fleet, .lamps, .zones, .closures] t) ∧
  (∀ k x, s.inFlight l k x → (s.loader l).prior = some .orphaned →
    ∃ t, exec (.orphanGraceExpiry l) s = .next t ∧
      (s.loader l).haltedBy (t.loader l) .chairLink s.seconds ∧
      t.handover k = none ∧ s.otherLoaders l t ∧ s.otherHandovers k t ∧
      t.fleet = s.ordered l .hold ∧
      (s.supQueue.frames = [] → ∃ m, t.queued .supervisor ⟨0, .notice
        (.handoverEnded k l x.kind (some .linkR) .halted x.taking x.slot m 0)⟩))

/-! ## Loader records -/

/-- ENROL writes a fresh PARKED record under HOLD, its silence timer started, and fills the map
entry. RETIRE empties the map entry, the watches and the forwarded reports of the loader, and its
record becomes UNENROLLED; no order is built. What that record holds beside its state, all of
`Loader.blank`, is the model's choice (log 32), and so is the reply's place before the removal of
the reports (log 33). -/
def Obligations.EnrolAndRetireWriteRecord : Prop :=
  ∀ (s a : State) (h : Header) (loader : Byte) (address : Word16) (l : LoaderId),
  h.sender = .supervisor →
  s.ready h →
  a = s.heard h.sender →
  loaderOf loader = some l →
  ((a.loader l).state = .unenrolled → address ≠ 0 → address ≠ 65535 →
    (∀ n : LoaderId, a.radioMap[n] ≠ some address) →
    exec (.enrol h loader address) s = .next { a with
      loaders := a.loaders.set l
        { state := .parked, holder := none, lastHolder := none, epoch := 0, prior := none
          context := none, position := none, lastReported := none, source := .reported
          age := 65535, stationary := false, onboard := .atMachine, mission := .idle
          lastCount := none
          silence := ⟨0, a.params.manualSilence, 1000 * a.params.supervisedSilence⟩
          radioSilent := false, lapse := false, lapseTimer := none
          holdRefresh := some ⟨500, 0⟩, grace := none, halt := none }
      radioMap := a.radioMap.set l (some address)
      fleet := a.fleet.join ⟨l, address, .hold⟩
      supQueue := a.supQueue.join ⟨h.tag, .reply .enrol (.ok (.loader l))⟩ }) ∧
  ((a.loader l).state ∈ [LoaderState.parked, .halted, .isolated] →
    ∃ t, exec (.retire h loader) s = .next t ∧
      t.loader l = Loader.blank ∧ t.radioMap = a.radioMap.set l none ∧ a.otherLoaders l t ∧
      (∀ n : PinnedId, t.watch.pinned[n] = (a.watch.pinned[n]).filter (·.loader != l)) ∧
      (∀ n : SetId, t.watch.openSets[n] =
        { a.watch.openSets[n] with
          way0 := (a.watch.openSets[n]).way0.filter (·.2 != l)
          way1 := (a.watch.openSets[n]).way1.filter (·.2 != l) }) ∧
      (∀ c, t.queue (.chair c) =
        { a.queue (.chair c) with
          frames := (a.queue (.chair c)).frames.filter (·.reportOf != some l) }) ∧
      t.supQueue =
        { a.supQueue.join ⟨h.tag, .reply .retire (.ok (.loader l))⟩ with
          frames := (a.supQueue.join ⟨h.tag, .reply .retire (.ok (.loader l))⟩).frames.filter
            (·.reportOf != some l) } ∧
      a.sameBut [.loaders, .radioMap, .watch, .queues, .supQueue, .lamps] t)

/-- A report for an address that no map entry holds is counted unknown, one with a meaningless code
is a bad frame, and a repeated or overtaken one changes nothing. -/
def Obligations.ReportsNotAccepted : Prop :=
  ∀ (s : State) (tag : Byte) (f : StatusFields),
  s.inReset = false →
  ((∀ n : LoaderId, s.radioMap[n] ≠ some f.address) →
    exec (.statusReport tag f) s = .next { s with
      fleet := { s.fleet with unknown := min 65535 (s.fleet.unknown + 1) } }) ∧
  (∀ l : LoaderId, s.radioMap[l] = some f.address →
    (∀ n : LoaderId, n < l → s.radioMap[n] ≠ some f.address) →
    (frontOf f.front = none ∨ onboardOf f.onboard = none ∨ missionOf f.mission = none →
      exec (.statusReport tag f) s = .next { s with
        fleet := { s.fleet with badFrames := min 65535 (s.fleet.badFrames + 1) } }) ∧
    ((frontOf f.front).isSome = true → (onboardOf f.onboard).isSome = true →
      (missionOf f.mission).isSome = true →
      (∃ m, (s.loader l).lastCount = some m ∧ (f.count = m ∨ 128 ≤ (f.count - m).toNat)) →
      exec (.statusReport tag f) s = .next s))

/-- An accepted report writes its fields into the record, restarts the silence timer and the
position age, and reaches a chair that watches, where its queue was empty. A loader that is DRIVEN,
SUPERVISED or ORPHANED is halted when the report shows local control, and else when its ground gives
a cause. With no cause a SUPERVISED or ORPHANED loader sets the entered flag of its zone, and every
loader with authority the attention flag of a class-1 or class-3 zone, of which the supervisor is
told while attention notices are on. For one in TRANSFER these end the handover; else a stationary
report ends a SETTLING that is not suspended, and a moving one sends a CONFIRMING toward manual mode
back to SETTLING. Of these, the HOLD that a halted loader forced from HALTED gets (log 11), and that
one forced from ORPHANED is judged as held in supervised mode (log 23), are the model's reading. -/
def Obligations.AcceptedReportWritesRecord : Prop :=
  ∀ (s : State) (tag : Byte) (f : StatusFields) (l : LoaderId) (d : FrontSense) (o : Onboard)
    (m : Mission) (r : Loader) (p : Position) (cause : Option Cause),
  s.inReset = false →
  s.radioMap[l] = some f.address →
  (∀ n : LoaderId, n < l → s.radioMap[n] ≠ some f.address) →
  frontOf f.front = some d →
  onboardOf f.onboard = some o →
  missionOf f.mission = some m →
  (∀ n ∈ (s.loader l).lastCount, f.count ≠ n ∧ (f.count - n).toNat < 128) →
  p = ⟨f.zone.toFin, min 5119 f.chainage.toNat, d⟩ →
  r = { s.loader l with
    lastCount := some f.count, lastReported := some p
    position := if (s.loader l).source = .reported then some p else (s.loader l).position
    silence := ⟨0, s.params.manualSilence, 1000 * s.params.supervisedSilence⟩
    radioSilent := false, age := 0, stationary := f.stationary != 0, onboard := o, mission := m } →
  cause = (if o = .atMachine then some .atMachine else r.position.bind
    (s.groundCause (s.judgedMode l) ((s.loader l).position.map (·.zone)))) →
  ∃ t, exec (.statusReport tag f) s = .next t ∧
    ((s.loader l).hasAuthority = false → t.loader l = r) ∧
    ((s.loader l).state ∈ [LoaderState.driven, .supervised, .orphaned] →
      (∀ x ∈ cause, r.haltedBy (t.loader l) x s.seconds ∧ t.fleet = s.ordered l .hold) ∧
      (cause = none → t.loader l = r ∧ t.fleet = s.fleet)) ∧
    (∀ k x, s.transferLaw → s.holderLaw → s.inFlight l k x →
      (∀ y ∈ cause, s.judgedInFlight t l k x r y) ∧
      (cause = none →
        (x.phase = .settling → x.suspended = false → f.stationary ≠ 0 →
          t.handover k = some
            { x with phase := .confirming, timer := ⟨1000 * s.params.confirm, 0⟩ } ∧
          t.loader l =
            { r with
              lapse := if r.heldMode = some .manual then false else r.lapse
              lapseTimer := if r.heldMode = some .manual then none else r.lapseTimer
              holdRefresh := some ⟨500, 0⟩ } ∧
          t.fleet = s.ordered l .hold) ∧
        (x.phase = .confirming → x.suspended = false → x.target = .manual → f.stationary = 0 →
          t.handover k = some
            { x with phase := .settling, timer := ⟨1000 * s.params.settle, 0⟩ } ∧
          t.loader l =
            { r with
              lapse := if r.heldMode = some .manual then false else r.lapse
              lapseTimer := if r.heldMode = some .manual then some ⟨s.params.driveLapse, 0⟩
                else r.lapseTimer
              holdRefresh := some ⟨500, 0⟩ } ∧
          t.fleet = s.ordered l .hold) ∧
        (¬ (x.phase = .settling ∧ x.suspended = false ∧ f.stationary ≠ 0) →
          ¬ (x.phase = .confirming ∧ x.target = .manual ∧ f.stationary = 0) →
          t.handover k = some x ∧ t.loader l = r ∧ t.fleet = s.fleet)) ∧
      s.otherLoaders l t ∧ s.otherHandovers k t ∧
      s.sameBut [.loaders, .handovers, .chairs, .lamps, .watch, .queues, .supQueue, .fleet, .zones,
        .closures] t) ∧
    ((s.loader l).state ≠ .transfer → s.otherLoaders l t ∧
      s.sameBut [.loaders, .chairs, .lamps, .watch, .queues, .supQueue, .fleet, .zones, .closures]
        t) ∧
    ((s.loader l).state ≠ .transfer ∨ (s.transferLaw ∧ s.holderLaw) →
      ∀ z, (s.zone z).closing = none ∨
          (cause = none ∧ (s.loader l).hasAuthority = true ∧ r.inZone z = true) →
        t.zone z =
          { s.zone z with
            entered := (s.zone z).entered || (cause.isNone && r.inZone z &&
              ((s.loader l).state == .supervised || (s.loader l).state == .orphaned))
            attention := (s.zone z).attention || (cause.isNone && r.inZone z &&
              (s.loader l).hasAuthority &&
              ((s.zone z).cls == .autoFlagged || (s.zone z).cls == .openFlagged)) } ∧
        ((s.zone z).attention = false → (t.zone z).attention = true →
          s.params.attention ≠ 0 → s.supQueue.frames = [] →
          t.queued .supervisor ⟨0, .notice (.zoneAttention z (s.zone z).cls l
            ((s.loader l).holder.map (·.chair)) s.seconds)⟩)) ∧
    (∀ c, (s.link c).state = .up → s.watch.watches c l = true →
      (s.queue (.chair c)).frames = [] →
      t.queued (.chair c) ⟨0, .report ⟨l, f.count, p.zone, p.chainage, d, speedOf f.speed,
        f.stationary != 0, o, m⟩⟩)

/-- FIX_POSITION gives a loader the named position with age 0 and leaves the rest of its record,
unless it has authority and the new ground gives a cause: then a DRIVEN, SUPERVISED or ORPHANED
loader is halted, and the handover of one in TRANSFER ended. A loader with authority whose new
ground gives no cause sets the attention flag of a class-1 or class-3 zone; no fix sets the entered
flag. FREE_POSITION gives the source back to the reports, with the age at its greatest, and leaves a
loader whose source is Reported as it was. The reply's state after the checks (log 14), the HOLD
that a halted loader forced from HALTED gets (log 11), and that one forced from ORPHANED is judged
as held in supervised mode (log 23), are the model's reading. -/
def Obligations.PositionSourceRequests : Prop :=
  ∀ (s a : State) (h : Header) (loader zone front : Byte) (chainage : Word16) (l : LoaderId)
    (d : FrontSense) (p : Position) (r : Loader) (cause : Option Cause),
  h.sender = .supervisor →
  s.ready h →
  a = s.heard h.sender →
  loaderOf loader = some l →
  frontOf front = some d →
  (a.loader l).state ≠ .unenrolled →
  p = ⟨zone.toFin, min 5119 chainage.toNat, d⟩ →
  r = { a.loader l with source := .fixed, position := some p, age := 0 } →
  cause = a.groundCause (a.judgedMode l) ((a.loader l).position.map (·.zone)) p →
  (∃ t, exec (.fixPosition h loader zone chainage front) s = .next t ∧
    ((a.loader l).hasAuthority = false ∨ cause = none → t.loader l = r ∧
      a.sameBut [.loaders, .lamps, .zones, .closures, .supQueue] t) ∧
    (∀ y ∈ cause, ((a.loader l).state ∈ [LoaderState.driven, .supervised, .orphaned] →
        r.haltedBy (t.loader l) y a.seconds ∧ t.fleet = a.ordered l .hold ∧
        (∀ x ∈ r.holder, (t.slot x.chair x.slot).contents = .empty) ∧
        t.handovers = a.handovers) ∧
      ∀ k x, a.transferLaw → a.holderLaw → a.inFlight l k x →
        a.judgedInFlight t l k x r y ∧ a.otherHandovers k t) ∧
    ((a.loader l).state ≠ .transfer ∨ a.transferLaw → a.otherLoaders l t) ∧
    ((a.loader l).state ≠ .transfer ∨ (a.transferLaw ∧ a.holderLaw) →
      ∀ z, (a.zone z).closing = none ∨
          (cause = none ∧ (a.loader l).hasAuthority = true ∧ r.inZone z = true) →
        t.zone z =
          { a.zone z with
            attention := (a.zone z).attention || (cause.isNone && r.inZone z &&
              (a.loader l).hasAuthority &&
              ((a.zone z).cls == .autoFlagged || (a.zone z).cls == .openFlagged)) } ∧
        ((a.zone z).attention = false → (t.zone z).attention = true →
          a.params.attention ≠ 0 → a.supQueue.frames = [] →
          t.queued .supervisor ⟨0, .notice (.zoneAttention z (a.zone z).cls l
            ((a.loader l).holder.map (·.chair)) a.seconds)⟩)) ∧
    t.queued .supervisor
      ⟨h.tag, .reply .fixPosition (.ok (.fix l (t.loader l).state))⟩ ∧
    a.sameBut [.loaders, .handovers, .chairs, .lamps, .watch, .queues, .supQueue, .fleet, .zones,
      .closures] t) ∧
  exec (.freePosition h loader) s = .next { a with
    loaders := if (a.loader l).source = .fixed then
        a.loaders.set l { a.loader l with source := .reported, age := 65535 }
      else a.loaders
    supQueue := a.supQueue.join ⟨h.tag, .reply .freePosition (.ok (.loader l))⟩ }

/-- At the silence expiry a loader is marked radio-silent, once for each silence, and one that is
DRIVEN, SUPERVISED or ORPHANED is halted with cause RADIO; the handover of one in TRANSFER is ended
with that cause, which halts it. At the lapse expiry drive lapse begins under HOLD. A refresh expiry
sends a further HOLD while a hold condition holds, and stops the refresh timer otherwise. The HOLD
for a loader forced from HALTED is the model's reading (log 11). -/
def Obligations.LoaderTimersExpire : Prop :=
  ∀ (s : State) (l : LoaderId),
  s.inReset = false →
  ((s.loader l).radioSilent = true → exec (.silenceTimerExpiry l) s = .next s) ∧
  ((s.loader l).radioSilent = false → (s.loader l).state ∉ [.unenrolled, .transfer] →
    ∃ t, exec (.silenceTimerExpiry l) s = .next t ∧
    (if (s.loader l).hasAuthority = true then
        ({ s.loader l with radioSilent := true, silence := (t.loader l).silence }).haltedBy
          (t.loader l) .radio s.seconds ∧ t.fleet = s.ordered l .hold ∧
          ∀ x ∈ (s.loader l).holder, (t.slot x.chair x.slot).contents = .empty
      else t.loader l =
          { s.loader l with radioSilent := true, silence := (t.loader l).silence } ∧
        t.fleet = s.fleet) ∧
    s.otherLoaders l t ∧
    s.sameBut [.loaders, .chairs, .watch, .queues, .supQueue, .fleet, .lamps, .zones, .closures]
      t) ∧
  (∀ k x, (s.loader l).radioSilent = false → s.inFlight l k x →
    ∃ t, exec (.silenceTimerExpiry l) s = .next t ∧
    Loader.haltedFrom { s.loader l with radioSilent := true, silence := (t.loader l).silence }
      (t.loader l) x.held .radio s.seconds ∧
    t.handover k = none ∧ t.fleet = s.ordered l .hold ∧
    (∀ y ∈ (s.loader l).holder, (t.slot y.chair y.slot).contents = .empty) ∧
    (∀ i ∈ x.slot, (t.slot x.taking i).contents = .empty) ∧
    (s.supQueue.frames = [] → ∃ m, t.queued .supervisor ⟨0, .notice
      (.handoverEnded k l x.kind (some .radio) .halted x.taking x.slot m 0)⟩) ∧
    s.otherLoaders l t ∧ s.otherHandovers k t ∧
    s.sameBut [.loaders, .handovers, .chairs, .watch, .queues, .supQueue, .fleet, .lamps, .zones,
      .closures] t) ∧
  ((s.loader l).lapseTimer.isSome = true → exec (.lapseTimerExpiry l) s = .next { s with
    loaders := s.loaders.set l
      { s.loader l with lapse := true, lapseTimer := none, holdRefresh := some ⟨500, 0⟩ }
    fleet := s.ordered l .hold }) ∧
  ((s.loader l).holdRefresh.isSome = true →
    (s.loader l).state ∈ [LoaderState.parked, .halted, .isolated] ∨ (s.loader l).lapse = true ∨
      (∃ k x, s.inFlight l k x ∧
        (x.phase = .confirming ∨ x.phase = .settling ∧ x.suspended = false)) →
    exec (.holdRefreshExpiry l) s = .next { s with
      loaders := s.loaders.set l { s.loader l with holdRefresh := some ⟨500, 0⟩ }
      fleet := s.ordered l .hold }) ∧
  ((s.loader l).holdRefresh.isSome = true →
    (s.loader l).state ∈ [LoaderState.driven, .supervised, .orphaned] →
    (s.loader l).lapse = false →
    exec (.holdRefreshExpiry l) s = .next { s with
      loaders := s.loaders.set l { s.loader l with holdRefresh := none } })

/-! ## Zones, closures and barriers -/

/-- SET_ZONE stores the class, the saturated open length, the measured-from and the saturated cap,
and clears both flags. It is refused BUSY for a Closing zone, and OCCUPIED when a loader with
authority in the zone would be stranded; a refusal changes nothing. A loader forced from ORPHANED is
judged as held in supervised mode, which is the model's reading (log 23). -/
def Obligations.SetZoneStoresUnlessStranding : Prop :=
  ∀ (s a : State) (h : Header) (zone cls openLength measuredFrom cap : Byte) (z : ZoneId)
    (x : ZoneClass) (m : MeasuredFrom) (new : Zone) (stranded : Bool),
  h.sender = .supervisor →
  s.ready h →
  a = s.heard h.sender →
  z.val = zone.toNat →
  classOf cls = some x →
  measuredFromOf measuredFrom = some m →
  new = ⟨x, min 128 openLength.toNat, m, min 80 cap.toNat, false, false, none⟩ →
  (stranded = true ↔ ∃ l, (a.loader l).hasAuthority = true ∧
    ∃ p ∈ (a.loader l).position, p.zone = z ∧
      (x = .closed ∨ new.holdsSegment p = false ∨
        (x.open .manual = false ∧
          (a.judgedMode l = .manual ∨ ((a.loader l).state = .transfer ∧
            ∃ y ∈ a.handoverOf l, y.target = .manual))))) →
  exec (.setZone h zone cls openLength measuredFrom cap) s =
    if (a.zone z).closing.isSome = true then
      .next { a with supQueue := a.supQueue.join ⟨h.tag, .reply .setZone (.refused .busy)⟩ }
    else if stranded = true then
      .next { a with supQueue := a.supQueue.join ⟨h.tag, .reply .setZone (.refused .occupied)⟩ }
    else
      .next { a with
        zones := a.zones.set z new
        supQueue := a.supQueue.join
          ⟨h.tag, .reply .setZone (.ok (.zone z x new.openLength m new.cap))⟩ }

/-- CLOSE_ZONE takes the lowest free closure context, with its time saturated to 10 to 600 s, and
ends the handovers of the loaders in the zone, which revert to their prior states. Where it ended
none, the holder of a loader in the zone receives EVACUATE, if its link is UP and its queue was
empty. With no loader with authority left in the zone the closure completes at once. A Closing zone
is refused BUSY, and a fifth closure FULL; that BUSY comes before FULL is the model's choice (log
39). CANCEL_CLOSURE frees the context and leaves the class and the flags; without a closure it is
refused. -/
def Obligations.ClosureBeginsAndIsCancelled : Prop :=
  ∀ (s a : State) (h : Header) (zone : Byte) (time : Word16) (z : ZoneId) (k : ClosureId)
    (stored : Nat),
  h.sender = .supervisor →
  s.ready h →
  a = s.heard h.sender →
  z.val = zone.toNat →
  stored = max 10 (min 600 time.toNat) →
  ((a.zone z).closing = none → a.closure k = none → (∀ n, n < k → a.closure n ≠ none) →
    (∀ n, ∀ x ∈ a.handover n, (a.loader x.loader).inZone z = false) →
    ∃ t, exec (.closeZone h zone time) s = .next t ∧
      (if ∃ l, (a.loader l).hasAuthority = true ∧ (a.loader l).inZone z = true then
        t.closure k = some ⟨z, stored, ⟨1000 * stored, 0⟩, s.seconds⟩ ∧
          t.zone z = { a.zone z with closing := some k } ∧
          (∀ l, (a.loader l).hasAuthority = true → (a.loader l).inZone z = true →
            ∀ c, (a.loader l).heldBy c = true → (a.link c).state = .up →
              (a.queue (.chair c)).frames = [] →
              t.queued (.chair c) ⟨0, .notice (.evacuate z l stored)⟩)
      else
        t.closure k = none ∧
          t.zone z =
            { a.zone z with
              cls := .closed, entered := false, attention := false, closing := none }) ∧
      t.queued .supervisor ⟨h.tag, .reply .closeZone (.ok (.closure k stored))⟩ ∧
      (∀ n, n ≠ k → t.closure n = a.closure n) ∧ (∀ y, y ≠ z → t.zone y = a.zone y) ∧
      a.sameBut [.closures, .zones, .queues, .supQueue] t) ∧
  ((a.zone z).closing = none → a.closure k = none → (∀ n, n < k → a.closure n ≠ none) →
    a.transferLaw →
    ∃ t, exec (.closeZone h zone time) s = .next t ∧
      (∀ n, t.handover n =
        if ∃ x ∈ a.handover n, (a.loader x.loader).inZone z = true then none else a.handover n) ∧
      (∀ l n x, a.inFlight l n x → (a.loader l).inZone z = true →
        (a.loader l).prior = some (t.loader l).state ∧ (t.loader l).prior = none ∧
          (t.loader l).context = none ∧ (t.loader l).holder = (a.loader l).holder ∧
          (t.loader l).epoch = (a.loader l).epoch ∧
          (t.loader l).position = (a.loader l).position ∧
          ((t.loader l).state = .halted → (t.loader l).halt = x.held) ∧
          ∀ i ∈ x.slot, (t.slot x.taking i).contents = .empty) ∧
      (∀ l, (a.loader l).state ≠ .transfer ∨ (a.loader l).inZone z = false →
        t.loader l = a.loader l) ∧
      (if ∃ l, (t.loader l).hasAuthority = true ∧ (t.loader l).inZone z = true then
        t.closure k = some ⟨z, stored, ⟨1000 * stored, 0⟩, s.seconds⟩ ∧
          t.zone z = { a.zone z with closing := some k }
      else
        t.closure k = none ∧
          t.zone z =
            { a.zone z with
              cls := .closed, entered := false, attention := false, closing := none }) ∧
      t.queued .supervisor ⟨h.tag, .reply .closeZone (.ok (.closure k stored))⟩ ∧
      (∀ n, n ≠ k → t.closure n = a.closure n) ∧ (∀ y, y ≠ z → t.zone y = a.zone y) ∧
      a.sameBut [.closures, .zones, .queues, .supQueue, .loaders, .handovers, .chairs, .watch,
        .fleet, .lamps] t) ∧
  ((a.zone z).closing.isSome = true → exec (.closeZone h zone time) s = .next { a with
    supQueue := a.supQueue.join ⟨h.tag, .reply .closeZone (.refused .busy)⟩ }) ∧
  ((a.zone z).closing = none → (∀ n, a.closure n ≠ none) →
    exec (.closeZone h zone time) s = .next { a with
      supQueue := a.supQueue.join ⟨h.tag, .reply .closeZone (.refused .full)⟩ }) ∧
  (∀ n, (a.zone z).closing = some n → exec (.cancelClosure h zone) s = .next { a with
    closures := a.closures.set n none
    zones := a.zones.set z { a.zone z with closing := none }
    supQueue := a.supQueue.join ⟨h.tag, .reply .cancelClosure (.ok (.zoneOnly z))⟩ }) ∧
  ((a.zone z).closing = none → exec (.cancelClosure h zone) s = .next { a with
    supQueue := a.supQueue.join ⟨h.tag, .reply .cancelClosure (.refused .noClosure)⟩ })

/-- At the expiry of a closure timer every loader with authority in the zone is halted with cause
ZONE_CLOSED, the handovers of those in TRANSFER ended, and the closure completes. That the hold
refresh of a loader forced from HALTED starts again is the model's reading (log 11). -/
def Obligations.ClosureExpiryTakesAuthority : Prop :=
  ∀ (s : State) (k : ClosureId) (x : Closure) (covered : LoaderId → Bool),
  s.inReset = false →
  s.transferLaw →
  s.closure k = some x →
  (s.zone x.zone).closing = some k →
  covered = (fun l => (s.loader l).hasAuthority && (s.loader l).inZone x.zone) →
  ∃ t, exec (.closureTimerExpiry k) s = .next t ∧
    (∀ l, covered l = true → (t.loader l).state = .halted ∧ (t.loader l).holder = none) ∧
    (∀ l, covered l = true → (s.loader l).state ≠ .transfer →
      (s.loader l).haltedBy (t.loader l) .zoneClosed s.seconds) ∧
    (∀ l n y, covered l = true → s.inFlight l n y →
      (s.loader l).haltedFrom (t.loader l) y.held .zoneClosed s.seconds) ∧
    (∀ l, covered l = false → t.loader l = s.loader l) ∧
    (∀ n, ∀ y ∈ s.handover n, t.handover n = if covered y.loader = true then none else some y) ∧
    t.closure k = none ∧ (∀ n, n ≠ k → t.closure n = s.closure n) ∧
    t.zone x.zone =
      { s.zone x.zone with
        cls := .closed, entered := false, attention := false, closing := none } ∧
    (∀ z, z ≠ x.zone → t.zone z = s.zone z) ∧
    s.sameBut [.loaders, .handovers, .chairs, .watch, .queues, .supQueue, .fleet, .lamps, .zones,
      .closures] t

/-- A breach of a level halts the SUPERVISED and ORPHANED loaders on it with cause BARRIER, and ends
the handovers of loaders on it in which either mode is supervised; other levels keep theirs. The
loader of an ended handover reverts to its prior state and, where that is SUPERVISED or ORPHANED, is
halted with cause BARRIER. The release of a barrier restores nothing. A level that does not change
is no event (log 17). That a loader forced from ORPHANED counts as held in supervised mode is the
model's reading (log 23). -/
def Obligations.BarrierBreachHaltsSupervised : Prop :=
  ∀ (s : State) (n : LevelId),
  s.inReset = false →
  (s.barriers[n] = false → ∃ t, exec (.barrierBreach n) s = .next t ∧
    t.barriers = s.barriers.set n true ∧
    t.inputs = { s.inputs with barriers := s.inputs.barriers.set n true } ∧
    (∀ l, (∀ k, ∀ x ∈ s.handover k, x.loader ≠ l) →
      if (s.loader l).state ∈ [LoaderState.supervised, .orphaned] ∧ (s.loader l).onLevel n = true
      then (s.loader l).haltedBy (t.loader l) .barrier s.seconds
      else t.loader l = s.loader l) ∧
    (∀ k, ∀ x ∈ s.handover k, t.handover k =
      if (s.loader x.loader).onLevel n = true ∧
        ((s.loader x.loader).holder.map (·.mode) = some .supervised ∨ x.target = .supervised)
      then none else some x) ∧
    (∀ l k x p, s.transferLaw → s.inFlight l k x → (s.loader l).prior = some p →
      if (s.loader l).onLevel n = true ∧
        ((s.loader l).holder.map (·.mode) = some .supervised ∨ x.target = .supervised) then
        (∀ i ∈ x.slot, (t.slot x.taking i).contents = .empty) ∧
        (p ∈ [LoaderState.supervised, .orphaned] →
          (s.loader l).haltedBy (t.loader l) .barrier s.seconds) ∧
        (p = .driven → t.loader l =
          { s.loader l with
            state := .driven, prior := none, context := none
            lapse := (s.loader l).lapse && x.phase != .confirming
            lapseTimer := if x.phase = .confirming then some ⟨s.params.driveLapse, 0⟩
              else (s.loader l).lapseTimer
            holdRefresh := if (s.loader l).lapse = true ∧ x.phase ≠ .confirming then
              (s.loader l).holdRefresh else none }) ∧
        (p ∈ [LoaderState.parked, .halted] → (s.loader l).backFrom (t.loader l) x.held)
      else t.loader l = s.loader l) ∧
    s.sameBut [.barriers, .inputs, .loaders, .handovers, .chairs, .watch, .queues, .supQueue,
      .fleet, .lamps, .zones, .closures] t) ∧
  (s.barriers[n] = true → exec (.barrierRelease n) s = .next { s with
    barriers := s.barriers.set n false
    inputs := { s.inputs with barriers := s.inputs.barriers.set n false }
    supQueue := s.supQueue.join ⟨0, .notice (.barrierChange n false 0 0)⟩ }) ∧
  (s.barriers[n] = true → exec (.barrierBreach n) s = .next { s with
    inputs := { s.inputs with barriers := s.inputs.barriers.set n true } }) ∧
  (s.barriers[n] = false → exec (.barrierRelease n) s = .next { s with
    inputs := { s.inputs with barriers := s.inputs.barriers.set n false } })

/-! ## The drive gate -/

/-- A drive frame that passes its checks is forwarded, its numbers saturated and its speed clamped
to the envelope with its sign kept. It is counted as clamped or as accepted, with the frames missing
before it, and ends drive lapse; a speed other than 0 marks the zone entered, and a class-4 zone
takes its attention flag. -/
def Obligations.DriveFrameIsClampedAndForwarded : Prop :=
  ∀ (s a : State) (c : ChairId) (panel tag : Byte) (f : DriveFields) (i : SlotId) (l : LoaderId)
    (horn : Bool) (v speed : Int) (e : Nat),
  s.hears (.chair c panel) →
  a = s.heard (.chair c panel) →
  slotOf f.slot = some i →
  flagOf f.horn = some horn →
  (a.slot c i).contents = .bound l →
  (a.loader l).state = .driven ∨
    ((a.loader l).holder.map (·.mode) = some .manual ∧
      ∃ k x, a.inFlight l k x ∧ x.phase ≠ .confirming) →
  f.epoch = (a.loader l).epoch →
  (∀ n ∈ (a.slot c i).lastCount, f.count ≠ n ∧ (f.count - n).toNat < 128) →
  v = max (-80) (min 80 f.speed.toInt) →
  e = a.envelope c l v →
  speed = (if v.natAbs ≤ e then v else if v < 0 then -(e : Int) else e) →
  ∃ t, exec (.driveFrame c panel tag f) s = .next t ∧
    t.fleet = a.ordered l (.drive speed (max (-100) (min 100 f.steer.toInt))
      (max (-100) (min 100 f.boom.toInt)) (max (-100) (min 100 f.bucket.toInt)) horn) ∧
    t.slot c i =
      { a.slot c i with
        lastCount := some f.count
        outcome := if v.natAbs ≤ e then .accepted else .clamped } ∧
    (t.chair c).counters =
      { (a.chair c).counters with
        accepted := if v.natAbs ≤ e then min 65535 ((a.chair c).counters.accepted + 1)
          else (a.chair c).counters.accepted
        clamped := if v.natAbs ≤ e then (a.chair c).counters.clamped
          else min 65535 ((a.chair c).counters.clamped + 1)
        gap := min 65535 ((a.chair c).counters.gap +
          (((a.slot c i).lastCount.map fun n => (f.count - n).toNat - 1).getD 0)) } ∧
    t.loader l =
      { a.loader l with
        lapse := false, lapseTimer := some ⟨a.params.driveLapse, 0⟩
        holdRefresh := (t.loader l).holdRefresh } ∧
    ((a.loader l).state = .driven → (t.loader l).holdRefresh = none) ∧
    (∀ z, t.zone z =
      { a.zone z with
        entered := (a.zone z).entered || (speed != 0 && (a.loader l).inZone z)
        attention := (a.zone z).attention ||
          ((a.loader l).inZone z && (a.zone z).cls == .openManualFlagged) }) ∧
    a.otherLoaders l t ∧ (∀ d, d ≠ c → t.chair d = a.chair d) ∧
    (∀ j, j ≠ i → t.slot c j = a.slot c j) ∧ (t.chair c).clearance = (a.chair c).clearance ∧
    (t.chair c).stop = (a.chair c).stop ∧ (t.chair c).neutral = (a.chair c).neutral ∧
    a.sameBut [.loaders, .chairs, .zones, .supQueue, .fleet] t

/-- A drive frame that is not forwarded builds no order: a slot number without a meaning is counted
refused, a frame that fails a check is counted, stored as the slot's outcome and told to the chair
when the reason is new, and a repeated or overtaken frame is only counted. -/
def Obligations.DriveFrameNotForwarded : Prop :=
  ∀ (s a : State) (c : ChairId) (panel tag : Byte) (f : DriveFields),
  s.hears (.chair c panel) →
  a = s.heard (.chair c panel) →
  (slotOf f.slot = none → exec (.driveFrame c panel tag f) s = .next { a with
    chairs := a.chairs.set c
      { a.chair c with
        counters :=
          { (a.chair c).counters with
            refused := min 65535 ((a.chair c).counters.refused + 1) } } }) ∧
  (∀ i r who, slotOf f.slot = some i →
    who = (match (a.slot c i).contents with
      | .empty => none
      | .bound l => some l
      | .reserved l _ => some l) →
    firstFailing ((((flagOf f.horn).isSome, Reason.badValue) ::
      match (a.slot c i).contents with
      | .bound l =>
        [(a.drivable l, .notHolder), (f.epoch == (a.loader l).epoch, .staleGrant)]
      | _ => [(false, .slotEmpty)])) = some r →
    exec (.driveFrame c panel tag f) s = .next { a with
      chairs := a.chairs.set c
        { a.chair c with
          slots := (a.chair c).slots.set i { a.slot c i with outcome := .refused r }
          counters :=
            { (a.chair c).counters with
              refused := min 65535 ((a.chair c).counters.refused + 1) } }
      queues := if (a.slot c i).outcome = .refused r then a.queues
        else a.joined c ⟨0, .notice (.driveRefused i r who
          (match who with
            | some l => if r = .staleGrant then (a.loader l).epoch else 0
            | none => 0) f.count)⟩ }) ∧
  (∀ i l n, slotOf f.slot = some i → (flagOf f.horn).isSome = true →
    (a.slot c i).contents = .bound l → a.drivable l = true → f.epoch = (a.loader l).epoch →
    (a.slot c i).lastCount = some n → f.count = n ∨ 128 ≤ (f.count - n).toNat →
    exec (.driveFrame c panel tag f) s = .next { a with
      chairs := a.chairs.set c
        { a.chair c with
          counters :=
            { (a.chair c).counters with
              duplicate := if f.count = n then min 65535 ((a.chair c).counters.duplicate + 1)
                else (a.chair c).counters.duplicate
              stale := if f.count = n then (a.chair c).counters.stale
                else min 65535 ((a.chair c).counters.stale + 1) } } })

/-- The speed envelope: the zone's cap, the brow ramp when the travel approaches the brow, the creep
cap for a stale or Fixed position or a breached barrier, the halving of a derated link, and 0 in
SETTLING. It never exceeds 80 where caps are in their range. -/
def Obligations.EnvelopeFollowsItsTerms : Prop :=
  ∀ (s : State) (c : ChairId) (l : LoaderId) (v : Int) (p : Position) (z : Zone) (d : Nat)
    (up down toward creep derate still : Bool) (e : Nat),
  (s.loader l).position = some p →
  z = s.zone p.zone →
  p.law →
  z.holdsSegment p = true →
  z.openLength ≤ 128 →
  (up = true ↔ (0 < v ∧ p.front = .towardFarEnd) ∨ (v < 0 ∧ p.front = .towardEntrance)) →
  (down = true ↔ (v < 0 ∧ p.front = .towardFarEnd) ∨ (0 < v ∧ p.front = .towardEntrance)) →
  (toward = true ↔ z.openLength ≠ 128 ∧
    ((z.measuredFrom = .entrance ∧ up = true) ∨ (z.measuredFrom = .farEnd ∧ down = true))) →
  (z.measuredFrom = .entrance → d + p.chainage = 40 * z.openLength) →
  (z.measuredFrom = .farEnd → d + (5120 - 40 * z.openLength) = p.chainage) →
  (creep = true ↔ s.params.staleLimit < (s.loader l).age ∨ (s.loader l).source = .fixed ∨
    s.barriers[levelOf p.zone] = true) →
  (derate = true ↔ s.params.linkError ≤ 2 * (s.link c).errors) →
  (still = true ↔ ∃ x ∈ s.handoverOf l, x.phase = .settling ∧ x.suspended = false) →
  e = (if toward = true then
      min z.cap (if d ≤ s.params.standoff then 0 else (d - s.params.standoff) * s.params.gain / 16)
    else z.cap) →
  s.envelope c l v =
    (if still = true then 0
    else (if creep = true then min e s.params.creep else e) / (if derate = true then 2 else 1)) ∧
  (z.cap ≤ 80 → s.envelope c l v ≤ 80)

/-! ## Watches and delivery queues -/

/-- WATCH leaves the pair in the Watch Table, touching no set but its own and unlocking nothing.
UNWATCH takes the pair out and leaves every other pair; a locked pair is refused LOADER_STATE. -/
def Obligations.WatchAndUnwatch : Prop :=
  ∀ (s a : State) (h : Header) (c : ChairId) (panel loader : Byte) (l : LoaderId),
  h.sender = .chair c panel →
  s.ready h →
  a = s.heard h.sender →
  loaderOf loader = some l →
  (a.loader l).state ≠ .unenrolled →
  (∃ t, exec (.watch h loader) s = .next t ∧
    t.watch.watches c l = true ∧
    (∀ n : SetId, n ≠ setOf c l → t.watch.openSets[n] = a.watch.openSets[n]) ∧
    (∀ n : PinnedId, (t.watch.pinned[n]).map (fun e => (e.chair, e.loader, e.locked)) =
      (a.watch.pinned[n]).map fun e => (e.chair, e.loader, e.locked)) ∧
    t.queued (.chair c) ⟨h.tag, .reply .watch (.ok (.loader l))⟩ ∧
    a.sameBut [.watch, .queues] t) ∧
  (a.watch.isLocked c l = true → exec (.unwatch h loader) s = .next { a with
    queues := a.joined c ⟨h.tag, .reply .unwatch (.refused .loaderState)⟩ }) ∧
  (a.watch.isLocked c l = false →
    (∀ m n : PinnedId, (a.watch.pinned[m]).any (·.names c l) = true →
      (a.watch.pinned[n]).any (·.names c l) = true → m = n) →
    ((a.watch.pinnedOf c l).isSome = true → a.watch.wayOf c l = none) →
    ∃ t, exec (.unwatch h loader) s = .next t ∧
      (∀ d n, t.watch.watches d n = (a.watch.watches d n && !(d == c && n == l))) ∧
      t.queues = a.joined c ⟨h.tag, .reply .unwatch (.ok (.loader l))⟩ ∧
      a.sameBut [.watch, .queues] t)

/-- A report that joins a queue in which a report of its loader waits takes that report's place,
however full the queue is, uncounted; one that has begun to leave is no longer queued. -/
def Obligations.QueuedReportIsReplacedInPlace : Prop :=
  ∀ (q : OutQueue) (f : Frame) (l : LoaderId),
  f.reportOf = some l →
  (∀ before g after, q.frames = before ++ g :: after → g.reportOf = some l →
    (∀ x ∈ before ++ after, x.reportOf ≠ some l) →
    q.join f = { q with frames := before ++ f :: after }) ∧
  ((∀ g ∈ q.frames, g.reportOf ≠ some l) → q.frames.length < 32 →
    q.join f = { q with frames := q.frames ++ [f] })

/-- A full delivery queue spends its oldest report for a frame that joins, then refuses a report,
then spends its oldest notice, and never a reply; every loss is counted. An order joins the tail of
the order line. A full line spends its oldest DRIVE for it, then refuses a DRIVE, then spends the
oldest order that a later one of its loader follows, and such an order is always there; every loss
is counted. -/
def Obligations.FullQueueGivesWay : Prop :=
  (∀ (q : OutQueue) (f : Frame),
    q.frames.length = 32 →
    (∀ l, f.reportOf = some l → ∀ g ∈ q.frames, g.reportOf ≠ some l) →
    (q.join f).dropped = min 65535 (q.dropped + 1) ∧ (q.join f).frames.length = 32 ∧
    (q.join f).frames.filter Frame.isReply =
      q.frames.filter Frame.isReply ++
        (if f.isReply = true ∧ ∃ g ∈ q.frames, g.isReply = false then [f] else []) ∧
    (∀ before g after, q.frames = before ++ g :: after →
      (g.isReport = true ∧ ∀ x ∈ before, x.isReport = false) ∨
        (g.isNotice = true ∧ f.isReport = false ∧ (∀ x ∈ before, x.isNotice = false) ∧
          ∀ x ∈ q.frames, x.isReport = false) →
      (q.join f).frames = before ++ after ++ [f]) ∧
    ((∀ x ∈ q.frames, x.isReport = false) →
      f.isReport = true ∨ (∀ x ∈ q.frames, x.isNotice = false) →
      (q.join f).frames = q.frames)) ∧
  (∀ (line : FleetLink) (o : Order),
    (line.orders.length < 64 → line.join o = { line with orders := line.orders ++ [o] }) ∧
    (line.orders.length = 64 →
      (∀ before d after, line.orders = before ++ d :: after → d.isDrive = true →
        (∀ x ∈ before, x.isDrive = false) →
        line.join o = { line with
          orders := before ++ after ++ [o], dropped := min 65535 (line.dropped + 1) }) ∧
      ((∀ x ∈ line.orders, x.isDrive = false) → o.isDrive = true →
        line.join o = { line with dropped := min 65535 (line.dropped + 1) }) ∧
      ((∀ x ∈ line.orders, x.isDrive = false) → o.isDrive = false →
        ∃ before d after, line.orders = before ++ d :: after ∧
          (∃ x ∈ after, x.loader = d.loader) ∧
          (∀ first y later, before = first ++ y :: later →
            ∀ x ∈ later ++ d :: after, x.loader ≠ y.loader) ∧
          line.join o = { line with
            orders := before ++ after ++ [o], dropped := min 65535 (line.dropped + 1) })))

/-- A transmission takes the head of its queue, or of the order line, and leaves the rest in order.
On an empty one nothing is being sent afterwards, which is the model's choice (log 6). -/
def Obligations.TransmissionTakesHead : Prop :=
  ∀ (s : State),
  s.inReset = false →
  (∀ c, exec (.deliveryQueueTransmit (.chair c)) s = .next { s with
    queues := s.queues.set c
      ⟨(s.queue (.chair c)).frames.drop 1, (s.queue (.chair c)).dropped,
        (s.queue (.chair c)).frames[0]?⟩ }) ∧
  exec (.deliveryQueueTransmit .supervisor) s = .next { s with
    supQueue := ⟨s.supQueue.frames.drop 1, s.supQueue.dropped, s.supQueue.frames[0]?⟩ } ∧
  exec .orderLineTransmit s = .next { s with
    fleet := { s.fleet with orders := s.fleet.orders.drop 1, sending := s.fleet.orders[0]? } }

/-! ## The supervisor's settings and queries -/

/-- SET_PARAM stores the value saturated to the parameter's range, WATCH_ALL its setting, and
SET_CLEARANCE the set of levels; a tick adds one second to the counter, which wraps, and begins the
next second at millisecond 0 of the model's own clock (log 1). Each changes nothing else. That code
255 is refused BADVALUE is the model's choice (log 37). -/
def Obligations.SettingsAreStored : Prop :=
  ∀ (s a : State) (h : Header),
  h.sender = .supervisor →
  s.ready h →
  a = s.heard h.sender →
  (∀ code value p v, paramOf code = some p → (p = .attention → value.toNat ≤ 1) →
    v = max p.range.1 (min p.range.2 value.toNat) →
    ∃ ps, exec (.setParam h code value) s = .next { a with
        params := ps, supQueue := a.supQueue.join ⟨h.tag, .reply .setParam (.ok (.param p v))⟩ } ∧
      ps.get p = v ∧ ∀ n, n ≠ p → ps.get n = a.params.get n) ∧
  (∀ code value, paramOf code = none ∨ (paramOf code = some .attention ∧ 1 < value.toNat) →
    exec (.setParam h code value) s = .next { a with
      supQueue := a.supQueue.join ⟨h.tag, .reply .setParam (.refused .badValue)⟩ }) ∧
  (∀ setting on, flagOf setting = some on → exec (.watchAll h setting) s = .next { a with
    watchAll := on
    supQueue := a.supQueue.join ⟨h.tag, .reply .watchAll (.ok (.setting on))⟩ }) ∧
  (∀ chair levels c, chairOf chair = some c → exec (.setClearance h chair levels) s = .next { a with
    chairs := a.chairs.set c { a.chair c with clearance := levels }
    supQueue := a.supQueue.join ⟨h.tag, .reply .setClearance (.ok (.clearance c levels))⟩ }) ∧
  exec .secondsCounterTick s = .next { s with seconds := s.seconds + 1, millis := 0 }

/-- The queries answer with the record as it stands, from its own blocks, and change nothing else.
The model's readings: what they tell of the queue that the reply itself joins is read before it
joins (log 44), and the counters of the supervisor link have counted the query's frame (log 47). -/
def Obligations.QueriesAnswerRecords : Prop :=
  ∀ (s a : State) (h : Header) (answered : ReqKind → OkBody → Host.Outcome State Fault Refusal),
  s.ready h →
  a = s.heard h.sender →
  answered = (fun k b => .next (a.modQueue h.sender.port (·.join ⟨h.tag, .reply k (.ok b)⟩))) →
  (∀ loader l, loaderOf loader = some l → (a.loader l).state ≠ .unenrolled →
    exec (.queryLoader h loader) s = answered .queryLoader (.loaderView
      ⟨l, a.radioMap[l], a.loader l, (a.handoverOf l).bind (·.held)⟩)) ∧
  (∀ chair c, chairOf chair = some c →
    (h.sender = .supervisor ∨ ∃ panel, h.sender = .chair c panel) →
    exec (.queryChair h chair) s = answered .queryChair (.chairView
      ⟨c, a.link c, a.chair c, a.countedLoad c none, (a.queue (.chair c)).frames.length,
        (a.queue (.chair c)).dropped⟩)) ∧
  (∀ zone z, z = zone.toFin → h.sender = .supervisor →
    exec (.queryZone h zone) s = answered .queryZone (.zoneView
      ⟨z, a.zone z, levelOf z, a.barriers[levelOf z], a.lamps[levelOf z],
        (List.finRange 32).countP fun l => (a.loader l).hasAuthority && (a.loader l).inZone z,
        (a.zone z).closing.bind a.closure⟩)) ∧
  (∀ context k, ctxOf context = some k → h.sender = .supervisor →
    exec (.queryHandover h context) s = answered .queryHandover (.handoverView k
      ((a.handover k).map fun x =>
        ⟨{ x with held := none }, (a.loader x.loader).prior, (a.loader x.loader).grace⟩))) ∧
  (∀ code p, paramOf code = some p → h.sender = .supervisor →
    exec (.queryParam h code) s = answered .queryParam (.param p (a.params.get p))) ∧
  (h.sender = .supervisor → exec (.queryParam h 255) s = answered .queryParam (.module
    ⟨a.params, a.seconds, a.stopAll, a.barriers, a.lamps, a.watchAll, a.supLink.errors,
      a.supLink.tally, a.supLink.badFrames, a.supQueue.dropped, a.fleet.badFrames,
      a.fleet.unknown, a.fleet.dropped, a.fleet.orders.length,
      (List.finRange 8).countP fun k => (a.handover k).isSome,
      (List.finRange 4).countP fun k => (a.closure k).isSome⟩))

/-- RESTART takes all authority, ends every handover and closure, marks every position stale, stops
drive lapse, sets the drive counters, the slots' drive states and the error counters afresh, and
empties the Watch Table and the delivery queues; the reply joins the emptied queue. Of a loader
forced from HALTED, that it counts in the reply as a further cause and not as halted (log 27), and
that its hold refresh starts again (log 11), are the model's readings, and so is that the supervisor
link counts the RESTART's own frame before the RESTART sets its tally to 0 (log 47). -/
def Obligations.RestartClearsAuthority : Prop :=
  ∀ (s a : State) (h : Header),
  h.sender = .supervisor →
  s.ready h →
  a = s.heard h.sender →
  ∃ t, exec (.restart h) s = .next t ∧
    (∀ l, (a.loader l).hasAuthority = true →
      (t.loader l).state = .halted ∧ (t.loader l).holder = none) ∧
    (∀ l, (∀ k, ∀ x ∈ a.handover k, x.loader ≠ l) →
      (a.loader l).state ∈ [LoaderState.driven, .supervised, .orphaned] →
      Loader.haltedBy { a.loader l with age := 65535 } (t.loader l) .restart s.seconds) ∧
    (∀ l k x, a.transferLaw → a.inFlight l k x →
      Loader.haltedFrom { a.loader l with age := 65535 } (t.loader l) x.held .restart s.seconds) ∧
    (∀ l, (∀ k, ∀ x ∈ a.handover k, x.loader ≠ l) →
      (a.loader l).state ∈ [LoaderState.parked, .halted, .isolated] → t.loader l =
        { a.loader l with
          age := 65535, lapse := false, lapseTimer := none
          halt := if (a.loader l).state = .halted then
            (a.loader l).halt.map (·.addCause .restart) else (a.loader l).halt }) ∧
    (∀ l, (a.loader l).state ≠ .unenrolled → (t.loader l).age = 65535 ∧
      (t.loader l).lapse = false ∧ (t.loader l).lapseTimer = none) ∧
    (∀ l, (t.loader l).epoch = (a.loader l).epoch ∧
      (t.loader l).position = (a.loader l).position ∧
      (t.loader l).lastCount = (a.loader l).lastCount ∧
      (t.loader l).silence = (a.loader l).silence ∧
      (t.loader l).radioSilent = (a.loader l).radioSilent) ∧
    (∀ k, t.handover k = none) ∧ (∀ k, t.closure k = none) ∧
    (∀ k, ∀ x ∈ a.closure k,
      (t.zone x.zone).cls = .closed ∧ (t.zone x.zone).closing = none) ∧
    (∀ z, (∀ k, ∀ x ∈ a.closure k, x.zone ≠ z) → t.zone z = a.zone z) ∧
    (∀ c, (t.chair c).counters = ⟨0, 0, 0, 0, 0, 0⟩ ∧
      (t.chair c).clearance = (a.chair c).clearance ∧
      ∀ i, (t.slot c i).lastCount = none ∧ (t.slot c i).outcome = .fresh) ∧
    (∀ c, (t.link c).state = (a.link c).state ∧ (t.link c).errors = 0 ∧ (t.link c).tally = 0 ∧
      (t.link c).run = (a.link c).run ∧ (t.link c).badFrames = (a.link c).badFrames ∧
      ((a.link c).state ≠ .down →
        (t.link c).silence = some ⟨a.params.linkSilence, 0⟩)) ∧
    t.supLink = { a.supLink with errors := 0, tally := 0 } ∧
    t.watch = WatchTable.blank ∧
    (∀ c, (t.queue (.chair c)).frames = [] ∧
      (t.queue (.chair c)).sending = (a.queue (.chair c)).sending) ∧
    t.supQueue.frames = [⟨h.tag, .reply .restart (.ok (.restart
      ((List.finRange 8).countP fun k => (a.handover k).isSome)
      ((List.finRange 32).countP fun l =>
        (a.loader l).hasAuthority && (a.loader l).prior != some .halted)
      ((List.finRange 32).countP fun l => (a.loader l).state == .halted ||
        ((a.loader l).hasAuthority && (a.loader l).prior == some .halted))
      ((List.finRange 4).countP fun k => (a.closure k).isSome)))⟩] ∧
    a.sameBut [.loaders, .handovers, .closures, .zones, .chairs, .links, .supLink, .watch, .queues,
      .supQueue, .fleet, .lamps] t

/-! ## STOP_ALL -/

/-- The assertion of STOP_ALL halts every loader with authority, ends every handover, marks every
HALTED loader and tells the supervisor how many of each; its release restores nothing. That a loader
forced from HALTED counts as a further cause and not as halted (log 27) and has its hold refresh
started again (log 11), and that a level that does not change is no event (log 17), are the
model's. -/
def Obligations.StopAllTakesAuthority : Prop :=
  ∀ (s : State),
  s.inReset = false →
  (s.stopAll = false → ∃ t, exec .stopAllAssertion s = .next t ∧
    t.stopAll = true ∧ t.inputs = { s.inputs with stopAll := true } ∧
    (∀ k, t.handover k = none) ∧
    (∀ l, (s.loader l).hasAuthority = true →
      (t.loader l).state = .halted ∧ (t.loader l).holder = none) ∧
    (∀ l, (∀ k, ∀ x ∈ s.handover k, x.loader ≠ l) →
      if (s.loader l).hasAuthority = true then
        (s.loader l).haltedBy (t.loader l) .stopAll s.seconds
      else if (s.loader l).state = .halted then
        t.loader l =
          { s.loader l with halt := (s.loader l).halt.map (·.addCause .stopAll) }
      else t.loader l = s.loader l) ∧
    (∀ l k x, s.transferLaw → s.inFlight l k x →
      (s.loader l).haltedFrom (t.loader l) x.held .stopAll s.seconds) ∧
    (s.supQueue.frames.countP Frame.isReply < 32 → t.supQueue.frames.getLast? = some ⟨0, .notice
      (.stopChange true s.seconds
        ((List.finRange 32).countP fun l =>
          (s.loader l).hasAuthority && (s.loader l).prior != some .halted)
        ((List.finRange 32).countP fun l => (s.loader l).state == .halted ||
          ((s.loader l).hasAuthority && (s.loader l).prior == some .halted)))⟩) ∧
    s.sameBut [.stopAll, .inputs, .loaders, .handovers, .chairs, .watch, .queues, .supQueue,
      .fleet, .lamps, .zones, .closures] t) ∧
  (s.stopAll = true → exec .stopAllRelease s = .next { s with
    stopAll := false
    inputs := { s.inputs with stopAll := false }
    supQueue := s.supQueue.join ⟨0, .notice (.stopChange false s.seconds 0 0)⟩ }) ∧
  (s.stopAll = true → exec .stopAllAssertion s = .next { s with
    inputs := { s.inputs with stopAll := true } }) ∧
  (s.stopAll = false → exec .stopAllRelease s = .next { s with
    inputs := { s.inputs with stopAll := false } })

/-! ## Frames -/

/-- What the encoder writes for a command that a frame carries, the frame reader reads back as that
command, on the same link, and a link interface that hunts completes that command, and nothing else,
from these bytes. MODE_TO_MANUAL with mode byte 1 is left out: that frame is MODE_TO_SUPERVISED
(log 8). -/
def Obligations.FramesDecodeAsEncoded : Prop :=
  ∀ (i : Instr) (link : Link) (bytes : List Byte),
  i.wellFormed = true →
  encodeFrame i = some (link, bytes) →
  readFrame link bytes = some i ∧
  Receiver.hunting.takeAll link (bytes.map fun b => ⟨some b, false⟩) = (.hunting, [i])

/-! ## Laws of a safe run -/

/-- The state after reset keeps every law. -/
def Obligations.ResetIsLawful : Prop := State.reset.lawful

/-- Every step keeps the laws that bind the loader records to the handover contexts, the halt
records, the slots, the manual loads and the Watch Table's locked entries. -/
def Obligations.StepKeepsRecordLaws : Prop :=
  ∀ (s t : State),
  s.recordLaws →
  step s = .next t →
  t.recordLaws

/-- Every step keeps the lamp law, and, where the record laws hold, the position law. The position
law judges a loader forced from ORPHANED as held in supervised mode, which is the model's reading
(log 23). -/
def Obligations.StepKeepsLampLaw : Prop :=
  ∀ (s t : State),
  step s = .next t →
  (s.lampLaw → t.lampLaw) ∧
  (s.recordLaws → s.positionLaw → t.positionLaw)

/-- Every step keeps the law of STOP_ALL. -/
def Obligations.StepKeepsStopLaw : Prop :=
  ∀ (s t : State),
  s.stopLaw →
  step s = .next t →
  t.stopLaw

/-- Every step keeps the parameters, the link interfaces, the radio addresses, the positions, the
zone values, the drive counters, the delivery queues and the order line within their limits, and the
closure contexts in use those of the Closing zones. -/
def Obligations.StepKeepsRangesAndLimits : Prop :=
  ∀ (s t : State),
  s.paramLaw ∧ s.linkLaw ∧ s.addressLaw ∧ s.rangeLaw ∧ s.queueLaw ∧ s.closureLaw →
  step s = .next t →
  t.paramLaw ∧ t.linkLaw ∧ t.addressLaw ∧ t.rangeLaw ∧ t.queueLaw ∧ t.closureLaw
end

