-- ==== Sys2Proof/Laws/State.lean ====
section
/-! SUPPORT. What each update of the state leaves of each field and what it makes of the entry it
writes, so that no proof unfolds a record update. -/

namespace Sys2Proof.Machine

variable (s : State)

/-! ## The other updates in terms of these -/

theorem State.modLoader_eq (l : LoaderId) (f : Loader → Loader) :
    s.modLoader l f = s.setLoader l (f (s.loader l)) := rfl

theorem State.modSlot_eq (c : ChairId) (i : SlotId) (f : Slot → Slot) :
    s.modSlot c i f = s.modChair c fun r => { r with slots := r.slots.set i (f r.slots[i]) } := rfl

theorem State.fillSlot_eq (c : ChairId) (i : SlotId) (x : SlotContents) :
    s.fillSlot c i x = s.modSlot c i fun slot => { slot with contents := x } := rfl

theorem State.modHandover_eq (k : CtxId) (f : Handover → Handover) :
    s.modHandover k f = s.setHandover k ((s.handover k).map f) := rfl

/-! ## The entry that is written, and the others -/

@[simp] theorem State.setLoader_loader_self (n : LoaderId) (r : Loader) :
    (s.setLoader n r).loader n = r := by simp [State.setLoader, State.loader]

@[simp] theorem State.setLoader_loader_ne {n l : LoaderId} (h : l ≠ n) (r : Loader) :
    (s.setLoader n r).loader l = s.loader l := by
  simp [State.setLoader, State.loader, Fin.val_inj, h.symm]

@[simp] theorem State.modChair_chair_self (n : ChairId) (f : Chair → Chair) :
    (s.modChair n f).chair n = f (s.chair n) := by simp [State.modChair, State.chair]

@[simp] theorem State.modChair_chair_ne {n c : ChairId} (h : c ≠ n) (f : Chair → Chair) :
    (s.modChair n f).chair c = s.chair c := by
  simp [State.modChair, State.chair, Fin.val_inj, h.symm]

@[simp] theorem State.modSlot_slot_self (c : ChairId) (i : SlotId) (f : Slot → Slot) :
    (s.modSlot c i f).slot c i = f (s.slot c i) := by
  simp [State.modSlot, State.slot, State.modChair, State.chair]

@[simp] theorem State.modLink_link_self (n : ChairId) (f : ChairLink → ChairLink) :
    (s.modLink n f).link n = f (s.link n) := by simp [State.modLink, State.link]

@[simp] theorem State.modLink_link_ne {n c : ChairId} (h : c ≠ n) (f : ChairLink → ChairLink) :
    (s.modLink n f).link c = s.link c := by
  simp [State.modLink, State.link, Fin.val_inj, h.symm]

@[simp] theorem State.modZone_zone_self (n : ZoneId) (f : Zone → Zone) :
    (s.modZone n f).zone n = f (s.zone n) := by simp [State.modZone, State.zone]

@[simp] theorem State.modZone_zone_ne {n z : ZoneId} (h : z ≠ n) (f : Zone → Zone) :
    (s.modZone n f).zone z = s.zone z := by
  simp [State.modZone, State.zone, Fin.val_inj, h.symm]

@[simp] theorem State.setClosure_closure_self (n : ClosureId) (x : Option Closure) :
    (s.setClosure n x).closure n = x := by simp [State.setClosure, State.closure]

@[simp] theorem State.setClosure_closure_ne {n k : ClosureId} (h : k ≠ n) (x : Option Closure) :
    (s.setClosure n x).closure k = s.closure k := by
  simp [State.setClosure, State.closure, Fin.val_inj, h.symm]

@[simp] theorem State.setHandover_handover_self (n : CtxId) (x : Option Handover) :
    (s.setHandover n x).handover n = x := by simp [State.setHandover, State.handover]

@[simp] theorem State.setHandover_handover_ne {n k : CtxId} (h : k ≠ n) (x : Option Handover) :
    (s.setHandover n x).handover k = s.handover k := by
  simp [State.setHandover, State.handover, Fin.val_inj, h.symm]

@[simp] theorem State.modQueue_queue_self (p : Port) (f : OutQueue → OutQueue) :
    (s.modQueue p f).queue p = f (s.queue p) := by
  cases p <;> simp [State.modQueue, State.queue]

@[simp] theorem State.modQueue_queue_ne {p q : Port} (h : q ≠ p) (f : OutQueue → OutQueue) :
    (s.modQueue p f).queue q = s.queue q := by
  cases p <;> cases q <;>
    simp_all [State.modQueue, State.queue, Fin.val_inj, eq_comm]

/-! ## `setLoader` and the rest -/

@[simp] theorem State.setLoader_radioMap (n : LoaderId) (r : Loader) :
    (s.setLoader n r).radioMap = s.radioMap := rfl

@[simp] theorem State.setLoader_chairs (n : LoaderId) (r : Loader) :
    (s.setLoader n r).chairs = s.chairs := rfl

@[simp] theorem State.setLoader_links (n : LoaderId) (r : Loader) :
    (s.setLoader n r).links = s.links := rfl

@[simp] theorem State.setLoader_zones (n : LoaderId) (r : Loader) :
    (s.setLoader n r).zones = s.zones := rfl

@[simp] theorem State.setLoader_closures (n : LoaderId) (r : Loader) :
    (s.setLoader n r).closures = s.closures := rfl

@[simp] theorem State.setLoader_barriers (n : LoaderId) (r : Loader) :
    (s.setLoader n r).barriers = s.barriers := rfl

@[simp] theorem State.setLoader_lamps (n : LoaderId) (r : Loader) :
    (s.setLoader n r).lamps = s.lamps := rfl

@[simp] theorem State.setLoader_handovers (n : LoaderId) (r : Loader) :
    (s.setLoader n r).handovers = s.handovers := rfl

@[simp] theorem State.setLoader_watch (n : LoaderId) (r : Loader) :
    (s.setLoader n r).watch = s.watch := rfl

@[simp] theorem State.setLoader_queues (n : LoaderId) (r : Loader) :
    (s.setLoader n r).queues = s.queues := rfl

@[simp] theorem State.setLoader_supQueue (n : LoaderId) (r : Loader) :
    (s.setLoader n r).supQueue = s.supQueue := rfl

@[simp] theorem State.setLoader_supLink (n : LoaderId) (r : Loader) :
    (s.setLoader n r).supLink = s.supLink := rfl

@[simp] theorem State.setLoader_fleet (n : LoaderId) (r : Loader) :
    (s.setLoader n r).fleet = s.fleet := rfl

@[simp] theorem State.setLoader_params (n : LoaderId) (r : Loader) :
    (s.setLoader n r).params = s.params := rfl

@[simp] theorem State.setLoader_watchAll (n : LoaderId) (r : Loader) :
    (s.setLoader n r).watchAll = s.watchAll := rfl

@[simp] theorem State.setLoader_seconds (n : LoaderId) (r : Loader) :
    (s.setLoader n r).seconds = s.seconds := rfl

@[simp] theorem State.setLoader_millis (n : LoaderId) (r : Loader) :
    (s.setLoader n r).millis = s.millis := rfl

@[simp] theorem State.setLoader_stopAll (n : LoaderId) (r : Loader) :
    (s.setLoader n r).stopAll = s.stopAll := rfl

@[simp] theorem State.setLoader_inputs (n : LoaderId) (r : Loader) :
    (s.setLoader n r).inputs = s.inputs := rfl

@[simp] theorem State.setLoader_inReset (n : LoaderId) (r : Loader) :
    (s.setLoader n r).inReset = s.inReset := rfl

@[simp] theorem State.setLoader_receivers (n : LoaderId) (r : Loader) :
    (s.setLoader n r).receivers = s.receivers := rfl

@[simp] theorem State.setLoader_line (n : LoaderId) (r : Loader) :
    (s.setLoader n r).line = s.line := rfl

@[simp] theorem State.setLoader_pending (n : LoaderId) (r : Loader) :
    (s.setLoader n r).pending = s.pending := rfl

@[simp] theorem State.setLoader_chair (n : LoaderId) (r : Loader) (c : ChairId) :
    (s.setLoader n r).chair c = s.chair c := rfl

@[simp] theorem State.setLoader_link (n : LoaderId) (r : Loader) (c : ChairId) :
    (s.setLoader n r).link c = s.link c := rfl

@[simp] theorem State.setLoader_zone (n : LoaderId) (r : Loader) (z : ZoneId) :
    (s.setLoader n r).zone z = s.zone z := rfl

@[simp] theorem State.setLoader_closure (n : LoaderId) (r : Loader) (k : ClosureId) :
    (s.setLoader n r).closure k = s.closure k := rfl

@[simp] theorem State.setLoader_handover (n : LoaderId) (r : Loader) (k : CtxId) :
    (s.setLoader n r).handover k = s.handover k := rfl

@[simp] theorem State.setLoader_queue (n : LoaderId) (r : Loader) (p : Port) :
    (s.setLoader n r).queue p = s.queue p := by cases p <;> rfl

@[simp] theorem State.setLoader_slot (n : LoaderId) (r : Loader) (c : ChairId) (i : SlotId) :
    (s.setLoader n r).slot c i = s.slot c i := rfl

/-! ## `modChair` and the rest -/

@[simp] theorem State.modChair_loaders (n : ChairId) (f : Chair → Chair) :
    (s.modChair n f).loaders = s.loaders := rfl

@[simp] theorem State.modChair_radioMap (n : ChairId) (f : Chair → Chair) :
    (s.modChair n f).radioMap = s.radioMap := rfl

@[simp] theorem State.modChair_links (n : ChairId) (f : Chair → Chair) :
    (s.modChair n f).links = s.links := rfl

@[simp] theorem State.modChair_zones (n : ChairId) (f : Chair → Chair) :
    (s.modChair n f).zones = s.zones := rfl

@[simp] theorem State.modChair_closures (n : ChairId) (f : Chair → Chair) :
    (s.modChair n f).closures = s.closures := rfl

@[simp] theorem State.modChair_barriers (n : ChairId) (f : Chair → Chair) :
    (s.modChair n f).barriers = s.barriers := rfl

@[simp] theorem State.modChair_lamps (n : ChairId) (f : Chair → Chair) :
    (s.modChair n f).lamps = s.lamps := rfl

@[simp] theorem State.modChair_handovers (n : ChairId) (f : Chair → Chair) :
    (s.modChair n f).handovers = s.handovers := rfl

@[simp] theorem State.modChair_watch (n : ChairId) (f : Chair → Chair) :
    (s.modChair n f).watch = s.watch := rfl

@[simp] theorem State.modChair_queues (n : ChairId) (f : Chair → Chair) :
    (s.modChair n f).queues = s.queues := rfl

@[simp] theorem State.modChair_supQueue (n : ChairId) (f : Chair → Chair) :
    (s.modChair n f).supQueue = s.supQueue := rfl

@[simp] theorem State.modChair_supLink (n : ChairId) (f : Chair → Chair) :
    (s.modChair n f).supLink = s.supLink := rfl

@[simp] theorem State.modChair_fleet (n : ChairId) (f : Chair → Chair) :
    (s.modChair n f).fleet = s.fleet := rfl

@[simp] theorem State.modChair_params (n : ChairId) (f : Chair → Chair) :
    (s.modChair n f).params = s.params := rfl

@[simp] theorem State.modChair_watchAll (n : ChairId) (f : Chair → Chair) :
    (s.modChair n f).watchAll = s.watchAll := rfl

@[simp] theorem State.modChair_seconds (n : ChairId) (f : Chair → Chair) :
    (s.modChair n f).seconds = s.seconds := rfl

@[simp] theorem State.modChair_millis (n : ChairId) (f : Chair → Chair) :
    (s.modChair n f).millis = s.millis := rfl

@[simp] theorem State.modChair_stopAll (n : ChairId) (f : Chair → Chair) :
    (s.modChair n f).stopAll = s.stopAll := rfl

@[simp] theorem State.modChair_inputs (n : ChairId) (f : Chair → Chair) :
    (s.modChair n f).inputs = s.inputs := rfl

@[simp] theorem State.modChair_inReset (n : ChairId) (f : Chair → Chair) :
    (s.modChair n f).inReset = s.inReset := rfl

@[simp] theorem State.modChair_receivers (n : ChairId) (f : Chair → Chair) :
    (s.modChair n f).receivers = s.receivers := rfl

@[simp] theorem State.modChair_line (n : ChairId) (f : Chair → Chair) :
    (s.modChair n f).line = s.line := rfl

@[simp] theorem State.modChair_pending (n : ChairId) (f : Chair → Chair) :
    (s.modChair n f).pending = s.pending := rfl

@[simp] theorem State.modChair_loader (n : ChairId) (f : Chair → Chair) (l : LoaderId) :
    (s.modChair n f).loader l = s.loader l := rfl

@[simp] theorem State.modChair_link (n : ChairId) (f : Chair → Chair) (c : ChairId) :
    (s.modChair n f).link c = s.link c := rfl

@[simp] theorem State.modChair_zone (n : ChairId) (f : Chair → Chair) (z : ZoneId) :
    (s.modChair n f).zone z = s.zone z := rfl

@[simp] theorem State.modChair_closure (n : ChairId) (f : Chair → Chair) (k : ClosureId) :
    (s.modChair n f).closure k = s.closure k := rfl

@[simp] theorem State.modChair_handover (n : ChairId) (f : Chair → Chair) (k : CtxId) :
    (s.modChair n f).handover k = s.handover k := rfl

@[simp] theorem State.modChair_queue (n : ChairId) (f : Chair → Chair) (p : Port) :
    (s.modChair n f).queue p = s.queue p := by cases p <;> rfl

/-! ## `modLink` and the rest -/

@[simp] theorem State.modLink_loaders (n : ChairId) (f : ChairLink → ChairLink) :
    (s.modLink n f).loaders = s.loaders := rfl

@[simp] theorem State.modLink_radioMap (n : ChairId) (f : ChairLink → ChairLink) :
    (s.modLink n f).radioMap = s.radioMap := rfl

@[simp] theorem State.modLink_chairs (n : ChairId) (f : ChairLink → ChairLink) :
    (s.modLink n f).chairs = s.chairs := rfl

@[simp] theorem State.modLink_zones (n : ChairId) (f : ChairLink → ChairLink) :
    (s.modLink n f).zones = s.zones := rfl

@[simp] theorem State.modLink_closures (n : ChairId) (f : ChairLink → ChairLink) :
    (s.modLink n f).closures = s.closures := rfl

@[simp] theorem State.modLink_barriers (n : ChairId) (f : ChairLink → ChairLink) :
    (s.modLink n f).barriers = s.barriers := rfl

@[simp] theorem State.modLink_lamps (n : ChairId) (f : ChairLink → ChairLink) :
    (s.modLink n f).lamps = s.lamps := rfl

@[simp] theorem State.modLink_handovers (n : ChairId) (f : ChairLink → ChairLink) :
    (s.modLink n f).handovers = s.handovers := rfl

@[simp] theorem State.modLink_watch (n : ChairId) (f : ChairLink → ChairLink) :
    (s.modLink n f).watch = s.watch := rfl

@[simp] theorem State.modLink_queues (n : ChairId) (f : ChairLink → ChairLink) :
    (s.modLink n f).queues = s.queues := rfl

@[simp] theorem State.modLink_supQueue (n : ChairId) (f : ChairLink → ChairLink) :
    (s.modLink n f).supQueue = s.supQueue := rfl

@[simp] theorem State.modLink_supLink (n : ChairId) (f : ChairLink → ChairLink) :
    (s.modLink n f).supLink = s.supLink := rfl

@[simp] theorem State.modLink_fleet (n : ChairId) (f : ChairLink → ChairLink) :
    (s.modLink n f).fleet = s.fleet := rfl

@[simp] theorem State.modLink_params (n : ChairId) (f : ChairLink → ChairLink) :
    (s.modLink n f).params = s.params := rfl

@[simp] theorem State.modLink_watchAll (n : ChairId) (f : ChairLink → ChairLink) :
    (s.modLink n f).watchAll = s.watchAll := rfl

@[simp] theorem State.modLink_seconds (n : ChairId) (f : ChairLink → ChairLink) :
    (s.modLink n f).seconds = s.seconds := rfl

@[simp] theorem State.modLink_millis (n : ChairId) (f : ChairLink → ChairLink) :
    (s.modLink n f).millis = s.millis := rfl

@[simp] theorem State.modLink_stopAll (n : ChairId) (f : ChairLink → ChairLink) :
    (s.modLink n f).stopAll = s.stopAll := rfl

@[simp] theorem State.modLink_inputs (n : ChairId) (f : ChairLink → ChairLink) :
    (s.modLink n f).inputs = s.inputs := rfl

@[simp] theorem State.modLink_inReset (n : ChairId) (f : ChairLink → ChairLink) :
    (s.modLink n f).inReset = s.inReset := rfl

@[simp] theorem State.modLink_receivers (n : ChairId) (f : ChairLink → ChairLink) :
    (s.modLink n f).receivers = s.receivers := rfl

@[simp] theorem State.modLink_line (n : ChairId) (f : ChairLink → ChairLink) :
    (s.modLink n f).line = s.line := rfl

@[simp] theorem State.modLink_pending (n : ChairId) (f : ChairLink → ChairLink) :
    (s.modLink n f).pending = s.pending := rfl

@[simp] theorem State.modLink_loader (n : ChairId) (f : ChairLink → ChairLink) (l : LoaderId) :
    (s.modLink n f).loader l = s.loader l := rfl

@[simp] theorem State.modLink_chair (n : ChairId) (f : ChairLink → ChairLink) (c : ChairId) :
    (s.modLink n f).chair c = s.chair c := rfl

@[simp] theorem State.modLink_zone (n : ChairId) (f : ChairLink → ChairLink) (z : ZoneId) :
    (s.modLink n f).zone z = s.zone z := rfl

@[simp] theorem State.modLink_closure (n : ChairId) (f : ChairLink → ChairLink) (k : ClosureId) :
    (s.modLink n f).closure k = s.closure k := rfl

@[simp] theorem State.modLink_handover (n : ChairId) (f : ChairLink → ChairLink) (k : CtxId) :
    (s.modLink n f).handover k = s.handover k := rfl

@[simp] theorem State.modLink_queue (n : ChairId) (f : ChairLink → ChairLink) (p : Port) :
    (s.modLink n f).queue p = s.queue p := by cases p <;> rfl

@[simp] theorem State.modLink_slot (n : ChairId) (f : ChairLink → ChairLink) (c : ChairId) (i : SlotId) :
    (s.modLink n f).slot c i = s.slot c i := rfl

/-! ## `modZone` and the rest -/

@[simp] theorem State.modZone_loaders (n : ZoneId) (f : Zone → Zone) :
    (s.modZone n f).loaders = s.loaders := rfl

@[simp] theorem State.modZone_radioMap (n : ZoneId) (f : Zone → Zone) :
    (s.modZone n f).radioMap = s.radioMap := rfl

@[simp] theorem State.modZone_chairs (n : ZoneId) (f : Zone → Zone) :
    (s.modZone n f).chairs = s.chairs := rfl

@[simp] theorem State.modZone_links (n : ZoneId) (f : Zone → Zone) :
    (s.modZone n f).links = s.links := rfl

@[simp] theorem State.modZone_closures (n : ZoneId) (f : Zone → Zone) :
    (s.modZone n f).closures = s.closures := rfl

@[simp] theorem State.modZone_barriers (n : ZoneId) (f : Zone → Zone) :
    (s.modZone n f).barriers = s.barriers := rfl

@[simp] theorem State.modZone_lamps (n : ZoneId) (f : Zone → Zone) :
    (s.modZone n f).lamps = s.lamps := rfl

@[simp] theorem State.modZone_handovers (n : ZoneId) (f : Zone → Zone) :
    (s.modZone n f).handovers = s.handovers := rfl

@[simp] theorem State.modZone_watch (n : ZoneId) (f : Zone → Zone) :
    (s.modZone n f).watch = s.watch := rfl

@[simp] theorem State.modZone_queues (n : ZoneId) (f : Zone → Zone) :
    (s.modZone n f).queues = s.queues := rfl

@[simp] theorem State.modZone_supQueue (n : ZoneId) (f : Zone → Zone) :
    (s.modZone n f).supQueue = s.supQueue := rfl

@[simp] theorem State.modZone_supLink (n : ZoneId) (f : Zone → Zone) :
    (s.modZone n f).supLink = s.supLink := rfl

@[simp] theorem State.modZone_fleet (n : ZoneId) (f : Zone → Zone) :
    (s.modZone n f).fleet = s.fleet := rfl

@[simp] theorem State.modZone_params (n : ZoneId) (f : Zone → Zone) :
    (s.modZone n f).params = s.params := rfl

@[simp] theorem State.modZone_watchAll (n : ZoneId) (f : Zone → Zone) :
    (s.modZone n f).watchAll = s.watchAll := rfl

@[simp] theorem State.modZone_seconds (n : ZoneId) (f : Zone → Zone) :
    (s.modZone n f).seconds = s.seconds := rfl

@[simp] theorem State.modZone_millis (n : ZoneId) (f : Zone → Zone) :
    (s.modZone n f).millis = s.millis := rfl

@[simp] theorem State.modZone_stopAll (n : ZoneId) (f : Zone → Zone) :
    (s.modZone n f).stopAll = s.stopAll := rfl

@[simp] theorem State.modZone_inputs (n : ZoneId) (f : Zone → Zone) :
    (s.modZone n f).inputs = s.inputs := rfl

@[simp] theorem State.modZone_inReset (n : ZoneId) (f : Zone → Zone) :
    (s.modZone n f).inReset = s.inReset := rfl

@[simp] theorem State.modZone_receivers (n : ZoneId) (f : Zone → Zone) :
    (s.modZone n f).receivers = s.receivers := rfl

@[simp] theorem State.modZone_line (n : ZoneId) (f : Zone → Zone) :
    (s.modZone n f).line = s.line := rfl

@[simp] theorem State.modZone_pending (n : ZoneId) (f : Zone → Zone) :
    (s.modZone n f).pending = s.pending := rfl

@[simp] theorem State.modZone_loader (n : ZoneId) (f : Zone → Zone) (l : LoaderId) :
    (s.modZone n f).loader l = s.loader l := rfl

@[simp] theorem State.modZone_chair (n : ZoneId) (f : Zone → Zone) (c : ChairId) :
    (s.modZone n f).chair c = s.chair c := rfl

@[simp] theorem State.modZone_link (n : ZoneId) (f : Zone → Zone) (c : ChairId) :
    (s.modZone n f).link c = s.link c := rfl

@[simp] theorem State.modZone_closure (n : ZoneId) (f : Zone → Zone) (k : ClosureId) :
    (s.modZone n f).closure k = s.closure k := rfl

@[simp] theorem State.modZone_handover (n : ZoneId) (f : Zone → Zone) (k : CtxId) :
    (s.modZone n f).handover k = s.handover k := rfl

@[simp] theorem State.modZone_queue (n : ZoneId) (f : Zone → Zone) (p : Port) :
    (s.modZone n f).queue p = s.queue p := by cases p <;> rfl

@[simp] theorem State.modZone_slot (n : ZoneId) (f : Zone → Zone) (c : ChairId) (i : SlotId) :
    (s.modZone n f).slot c i = s.slot c i := rfl

/-! ## `setClosure` and the rest -/

@[simp] theorem State.setClosure_loaders (n : ClosureId) (x : Option Closure) :
    (s.setClosure n x).loaders = s.loaders := rfl

@[simp] theorem State.setClosure_radioMap (n : ClosureId) (x : Option Closure) :
    (s.setClosure n x).radioMap = s.radioMap := rfl

@[simp] theorem State.setClosure_chairs (n : ClosureId) (x : Option Closure) :
    (s.setClosure n x).chairs = s.chairs := rfl

@[simp] theorem State.setClosure_links (n : ClosureId) (x : Option Closure) :
    (s.setClosure n x).links = s.links := rfl

@[simp] theorem State.setClosure_zones (n : ClosureId) (x : Option Closure) :
    (s.setClosure n x).zones = s.zones := rfl

@[simp] theorem State.setClosure_barriers (n : ClosureId) (x : Option Closure) :
    (s.setClosure n x).barriers = s.barriers := rfl

@[simp] theorem State.setClosure_lamps (n : ClosureId) (x : Option Closure) :
    (s.setClosure n x).lamps = s.lamps := rfl

@[simp] theorem State.setClosure_handovers (n : ClosureId) (x : Option Closure) :
    (s.setClosure n x).handovers = s.handovers := rfl

@[simp] theorem State.setClosure_watch (n : ClosureId) (x : Option Closure) :
    (s.setClosure n x).watch = s.watch := rfl

@[simp] theorem State.setClosure_queues (n : ClosureId) (x : Option Closure) :
    (s.setClosure n x).queues = s.queues := rfl

@[simp] theorem State.setClosure_supQueue (n : ClosureId) (x : Option Closure) :
    (s.setClosure n x).supQueue = s.supQueue := rfl

@[simp] theorem State.setClosure_supLink (n : ClosureId) (x : Option Closure) :
    (s.setClosure n x).supLink = s.supLink := rfl

@[simp] theorem State.setClosure_fleet (n : ClosureId) (x : Option Closure) :
    (s.setClosure n x).fleet = s.fleet := rfl

@[simp] theorem State.setClosure_params (n : ClosureId) (x : Option Closure) :
    (s.setClosure n x).params = s.params := rfl

@[simp] theorem State.setClosure_watchAll (n : ClosureId) (x : Option Closure) :
    (s.setClosure n x).watchAll = s.watchAll := rfl

@[simp] theorem State.setClosure_seconds (n : ClosureId) (x : Option Closure) :
    (s.setClosure n x).seconds = s.seconds := rfl

@[simp] theorem State.setClosure_millis (n : ClosureId) (x : Option Closure) :
    (s.setClosure n x).millis = s.millis := rfl

@[simp] theorem State.setClosure_stopAll (n : ClosureId) (x : Option Closure) :
    (s.setClosure n x).stopAll = s.stopAll := rfl

@[simp] theorem State.setClosure_inputs (n : ClosureId) (x : Option Closure) :
    (s.setClosure n x).inputs = s.inputs := rfl

@[simp] theorem State.setClosure_inReset (n : ClosureId) (x : Option Closure) :
    (s.setClosure n x).inReset = s.inReset := rfl

@[simp] theorem State.setClosure_receivers (n : ClosureId) (x : Option Closure) :
    (s.setClosure n x).receivers = s.receivers := rfl

@[simp] theorem State.setClosure_line (n : ClosureId) (x : Option Closure) :
    (s.setClosure n x).line = s.line := rfl

@[simp] theorem State.setClosure_pending (n : ClosureId) (x : Option Closure) :
    (s.setClosure n x).pending = s.pending := rfl

@[simp] theorem State.setClosure_loader (n : ClosureId) (x : Option Closure) (l : LoaderId) :
    (s.setClosure n x).loader l = s.loader l := rfl

@[simp] theorem State.setClosure_chair (n : ClosureId) (x : Option Closure) (c : ChairId) :
    (s.setClosure n x).chair c = s.chair c := rfl

@[simp] theorem State.setClosure_link (n : ClosureId) (x : Option Closure) (c : ChairId) :
    (s.setClosure n x).link c = s.link c := rfl

@[simp] theorem State.setClosure_zone (n : ClosureId) (x : Option Closure) (z : ZoneId) :
    (s.setClosure n x).zone z = s.zone z := rfl

@[simp] theorem State.setClosure_handover (n : ClosureId) (x : Option Closure) (k : CtxId) :
    (s.setClosure n x).handover k = s.handover k := rfl

@[simp] theorem State.setClosure_queue (n : ClosureId) (x : Option Closure) (p : Port) :
    (s.setClosure n x).queue p = s.queue p := by cases p <;> rfl

@[simp] theorem State.setClosure_slot (n : ClosureId) (x : Option Closure) (c : ChairId) (i : SlotId) :
    (s.setClosure n x).slot c i = s.slot c i := rfl

/-! ## `setHandover` and the rest -/

@[simp] theorem State.setHandover_loaders (n : CtxId) (x : Option Handover) :
    (s.setHandover n x).loaders = s.loaders := rfl

@[simp] theorem State.setHandover_radioMap (n : CtxId) (x : Option Handover) :
    (s.setHandover n x).radioMap = s.radioMap := rfl

@[simp] theorem State.setHandover_chairs (n : CtxId) (x : Option Handover) :
    (s.setHandover n x).chairs = s.chairs := rfl

@[simp] theorem State.setHandover_links (n : CtxId) (x : Option Handover) :
    (s.setHandover n x).links = s.links := rfl

@[simp] theorem State.setHandover_zones (n : CtxId) (x : Option Handover) :
    (s.setHandover n x).zones = s.zones := rfl

@[simp] theorem State.setHandover_closures (n : CtxId) (x : Option Handover) :
    (s.setHandover n x).closures = s.closures := rfl

@[simp] theorem State.setHandover_barriers (n : CtxId) (x : Option Handover) :
    (s.setHandover n x).barriers = s.barriers := rfl

@[simp] theorem State.setHandover_lamps (n : CtxId) (x : Option Handover) :
    (s.setHandover n x).lamps = s.lamps := rfl

@[simp] theorem State.setHandover_watch (n : CtxId) (x : Option Handover) :
    (s.setHandover n x).watch = s.watch := rfl

@[simp] theorem State.setHandover_queues (n : CtxId) (x : Option Handover) :
    (s.setHandover n x).queues = s.queues := rfl

@[simp] theorem State.setHandover_supQueue (n : CtxId) (x : Option Handover) :
    (s.setHandover n x).supQueue = s.supQueue := rfl

@[simp] theorem State.setHandover_supLink (n : CtxId) (x : Option Handover) :
    (s.setHandover n x).supLink = s.supLink := rfl

@[simp] theorem State.setHandover_fleet (n : CtxId) (x : Option Handover) :
    (s.setHandover n x).fleet = s.fleet := rfl

@[simp] theorem State.setHandover_params (n : CtxId) (x : Option Handover) :
    (s.setHandover n x).params = s.params := rfl

@[simp] theorem State.setHandover_watchAll (n : CtxId) (x : Option Handover) :
    (s.setHandover n x).watchAll = s.watchAll := rfl

@[simp] theorem State.setHandover_seconds (n : CtxId) (x : Option Handover) :
    (s.setHandover n x).seconds = s.seconds := rfl

@[simp] theorem State.setHandover_millis (n : CtxId) (x : Option Handover) :
    (s.setHandover n x).millis = s.millis := rfl

@[simp] theorem State.setHandover_stopAll (n : CtxId) (x : Option Handover) :
    (s.setHandover n x).stopAll = s.stopAll := rfl

@[simp] theorem State.setHandover_inputs (n : CtxId) (x : Option Handover) :
    (s.setHandover n x).inputs = s.inputs := rfl

@[simp] theorem State.setHandover_inReset (n : CtxId) (x : Option Handover) :
    (s.setHandover n x).inReset = s.inReset := rfl

@[simp] theorem State.setHandover_receivers (n : CtxId) (x : Option Handover) :
    (s.setHandover n x).receivers = s.receivers := rfl

@[simp] theorem State.setHandover_line (n : CtxId) (x : Option Handover) :
    (s.setHandover n x).line = s.line := rfl

@[simp] theorem State.setHandover_pending (n : CtxId) (x : Option Handover) :
    (s.setHandover n x).pending = s.pending := rfl

@[simp] theorem State.setHandover_loader (n : CtxId) (x : Option Handover) (l : LoaderId) :
    (s.setHandover n x).loader l = s.loader l := rfl

@[simp] theorem State.setHandover_chair (n : CtxId) (x : Option Handover) (c : ChairId) :
    (s.setHandover n x).chair c = s.chair c := rfl

@[simp] theorem State.setHandover_link (n : CtxId) (x : Option Handover) (c : ChairId) :
    (s.setHandover n x).link c = s.link c := rfl

@[simp] theorem State.setHandover_zone (n : CtxId) (x : Option Handover) (z : ZoneId) :
    (s.setHandover n x).zone z = s.zone z := rfl

@[simp] theorem State.setHandover_closure (n : CtxId) (x : Option Handover) (k : ClosureId) :
    (s.setHandover n x).closure k = s.closure k := rfl

@[simp] theorem State.setHandover_queue (n : CtxId) (x : Option Handover) (p : Port) :
    (s.setHandover n x).queue p = s.queue p := by cases p <;> rfl

@[simp] theorem State.setHandover_slot (n : CtxId) (x : Option Handover) (c : ChairId) (i : SlotId) :
    (s.setHandover n x).slot c i = s.slot c i := rfl

/-! ## `modQueue` and the rest -/

@[simp] theorem State.modQueue_loaders (p : Port) (f : OutQueue → OutQueue) :
    (s.modQueue p f).loaders = s.loaders := by cases p <;> rfl

@[simp] theorem State.modQueue_radioMap (p : Port) (f : OutQueue → OutQueue) :
    (s.modQueue p f).radioMap = s.radioMap := by cases p <;> rfl

@[simp] theorem State.modQueue_chairs (p : Port) (f : OutQueue → OutQueue) :
    (s.modQueue p f).chairs = s.chairs := by cases p <;> rfl

@[simp] theorem State.modQueue_links (p : Port) (f : OutQueue → OutQueue) :
    (s.modQueue p f).links = s.links := by cases p <;> rfl

@[simp] theorem State.modQueue_zones (p : Port) (f : OutQueue → OutQueue) :
    (s.modQueue p f).zones = s.zones := by cases p <;> rfl

@[simp] theorem State.modQueue_closures (p : Port) (f : OutQueue → OutQueue) :
    (s.modQueue p f).closures = s.closures := by cases p <;> rfl

@[simp] theorem State.modQueue_barriers (p : Port) (f : OutQueue → OutQueue) :
    (s.modQueue p f).barriers = s.barriers := by cases p <;> rfl

@[simp] theorem State.modQueue_lamps (p : Port) (f : OutQueue → OutQueue) :
    (s.modQueue p f).lamps = s.lamps := by cases p <;> rfl

@[simp] theorem State.modQueue_handovers (p : Port) (f : OutQueue → OutQueue) :
    (s.modQueue p f).handovers = s.handovers := by cases p <;> rfl

@[simp] theorem State.modQueue_watch (p : Port) (f : OutQueue → OutQueue) :
    (s.modQueue p f).watch = s.watch := by cases p <;> rfl

@[simp] theorem State.modQueue_supLink (p : Port) (f : OutQueue → OutQueue) :
    (s.modQueue p f).supLink = s.supLink := by cases p <;> rfl

@[simp] theorem State.modQueue_fleet (p : Port) (f : OutQueue → OutQueue) :
    (s.modQueue p f).fleet = s.fleet := by cases p <;> rfl

@[simp] theorem State.modQueue_params (p : Port) (f : OutQueue → OutQueue) :
    (s.modQueue p f).params = s.params := by cases p <;> rfl

@[simp] theorem State.modQueue_watchAll (p : Port) (f : OutQueue → OutQueue) :
    (s.modQueue p f).watchAll = s.watchAll := by cases p <;> rfl

@[simp] theorem State.modQueue_seconds (p : Port) (f : OutQueue → OutQueue) :
    (s.modQueue p f).seconds = s.seconds := by cases p <;> rfl

@[simp] theorem State.modQueue_millis (p : Port) (f : OutQueue → OutQueue) :
    (s.modQueue p f).millis = s.millis := by cases p <;> rfl

@[simp] theorem State.modQueue_stopAll (p : Port) (f : OutQueue → OutQueue) :
    (s.modQueue p f).stopAll = s.stopAll := by cases p <;> rfl

@[simp] theorem State.modQueue_inputs (p : Port) (f : OutQueue → OutQueue) :
    (s.modQueue p f).inputs = s.inputs := by cases p <;> rfl

@[simp] theorem State.modQueue_inReset (p : Port) (f : OutQueue → OutQueue) :
    (s.modQueue p f).inReset = s.inReset := by cases p <;> rfl

@[simp] theorem State.modQueue_receivers (p : Port) (f : OutQueue → OutQueue) :
    (s.modQueue p f).receivers = s.receivers := by cases p <;> rfl

@[simp] theorem State.modQueue_line (p : Port) (f : OutQueue → OutQueue) :
    (s.modQueue p f).line = s.line := by cases p <;> rfl

@[simp] theorem State.modQueue_pending (p : Port) (f : OutQueue → OutQueue) :
    (s.modQueue p f).pending = s.pending := by cases p <;> rfl

@[simp] theorem State.modQueue_loader (p : Port) (f : OutQueue → OutQueue) (l : LoaderId) :
    (s.modQueue p f).loader l = s.loader l := by cases p <;> rfl

@[simp] theorem State.modQueue_chair (p : Port) (f : OutQueue → OutQueue) (c : ChairId) :
    (s.modQueue p f).chair c = s.chair c := by cases p <;> rfl

@[simp] theorem State.modQueue_link (p : Port) (f : OutQueue → OutQueue) (c : ChairId) :
    (s.modQueue p f).link c = s.link c := by cases p <;> rfl

@[simp] theorem State.modQueue_zone (p : Port) (f : OutQueue → OutQueue) (z : ZoneId) :
    (s.modQueue p f).zone z = s.zone z := by cases p <;> rfl

@[simp] theorem State.modQueue_closure (p : Port) (f : OutQueue → OutQueue) (k : ClosureId) :
    (s.modQueue p f).closure k = s.closure k := by cases p <;> rfl

@[simp] theorem State.modQueue_handover (p : Port) (f : OutQueue → OutQueue) (k : CtxId) :
    (s.modQueue p f).handover k = s.handover k := by cases p <;> rfl

@[simp] theorem State.modQueue_slot (p : Port) (f : OutQueue → OutQueue) (c : ChairId)
    (i : SlotId) : (s.modQueue p f).slot c i = s.slot c i := by cases p <;> rfl

end Sys2Proof.Machine
end

