-- ==== Sys2Proof/Laws/Ops.lean ====
section
/-! SUPPORT. What each shared operation can do, said once: which parts of the state it may change
(`sameBut`), and what it makes of the record, the queue or the line it works on. -/

namespace Sys2Proof.Machine

/-! ## Composing frames -/

theorem State.sameBut.refl (ps : List Part) (s : State) : s.sameBut ps s := by
  intro p _; cases p <;> rfl

/-- The parts listed may be more than those that changed. -/
theorem State.sameBut.mono {ps qs : List Part} {s t : State} (h : s.sameBut ps t)
    (sub : ∀ p ∈ ps, p ∈ qs := by decide) : s.sameBut qs t := fun p hp => h p fun hq => hp (sub p hq)

theorem State.sameBut.trans {ps : List Part} {s t u : State} (h : s.sameBut ps t)
    (h' : t.sameBut ps u) : s.sameBut ps u := by
  intro p hp
  have a := h p hp
  have b := h' p hp
  cases p <;> simp only [Part.same] at * <;> rw [b, a]

/-- A fold keeps what each of its steps keeps. -/
theorem State.sameBut.foldl {α : Type} {ps : List Part} {f : State → α → State}
    (h : ∀ (s : State) (x : α), s.sameBut ps (f s x)) (xs : List α) (s : State) :
    s.sameBut ps (xs.foldl f s) := by
  induction xs generalizing s with
  | nil => exact .refl ps s
  | cons x xs ih => exact (h s x).trans (ih (f s x))

/-- What a part that is not listed holds. -/
theorem State.sameBut.loaders {ps : List Part} {s t : State} (h : s.sameBut ps t)
    (n : Part.loaders ∉ ps := by decide) : t.loaders = s.loaders := h .loaders n

variable (s : State)

/-! ## Frames of the updates -/

theorem State.setLoader_sameBut (l : LoaderId) (r : Loader) :
    s.sameBut [.loaders] (s.setLoader l r) := by
  intro p hp; cases p <;> first | rfl | simp at hp

theorem State.modLoader_sameBut (l : LoaderId) (f : Loader → Loader) :
    s.sameBut [.loaders] (s.modLoader l f) := s.setLoader_sameBut l _

theorem State.modChair_sameBut (c : ChairId) (f : Chair → Chair) :
    s.sameBut [.chairs] (s.modChair c f) := by
  intro p hp; cases p <;> first | rfl | simp at hp

theorem State.modSlot_sameBut (c : ChairId) (i : SlotId) (f : Slot → Slot) :
    s.sameBut [.chairs] (s.modSlot c i f) := s.modChair_sameBut c _

theorem State.fillSlot_sameBut (c : ChairId) (i : SlotId) (x : SlotContents) :
    s.sameBut [.chairs] (s.fillSlot c i x) := s.modSlot_sameBut c i _

theorem State.modLink_sameBut (c : ChairId) (f : ChairLink → ChairLink) :
    s.sameBut [.links] (s.modLink c f) := by
  intro p hp; cases p <;> first | rfl | simp at hp

theorem State.modZone_sameBut (z : ZoneId) (f : Zone → Zone) :
    s.sameBut [.zones] (s.modZone z f) := by
  intro p hp; cases p <;> first | rfl | simp at hp

theorem State.setClosure_sameBut (k : ClosureId) (x : Option Closure) :
    s.sameBut [.closures] (s.setClosure k x) := by
  intro p hp; cases p <;> first | rfl | simp at hp

theorem State.setHandover_sameBut (k : CtxId) (x : Option Handover) :
    s.sameBut [.handovers] (s.setHandover k x) := by
  intro p hp; cases p <;> first | rfl | simp at hp

theorem State.modQueue_sameBut (q : Port) (f : OutQueue → OutQueue) :
    s.sameBut [.queues, .supQueue] (s.modQueue q f) := by
  intro p hp; cases q <;> cases p <;> first | rfl | simp at hp

/-! ## Replies and notices touch the delivery queues alone -/

theorem State.answer_sameBut (h : Header) (k : ReqKind) (r : Reply) :
    s.sameBut [.queues, .supQueue] (s.answer h k r) := s.modQueue_sameBut _ _

theorem State.ok_sameBut (h : Header) (k : ReqKind) (b : OkBody) :
    s.sameBut [.queues, .supQueue] (s.ok h k b) := s.answer_sameBut h k _

theorem State.toChair_sameBut (c : ChairId) (b : FrameBody) :
    s.sameBut [.queues, .supQueue] (s.toChair c b) := by
  unfold State.toChair; split
  · exact s.modQueue_sameBut _ _
  · exact .refl _ s

theorem State.tellChair_sameBut (c : ChairId) (n : Notice) :
    s.sameBut [.queues, .supQueue] (s.tellChair c n) := s.toChair_sameBut c _

theorem State.tellChair?_sameBut (c : Option ChairId) (n : Notice) :
    s.sameBut [.queues, .supQueue] (s.tellChair? c n) := by
  cases c
  · exact .refl _ s
  · exact s.tellChair_sameBut _ n

theorem State.tellSup_sameBut (n : Notice) : s.sameBut [.queues, .supQueue] (s.tellSup n) :=
  s.modQueue_sameBut _ _

/-- A reply joins the sender's queue with the request's tag. -/
theorem State.answer_queue (h : Header) (k : ReqKind) (r : Reply) :
    (s.answer h k r).queue h.sender.port = (s.queue h.sender.port).join ⟨h.tag, .reply k r⟩ := by
  simp [State.answer]

/-! ## The delivery queue (07 R141 to R143) -/

theorem gain_eq (n m : Nat) : gain n m = min 65535 (m + n) := rfl

/-- What joining a queue leaves being sent. -/
@[simp] theorem OutQueue.join_sending (q : OutQueue) (f : Frame) :
    (q.join f).sending = q.sending := by
  unfold OutQueue.join OutQueue.drop; split <;> (try split) <;> (try split) <;> (try split) <;>
    (try split) <;> rfl

/-- A queue with room takes a frame that is no report at its tail. -/
theorem OutQueue.join_room (q : OutQueue) (f : Frame) (h : q.frames.length < 32)
    (n : f.isReport = false) : q.join f = { q with frames := q.frames ++ [f] } := by
  simp [OutQueue.join, n, Config.queueLimit, h]

/-- A queue never grows past its limit. -/
theorem OutQueue.join_length (q : OutQueue) (f : Frame) (h : q.frames.length ≤ 32) :
    (q.join f).frames.length ≤ 32 := by
  unfold OutQueue.join OutQueue.drop Config.queueLimit
  split
  · simpa using h
  split
  · simp; omega
  split
  · rename_i a; simp only [List.length_append, List.length_eraseP, a]; simp
    have : 0 < q.frames.length := List.length_pos_of_ne_nil (by rintro e; simp [e] at a)
    omega
  split
  · exact h
  split
  · rename_i a; simp only [List.length_append, List.length_eraseP, a]; simp
    have : 0 < q.frames.length := List.length_pos_of_ne_nil (by rintro e; simp [e] at a)
    omega
  · exact h

/-- A frame is a reply, a notice or a forwarded report. -/
theorem Frame.kind_cases (f : Frame) :
    (f.isReply = true ∧ f.isNotice = false ∧ f.isReport = false) ∨
      (f.isReply = false ∧ f.isNotice = true ∧ f.isReport = false) ∨
      (f.isReply = false ∧ f.isNotice = false ∧ f.isReport = true) := by
  obtain ⟨t, b⟩ := f
  cases b <;> simp [Frame.isReply, Frame.isNotice, Frame.isReport, Frame.reportOf]

/-- What `eraseP` takes out satisfied its test. -/
theorem mem_eraseP_of_not {α : Type} {p : α → Bool} {x : α} {xs : List α} (h : x ∈ xs)
    (n : p x = false) : x ∈ xs.eraseP p :=
  (List.mem_eraseP_of_neg (by simp [n])).2 h

/-- A reply is never removed from a queue by a frame that joins (07 R143). -/
theorem OutQueue.join_keeps_reply (q : OutQueue) (f g : Frame) (h : g ∈ q.frames)
    (r : g.isReply = true) : g ∈ (q.join f).frames := by
  have k := g.kind_cases
  simp only [r] at k
  have np : g.isReport = false := by simp_all
  have nn : g.isNotice = false := by simp_all
  have nr : g.reportOf = none := by simpa [Frame.isReport] using np
  unfold OutQueue.join
  split
  · next hr =>
    refine List.mem_map.2 ⟨g, h, ?_⟩
    have : f.reportOf ≠ none := by
      intro e; simp [Frame.isReport, e] at hr
    rw [nr, if_neg]
    cases e : f.reportOf <;> simp_all
  · split
    · simp [h]
    · split
      · simp [OutQueue.drop, mem_eraseP_of_not h np]
      · split
        · exact h
        · split
          · simp [OutQueue.drop, mem_eraseP_of_not h nn]
          · exact h

/-- A reply joins its queue unless the queue holds 32 replies (07 R141, R143). -/
theorem OutQueue.join_reply_mem (q : OutQueue) (f : Frame) (r : f.isReply = true)
    (room : q.fullOfReplies = false) : f ∈ (q.join f).frames := by
  have k := f.kind_cases
  simp only [r] at k
  have np : f.isReport = false := by simp_all
  unfold OutQueue.join
  simp only [np, Bool.false_and, Bool.false_eq_true, if_false]
  split
  · simp
  · next full =>
    split
    · simp [OutQueue.drop]
    · next noReport =>
      split
      · simp [OutQueue.drop]
      · next noNotice =>
        exfalso
        have all : ∀ g ∈ q.frames, g.isReply = true := by
          intro g hg
          have a : g.isReport ≠ true := fun e => noReport (List.any_eq_true.2 ⟨g, hg, e⟩)
          have b : g.isNotice ≠ true := fun e => noNotice (List.any_eq_true.2 ⟨g, hg, e⟩)
          rcases g.kind_cases with h | h | h
          · exact h.1
          · exact absurd h.2.1 b
          · exact absurd h.2.2 a
        have : q.frames.countP Frame.isReply = q.frames.length := List.countP_eq_length.2 all
        simp [OutQueue.fullOfReplies, this, Config.queueLimit] at room full
        omega

/-! ## The order line (01 R6, 08 R158, R159) -/

/-- An order changes the fleet link alone, as `State.ordered` says. -/
theorem State.order_eq (l : LoaderId) (b : OrderBody) :
    s.order l b = { s with fleet := s.ordered l b } := by
  unfold State.order State.ordered
  cases h : s.radioMap[l] <;> rfl

theorem State.order_sameBut (l : LoaderId) (b : OrderBody) :
    s.sameBut [.fleet] (s.order l b) := by
  rw [s.order_eq]; intro p hp; cases p <;> first | rfl | simp at hp

@[simp] theorem State.order_loader (l n : LoaderId) (b : OrderBody) :
    (s.order l b).loader n = s.loader n := by rw [s.order_eq]; rfl

@[simp] theorem State.order_fleet (l : LoaderId) (b : OrderBody) :
    (s.order l b).fleet = s.ordered l b := by rw [s.order_eq]

/-- Step 3 of 08 R159 takes one order out, unless no loader has two orders waiting. -/
theorem dropOvertaken_length (xs : List Order) :
    (dropOvertaken xs).length + 1 = xs.length ∨ (xs.map (·.loader)).Nodup := by
  induction xs with
  | nil => simp
  | cons x xs ih =>
    unfold dropOvertaken
    split
    · simp
    · rename_i h
      rcases ih with ih | ih
      · left; simp [ih]
      · right
        simp only [List.map_cons, List.nodup_cons, ih, and_true, List.mem_map, not_exists, not_and]
        intro y hy e
        exact h (List.any_eq_true.2 ⟨y, hy, by simp [e]⟩)

/-- Step 3 of 08 R159 takes out the oldest order that a later one of its loader follows, where some
loader has two orders waiting. -/
theorem dropOvertaken_split (xs : List Order) (h : ¬ (xs.map (·.loader)).Nodup) :
    ∃ before d after, xs = before ++ d :: after ∧ dropOvertaken xs = before ++ after ∧
      (∃ x ∈ after, x.loader = d.loader) ∧
      ∀ first y later, before = first ++ y :: later →
        ∀ x ∈ later ++ d :: after, x.loader ≠ y.loader := by
  induction xs with
  | nil => simp at h
  | cons o xs ih =>
    by_cases overtaken : xs.any (·.loader == o.loader) = true
    · refine ⟨[], o, xs, rfl, by simp [dropOvertaken, overtaken], by simpa using overtaken, ?_⟩
      intro first y later e
      simp at e
    · have alone : ∀ x ∈ xs, x.loader ≠ o.loader := by simpa using overtaken
      have rest : ¬ (xs.map (·.loader)).Nodup := fun n => h (by
        simp only [List.map_cons, List.nodup_cons, List.mem_map, not_exists, not_and]
        exact ⟨fun x hx => alone x hx, n⟩)
      obtain ⟨before, d, after, e, drop, later, oldest⟩ := ih rest
      refine ⟨o :: before, d, after, by simp [e], by simp [dropOvertaken, overtaken, drop], later, ?_⟩
      intro first y later e' x hx
      cases first with
      | nil =>
        simp only [List.nil_append, List.cons.injEq] at e'
        exact e'.1 ▸ alone x (by rw [e, e'.2]; exact hx)
      | cons z first =>
        simp only [List.cons_append, List.cons.injEq] at e'
        exact oldest first y later e'.2 x hx

/-- The order line never grows past its limit. -/
theorem FleetLink.join_length (f : FleetLink) (o : Order) (h : f.orders.length ≤ 64) :
    (f.join o).orders.length ≤ 64 := by
  unfold FleetLink.join FleetLink.drop Config.orderLimit
  split
  · simp; omega
  split
  · rename_i a
    have : 0 < f.orders.length := List.length_pos_of_ne_nil (by rintro e; simp [e] at a)
    simp only [List.length_append, List.length_eraseP, a]; simp; omega
  split
  · exact h
  · rename_i full _ _
    have : (dropOvertaken f.orders).length + 1 = f.orders.length := by
      rcases dropOvertaken_length f.orders with d | d
      · exact d
      · have := d.length_le_card
        simp at this; omega
    simp; omega

/-! ## Taking a frame (08 R151, R155, R156) -/

@[simp] theorem State.running_of (body : State → State) (h : s.inReset = false) :
    s.running body = body s := by simp [State.running, h]

@[simp] theorem State.running_reset (body : State → State) (h : s.inReset = true) :
    s.running body = s := by simp [State.running, h]

/-- The error counter and the tally after a valid frame (08 R152), as `State.heard` writes them. -/
theorem tallyValid_eq (e t : Nat) :
    tallyValid e t = (if t < 15 then e else e - 1, if t < 15 then t + 1 else 0) := by
  unfold tallyValid Config.runLength
  by_cases h : t < 15
  · simp [h, show t + 1 < 16 by omega]
  · simp [h, show ¬t + 1 < 16 by omega]

/-- A frame that is heard does not newly press the chair stop. -/
theorem State.newlyPressed_of_hears (c : ChairId) (panel : Byte)
    (h : s.hears (.chair c panel)) : s.newlyPressed c panel = false := by
  obtain ⟨_, _, stop⟩ := h
  cases hp : panelStop panel <;> simp_all [State.newlyPressed]

/-- Nor does the frame of any sender that is heard. -/
theorem State.carriesStop_of_hears (x : Sender) (h : s.hears x) : s.carriesStop x = false := by
  cases x with
  | chair c panel => exact s.newlyPressed_of_hears c panel h
  | supervisor => rfl

/-- A PING is answered (08 R155, R156), where the free value is true or the PING does not newly press
the chair stop. -/
theorem State.ping_answered (h : Header) (answers : Bool)
    (heard : answers = true ∨ s.carriesStop h.sender = false) :
    s.ping h answers = s.takeRequest h fun t =>
      t.ok h .ping (.ping t.seconds (t.errorsOf h.sender)) := by
  rcases heard with rfl | calm <;> simp [State.ping, State.takePing, *]

/-- With the free value false, a PING that newly presses the chair stop leaves what its frame and
06 R129 leave, and nothing more. -/
theorem State.ping_silent (h : Header) (stop : s.carriesStop h.sender = true) :
    s.ping h false = s.takeRequest h fun t => t := by
  simp [State.ping, State.takePing, stop]

/-- A frame of a chair that is heard leaves the state `heard` before it is acted on. -/
theorem State.takeChairFrame_of_hears (c : ChairId) (panel : Byte) (body : State → State)
    (h : s.hears (.chair c panel)) :
    s.takeChairFrame c panel body = body (s.heard (.chair c panel)) := by
  have up := h.2.1
  have e : (s.modLink c fun k => (k.restartSilence s.params).valid).takePanel c panel =
      s.heard (.chair c panel) := by
    have fresh := s.newlyPressed_of_hears c panel h
    simp only [State.newlyPressed] at fresh
    simp only [State.takePanel, State.newlyPressed, State.modLink_chair, fresh]
    simp [State.heard, State.modLink, State.modChair, ChairLink.valid, tallyValid_eq,
      ChairLink.restartSilence, Timer.start, panelStop, panelNeutral, State.chair, State.link]
    rfl
  simp only [State.takeChairFrame, up, e]

/-- A request that is ready reaches its owner in the state `heard`. -/
theorem State.takeRequest_of_ready (h : Header) (body : State → State) (r : s.ready h) :
    s.takeRequest h body = body (s.heard h.sender) := by
  obtain ⟨⟨run, hear⟩, full⟩ := r
  obtain ⟨x, tag⟩ := h
  cases x with
  | chair c panel =>
    have q : (s.heard (.chair c panel)).queue (.chair c) = s.queue (.chair c) := rfl
    have full' : (s.queue (.chair c)).fullOfReplies = false := full
    simp only [State.takeRequest, s.running_of _ run,
      s.takeChairFrame_of_hears c panel _ ⟨run, hear⟩, State.pass, q, full']
    rfl
  | supervisor =>
    have e : { s with supLink := s.supLink.valid } = s.heard .supervisor := by
      simp [State.heard, SupLink.valid, tallyValid_eq]
    have q : (s.heard .supervisor).queue .supervisor = s.queue .supervisor := rfl
    have full' : (s.queue .supervisor).fullOfReplies = false := full
    simp only [State.takeRequest, s.running_of _ run, e, State.pass, q, full']
    rfl

end Sys2Proof.Machine
end

