-- ==== Sys2Proof/Laws/Frames.lean ====
section
/-! SUPPORT. The frames of the operations on loaders, zones, watches, handovers and links: which parts
of the state each may change, and the record that the ones on a loader leave. -/

namespace Sys2Proof.Machine

variable (s : State)

/-! ## Loaders, lamps and zones -/

theorem State.emitHold_sameBut (l : LoaderId) : s.sameBut [.loaders, .fleet] (s.emitHold l) := by
  have h := (s.order_sameBut l .hold).mono (qs := [.loaders, .fleet])
  unfold State.emitHold
  dsimp only
  split
  · exact h.trans ((State.modLoader_sameBut _ _ _).mono)
  · exact h

theorem State.settleRefresh_sameBut (l : LoaderId) :
    s.sameBut [.loaders] (s.settleRefresh l) := by
  unfold State.settleRefresh
  split
  · exact .refl _ s
  · exact s.modLoader_sameBut _ _

theorem State.startLapse_sameBut (l : LoaderId) : s.sameBut [.loaders] (s.startLapse l) :=
  s.modLoader_sameBut _ _

theorem State.stopLapse_sameBut (l : LoaderId) : s.sameBut [.loaders] (s.stopLapse l) :=
  s.modLoader_sameBut _ _

theorem State.setLapse_sameBut (l : LoaderId) (m : Mode) :
    s.sameBut [.loaders] (s.setLapse l m) := by
  cases m
  · exact s.startLapse_sameBut l
  · exact s.stopLapse_sameBut l

theorem State.updateLamps_sameBut : s.sameBut [.lamps] s.updateLamps := by
  intro p hp; cases p <;> first | rfl | simp at hp

theorem State.markEntered_sameBut (z : ZoneId) : s.sameBut [.zones] (s.markEntered z) :=
  s.modZone_sameBut z _

theorem State.raiseAttention_sameBut (z : ZoneId) (l : LoaderId) :
    s.sameBut [.zones, .queues, .supQueue] (s.raiseAttention z l) := by
  unfold State.raiseAttention
  have h := fun f => (s.modZone_sameBut z f).mono (qs := [.zones, .queues, .supQueue])
  split
  · exact .refl _ s
  · dsimp only
    split
    · exact h _
    · exact (h _).trans ((State.tellSup_sameBut _ _).mono)

theorem State.recordPresence_sameBut (l : LoaderId) :
    s.sameBut [.zones, .queues, .supQueue] (s.recordPresence l) := by
  unfold State.recordPresence
  split
  · exact .refl _ s
  · split
    · exact s.raiseAttention_sameBut _ _
    · exact .refl _ s

/-! ## Closures (02 R35) -/

theorem State.completeClosure_sameBut (z : ZoneId) (k : ClosureId) (n : Nat) :
    s.sameBut [.zones, .closures, .queues, .supQueue] (s.completeClosure z k n) :=
  (((s.setClosure_sameBut k _).mono).trans
    ((State.modZone_sameBut _ z _).mono)).trans
      ((State.tellSup_sameBut _ _).mono)

theorem State.checkClosure_sameBut (z : ZoneId) (n : Nat) :
    s.sameBut [.zones, .closures, .queues, .supQueue] (s.checkClosure z n) := by
  unfold State.checkClosure
  split
  · split
    · exact s.completeClosure_sameBut _ _ _
    · exact .refl _ s
  · exact .refl _ s

theorem State.checkClosure?_sameBut (z : Option ZoneId) :
    s.sameBut [.zones, .closures, .queues, .supQueue] (s.checkClosure? z) := by
  cases z
  · exact .refl _ s
  · exact s.checkClosure_sameBut _ _

theorem State.checkZoneOf_sameBut (l : LoaderId) :
    s.sameBut [.zones, .closures, .queues, .supQueue] (s.checkZoneOf l) :=
  s.checkClosure?_sameBut _

theorem State.checkClosures_sameBut (p : ZoneId → Bool) :
    s.sameBut [.zones, .closures, .queues, .supQueue] (s.checkClosures p) := by
  refine State.sameBut.foldl (fun s k => ?_) _ s
  split
  · split
    · exact s.checkClosure_sameBut _ _
    · exact .refl _ s
  · exact .refl _ s

/-! ## Watches (07 R134 to R138) -/

theorem State.tellEvicted_sameBut (p : Option (ChairId × LoaderId)) (w : WatchPart) :
    s.sameBut [.queues, .supQueue] (s.tellEvicted p w) := by
  unfold State.tellEvicted
  split
  · exact s.tellChair_sameBut _ _
  · exact .refl _ s

theorem State.setWatch_sameBut (w : WatchTable) : s.sameBut [.watch] { s with watch := w } := by
  intro p hp; cases p <;> first | rfl | simp at hp

theorem State.lockPair_sameBut (c : ChairId) (l : LoaderId) :
    s.sameBut [.watch, .queues, .supQueue] (s.lockPair c l) :=
  ((s.setWatch_sameBut _).mono).trans ((State.tellEvicted_sameBut _ _ _).mono)

theorem State.placeWatch_sameBut (c : ChairId) (l : LoaderId) :
    s.sameBut [.watch, .queues, .supQueue] (s.placeWatch c l) :=
  ((s.setWatch_sameBut _).mono).trans ((State.tellEvicted_sameBut _ _ _).mono)

theorem State.unlockPair_sameBut (c : ChairId) (l : LoaderId) :
    s.sameBut [.watch] (s.unlockPair c l) := s.setWatch_sameBut _

/-! ## Entry to HALTED (06 R117) -/

theorem State.vacate_sameBut (l : LoaderId) : s.sameBut [.chairs, .watch] (s.vacate l) := by
  unfold State.vacate
  split
  · exact ((s.fillSlot_sameBut _ _ _).mono).trans
      ((State.unlockPair_sameBut _ _ _).mono)
  · exact .refl _ s

theorem State.tellHalted_sameBut (l : LoaderId) (i : Option SlotId) (c : Cause) :
    s.sameBut [.queues, .supQueue] (s.tellHalted l i c) :=
  (s.tellChair?_sameBut _ _).trans (State.tellSup_sameBut _ _)

/-- The parts that the halt of a loader can change. -/
abbrev haltParts : List Part :=
  [.loaders, .handovers, .chairs, .watch, .queues, .supQueue, .fleet, .lamps]

theorem State.enterHaltedWith_sameBut (l : LoaderId) (c : Cause) (h : Option HaltRecord) :
    s.sameBut [.loaders, .chairs, .watch, .queues, .supQueue, .fleet, .lamps]
      (s.enterHaltedWith l c h) := by
  unfold State.enterHaltedWith
  exact (((((s.vacate_sameBut l).mono).trans
    ((State.modLoader_sameBut _ _ _).mono)).trans
    ((State.emitHold_sameBut _ _).mono)).trans
    ((State.tellHalted_sameBut _ _ _ _).mono)).trans
    ((State.updateLamps_sameBut _).mono)

theorem State.enterHalted_sameBut (l : LoaderId) (c : Cause) :
    s.sameBut [.loaders, .chairs, .watch, .queues, .supQueue, .fleet, .lamps]
      (s.enterHalted l c) := s.enterHaltedWith_sameBut l c none

theorem State.haltAll_sameBut (ls : List LoaderId) (c : Cause) :
    s.sameBut [.loaders, .chairs, .watch, .queues, .supQueue, .fleet, .lamps]
      (s.haltAll ls c) := .foldl (fun s l => s.enterHalted_sameBut l c) ls s

theorem State.furtherAll_sameBut (ls : List LoaderId) (c : Cause) :
    s.sameBut [.loaders] (s.furtherAll ls c) :=
  .foldl (fun s l => s.modLoader_sameBut l _) ls s

/-! ## Grants (03 R53) -/

theorem State.grant_sameBut (l : LoaderId) (c : ChairId) (i : SlotId) (m : Mode) :
    s.sameBut [.loaders, .chairs, .zones, .lamps, .watch, .queues, .supQueue]
      (s.grant l c i m) := by
  unfold State.grant
  exact (((((((s.modLoader_sameBut _ _).mono).trans
    ((State.modSlot_sameBut _ _ _ _).mono)).trans
    ((State.setLapse_sameBut _ _ _).mono)).trans
    ((State.settleRefresh_sameBut _ _).mono)).trans
    ((State.lockPair_sameBut _ _ _).mono)).trans
    ((State.recordPresence_sameBut _ _).mono)).trans
    ((State.updateLamps_sameBut _).mono)

/-! ## Handovers (04 R66 to R90) -/

theorem State.tellParties_sameBut (h : Handover) (n : Notice) :
    s.sameBut [.queues, .supQueue] (s.tellParties h n) :=
  (s.tellChair?_sameBut _ _).trans (State.tellChair_sameBut _ _ _)

theorem State.createHandover_sameBut (x : Start) (p : Phase) (ms : Nat) :
    s.sameBut [.loaders, .handovers, .chairs, .watch, .queues, .supQueue, .lamps]
      (s.createHandover x p ms) := by
  unfold State.createHandover
  have h := ((s.setHandover_sameBut x.context (some
    { loader := x.loader, kind := x.kind, releasing := (s.loader x.loader).releasing
      taking := x.taking, slot := x.slot, target := x.target, phase := p, timer := Timer.start ms
      suspended := false, watchdog := Timer.start s.params.watchdogMs
      held := (s.loader x.loader).halt })).mono
    (qs := [.loaders, .handovers, .chairs, .watch, .queues, .supQueue, .lamps]) ).trans
    ((State.modLoader_sameBut _ x.loader fun r =>
      { r with
        state := .transfer, prior := some r.state, context := some x.context, halt := none }).mono)
  dsimp only
  refine .trans ?_ ((State.updateLamps_sameBut _).mono)
  refine .trans ?_ ((State.lockPair_sameBut _ _ _).mono)
  split
  · exact h.trans ((State.fillSlot_sameBut _ _ _ _).mono)
  · exact h

/-- The parts that the entry to a phase can change. -/
abbrev phaseParts : List Part := [.loaders, .handovers, .fleet, .queues, .supQueue]

theorem State.enterSettling_sameBut (k : CtxId) : s.sameBut phaseParts (s.enterSettling k) := by
  unfold State.enterSettling
  split
  · exact .refl _ s
  · exact (((s.setHandover_sameBut _ _).mono).trans
      ((State.emitHold_sameBut _ _).mono)).trans
      ((State.tellParties_sameBut _ _ _).mono)

theorem State.enterConfirming_sameBut (k : CtxId) :
    s.sameBut phaseParts (s.enterConfirming k) := by
  unfold State.enterConfirming
  split
  · exact .refl _ s
  · dsimp only
    refine .trans ?_ ((State.tellChair?_sameBut _ _ _).mono)
    refine .trans ?_ ((State.tellChair_sameBut _ _ _).mono)
    refine .trans ?_ ((State.emitHold_sameBut _ _).mono)
    split
    · exact ((s.setHandover_sameBut _ _).mono).trans
        ((State.stopLapse_sameBut _ _).mono)
    · exact (s.setHandover_sameBut _ _).mono

theorem State.returnToSettling_sameBut (k : CtxId) :
    s.sameBut phaseParts (s.returnToSettling k) := by
  unfold State.returnToSettling
  split
  · exact .refl _ s
  · dsimp only
    split
    · exact ((s.startLapse_sameBut _).mono).trans (State.enterSettling_sameBut _ _)
    · exact s.enterSettling_sameBut _

theorem State.decidePhase_sameBut (k : CtxId) : s.sameBut phaseParts (s.decidePhase k) := by
  unfold State.decidePhase
  split
  · exact .refl _ s
  · split
    · exact s.enterConfirming_sameBut _
    · exact s.enterSettling_sameBut _

theorem State.commit_sameBut (k : CtxId) :
    s.sameBut [.loaders, .handovers, .chairs, .zones, .lamps, .watch, .queues, .supQueue]
      (s.commit k) := by
  unfold State.commit
  split
  · exact .refl _ s
  split
  · exact .refl _ s
  dsimp only
  refine .trans ?_ ((State.setHandover_sameBut _ _ _).mono)
  refine .trans ?_ ((State.tellSup_sameBut _ _).mono)
  have h : ∀ l c i m n, s.sameBut
      [.loaders, .handovers, .chairs, .zones, .lamps, .watch, .queues, .supQueue]
      (((s.vacate l).grant l c i m).tellChair c n) := fun l c i m n =>
    (s.vacate_sameBut l).mono.trans
      ((State.grant_sameBut _ _ _ _ _).mono.trans (State.tellChair_sameBut _ _ _).mono)
  split
  · exact .trans (h _ _ _ _ _) (State.tellChair_sameBut _ _ _).mono
  · exact h _ _ _ _ _

theorem State.revertToDriven_sameBut (l : LoaderId) (p : Phase) :
    s.sameBut [.loaders, .chairs] (s.revertToDriven l p) := by
  unfold State.revertToDriven
  dsimp only
  refine .trans ?_ ((State.settleRefresh_sameBut _ _).mono)
  have h := (s.modLoader_sameBut l (·.left .driven)).mono (qs := [.loaders, .chairs])
  split
  · have h := h.trans ((State.startLapse_sameBut _ l).mono)
    split
    · exact h.trans ((State.modSlot_sameBut _ _ _ _).mono)
    · exact h
  · exact h

theorem State.revertTo_sameBut (l : LoaderId) (p : LoaderState) (h : Handover) :
    s.sameBut [.loaders, .chairs, .fleet] (s.revertTo l p h) := by
  unfold State.revertTo
  have stop := fun f => ((s.modLoader_sameBut l f).trans (State.stopLapse_sameBut _ l)).mono
    (qs := [.loaders, .chairs, .fleet])
  split
  · exact (s.revertToDriven_sameBut _ _).mono
  · exact (stop _).trans ((State.emitHold_sameBut _ _).mono)
  · exact (stop _).trans ((State.emitHold_sameBut _ _).mono)
  · exact (stop _).trans ((State.settleRefresh_sameBut _ _).mono)

theorem State.orphan_sameBut (l : LoaderId) : s.sameBut [.loaders] (s.orphan l) :=
  ((s.modLoader_sameBut _ _).trans (State.stopLapse_sameBut _ _)).trans
    (State.settleRefresh_sameBut _ _)

theorem State.leaveTransfer_sameBut (l : LoaderId) (f : Fate) (p : LoaderState) (h : Handover) :
    s.sameBut [.loaders, .chairs, .fleet] (s.leaveTransfer l f p h) := by
  cases f
  · exact s.revertTo_sameBut _ _ _
  · exact (s.orphan_sameBut _).mono
  · exact .refl _ s

theorem State.dropReservation_sameBut (h : Handover) :
    s.sameBut [.chairs, .watch] (s.dropReservation h) := by
  unfold State.dropReservation
  dsimp only
  refine .trans ?_ ((State.unlockPair_sameBut _ _ _).mono)
  split
  · exact (s.fillSlot_sameBut _ _ _).mono
  · exact .refl _ s

theorem State.abort_sameBut (k : CtxId) (e : AbortEvent) : s.sameBut haltParts (s.abort k e) := by
  unfold State.abort
  split
  · exact .refl _ s
  rename_i h _
  dsimp only
  have frame : s.sameBut haltParts (((((s.dropReservation h).leaveTransfer h.loader (s.fateOf h e)
      ((s.loader h.loader).prior.getD .parked) h).tellParties h
      (.handoverEnded k h.loader h.kind (some e.cause)
        ((s.fateOf h e).stateAfter ((s.loader h.loader).prior.getD .parked)) h.taking h.slot
        h.target 0)).tellSup (.handoverEnded k h.loader h.kind (some e.cause)
        ((s.fateOf h e).stateAfter ((s.loader h.loader).prior.getD .parked)) h.taking h.slot
        h.target 0)).setHandover k none) :=
    (((((s.dropReservation_sameBut h).mono).trans
      ((State.leaveTransfer_sameBut _ _ _ _ _).mono)).trans
      ((State.tellParties_sameBut _ _ _).mono)).trans
      ((State.tellSup_sameBut _ _).mono)).trans
      ((State.setHandover_sameBut _ _ _).mono)
  split
  · exact frame.trans ((State.enterHaltedWith_sameBut _ _ _ _).mono)
  · exact frame.trans ((State.updateLamps_sameBut _).mono)

theorem State.abortAll_sameBut (ks : List CtxId) (e : CtxId → AbortEvent) :
    s.sameBut haltParts (s.abortAll ks e) := .foldl (fun s k => s.abort_sameBut k (e k)) ks s

/-- The parts that a halt and the completion checks after it can change. -/
abbrev eventParts : List Part :=
  [.loaders, .handovers, .chairs, .watch, .queues, .supQueue, .fleet, .lamps, .zones, .closures]

theorem State.abortAlone_sameBut (k : CtxId) (e : AbortEvent) :
    s.sameBut eventParts (s.abortAlone k e) := by
  unfold State.abortAlone
  split
  · exact .refl _ s
  · exact ((s.abort_sameBut _ _).mono).trans
      ((State.checkZoneOf_sameBut _ _).mono)

theorem State.haltLoader_sameBut (l : LoaderId) (c : Cause) (e : AbortEvent) :
    s.sameBut haltParts (s.haltLoader l c e) := by
  unfold State.haltLoader
  split
  · split
    · exact s.abort_sameBut _ _
    · exact .refl _ s
  · exact (s.enterHalted_sameBut _ _).mono
  · exact (s.enterHalted_sameBut _ _).mono
  · exact (s.enterHalted_sameBut _ _).mono
  · exact .refl _ s

theorem State.takeAuthority_sameBut (ls : List LoaderId) (e : AbortEvent) :
    s.sameBut haltParts (s.takeAuthority ls e) :=
  (s.abortAll_sameBut _ _).trans ((State.haltAll_sameBut _ _ _).mono)

/-! ## Chair stop and the loss of a link (06 R120, R129) -/

theorem State.pressStop_sameBut (c : ChairId) : s.sameBut eventParts (s.pressStop c) := by
  unfold State.pressStop
  exact (((s.abortAll_sameBut _ _).mono).trans
    ((State.haltAll_sameBut _ _ _).mono)).trans
    ((State.checkClosures_sameBut _ _).mono)

theorem State.takePanel_sameBut (c : ChairId) (p : Byte) :
    s.sameBut eventParts (s.takePanel c p) := by
  unfold State.takePanel
  dsimp only
  have h := (s.modChair_sameBut c fun r =>
    { r with stop := panelStop p, neutral := panelNeutral p }).mono (qs := eventParts)
  split
  · exact h.trans (State.pressStop_sameBut _ _)
  · exact h

theorem State.loseLoader_sameBut (l : LoaderId) : s.sameBut haltParts (s.loseLoader l) := by
  unfold State.loseLoader
  split
  · exact (s.enterHalted_sameBut _ _).mono
  · split
    · exact (s.orphan_sameBut _).mono
    · exact (s.enterHalted_sameBut _ _).mono
  · exact .refl _ s

theorem State.loseLink_sameBut (c : ChairId) : s.sameBut (.links :: eventParts) (s.loseLink c) := by
  unfold State.loseLink
  dsimp only
  exact ((((((s.modLink_sameBut c _).mono).trans
    ((State.abortAll_sameBut _ _ _).mono)).trans
    ((State.sameBut.foldl (fun s l => s.loseLoader_sameBut l) _ _).mono)).trans
    ((State.checkClosures_sameBut _ _).mono)).trans
    ((State.setWatch_sameBut _ _).mono)).trans
    (((State.modQueue_sameBut _ _ _).mono).trans
      ((State.tellSup_sameBut _ _).mono))

/-! ## The record that an operation on a loader leaves -/

theorem State.emitHold_loader_ne {l n : LoaderId} (h : n ≠ l) :
    (s.emitHold l).loader n = s.loader n := by
  unfold State.emitHold
  dsimp only
  split <;> simp [State.modLoader, h]

theorem State.settleRefresh_loader_ne {l n : LoaderId} (h : n ≠ l) :
    (s.settleRefresh l).loader n = s.loader n := by
  unfold State.settleRefresh
  split <;> simp [State.modLoader, h]

@[simp] theorem State.vacate_loader (l n : LoaderId) : (s.vacate l).loader n = s.loader n := by
  unfold State.vacate; split <;> rfl

@[simp] theorem State.updateLamps_loader (n : LoaderId) : s.updateLamps.loader n = s.loader n := rfl

/-- Notices leave every record. -/
theorem State.tellHalted_loader (l n : LoaderId) (i : Option SlotId) (c : Cause) :
    (s.tellHalted l i c).loader n = s.loader n := by
  simp [State.loader, (s.tellHalted_sameBut l i c).loaders]

/-- An order for a HALTED loader is a HOLD that is refreshed. -/
theorem State.emitHold_loader_halted (l : LoaderId) (h : (s.loader l).state = .halted) :
    (s.emitHold l).loader l = { s.loader l with holdRefresh := some ⟨500, 0⟩ } := by
  have c : (s.order l .hold).holdCondition l = true := by
    simp [State.holdCondition, h]
  simp [State.emitHold, c, State.modLoader, Timer.start, Config.holdRefreshMs]

/-- The record that an entry to HALTED leaves (06 R117, R118). -/
theorem State.enterHalted_loader (l : LoaderId) (c : Cause) :
    (s.loader l).haltedBy ((s.enterHalted l c).loader l) c s.seconds := by
  simp [State.enterHalted, State.enterHaltedWith, State.tellHalted_loader, State.modLoader,
    State.emitHold_loader_halted, Loader.halted, Loader.haltedBy, Loader.place, Loader.holderChair]

theorem State.enterHalted_loader_ne {l n : LoaderId} (c : Cause) (h : n ≠ l) :
    (s.enterHalted l c).loader n = s.loader n := by
  simp [State.enterHalted, State.enterHaltedWith, State.tellHalted_loader, State.modLoader,
    State.emitHold_loader_ne, h]

/-- The manual load, counted as 03 R51 says. -/
theorem State.manualLoad_eq (c : ChairId) (without : Option CtxId) :
    s.manualLoad c without = s.countedLoad c without := by
  unfold State.manualLoad State.countedLoad State.manualHeld State.manualToward
    State.loadersWhere State.contextsWhere
  rw [List.filter_filter, List.countP_eq_length_filter, List.countP_eq_length_filter]
  congr 2
  congr 1
  funext l
  cases h : (s.loader l).holder <;>
    simp [Loader.heldBy, Loader.holderChair, Loader.heldMode, h, Bool.and_assoc]

/-- Within the open length, in decimetres and in segments (02 R24). -/
theorem Zone.within_eq (z : Zone) (p : Position) (h : z.openLength ≤ 128) :
    z.within p.chainage = z.holdsSegment p := by
  obtain ⟨_, n, m, _, _, _, _⟩ := z
  dsimp only at h
  cases m
  · exact decide_eq_decide.2 (by dsimp only [Zone.limit]; omega)
  · exact decide_eq_decide.2 (by dsimp only [Zone.limit, Config.zoneLength]; omega)

/-- The record that a grant leaves (03 R53). -/
theorem State.grant_loader (l : LoaderId) (c : ChairId) (i : SlotId) (m : Mode) :
    (s.grant l c i m).loader l =
      { (s.loader l).granted c i m with
        lapse := false
        lapseTimer := if m = .manual then some (Timer.start s.params.driveLapse) else none
        holdRefresh := none } := by
  have e : ∀ t : State, ((t.lockPair c l).recordPresence l).updateLamps.loader l = t.loader l := by
    intro t
    have a := (State.recordPresence_sameBut (t.lockPair c l) l).loaders
    have b := (State.lockPair_sameBut t c l).loaders
    rw [State.updateLamps_loader, State.loader, a, b]
    rfl
  unfold State.grant
  dsimp only
  rw [e]
  cases m <;>
    simp [State.setLapse, State.startLapse, State.stopLapse, State.settleRefresh,
      State.holdCondition, State.modLoader, State.modSlot, Loader.granted, Mode.heldState]

end Sys2Proof.Machine
end

