-- ==== Sys2Proof/Laws/PerInstr.lean ====
section
/-! SUPPORT. A statement about every command as syntax, made for each constructor of `Instr`: a
command is a request exactly when it has a request's kind, and the frame of a request is the common
frame with the kind of 10 R174, the request's tag and, from a chair, its panel byte, on the
sender's link. -/

namespace Sys2Proof.Laws

open Sys2Proof.Machine

/-- A command has a header exactly when it has a kind of request, and then its frame carries both
(08 R146, 10 R172, R174). -/
def HeaderShape.Statement (i : Instr) : Prop :=
  i.header?.isSome = i.kind?.isSome ∧
  ∀ h k, i.header? = some h → i.kind? = some k → ∃ payload,
    encodeFrame i = some (h.sender.link,
      frameBytes (BitVec.ofNat 8 k.code) h.tag (h.sender.panelBytes ++ payload))

/-- A command that is no request. -/
theorem HeaderShape.of_none {i : Instr} (h : i.header? = none) (k : i.kind? = none) :
    HeaderShape.Statement i :=
  ⟨by rw [h, k]; rfl, fun x y hx _ => by rw [h] at hx; cases hx⟩

/-- A request. -/
theorem HeaderShape.of_some {i : Instr} {h : Header} {k : ReqKind} (hh : i.header? = some h)
    (hk : i.kind? = some k) (p : List Byte)
    (e : encodeFrame i = some (h.sender.link,
      frameBytes (BitVec.ofNat 8 k.code) h.tag (h.sender.panelBytes ++ p))) :
    HeaderShape.Statement i :=
  ⟨by rw [hh, hk]; rfl, fun x y hx hy => by
    rw [hh] at hx; rw [hk] at hy; cases hx; cases hy; exact ⟨p, e⟩⟩

theorem HeaderShape.ping (h : Header) : HeaderShape.Statement (.ping h) :=
  HeaderShape.of_some rfl rfl _ rfl
theorem HeaderShape.claim (h : Header) (loader slot mode : Byte) :
    HeaderShape.Statement (.claim h loader slot mode) :=
  HeaderShape.of_some rfl rfl _ rfl
theorem HeaderShape.reclaim (h : Header) (loader slot mode : Byte) :
    HeaderShape.Statement (.reclaim h loader slot mode) :=
  HeaderShape.of_some rfl rfl _ rfl
theorem HeaderShape.release (h : Header) (loader : Byte) :
    HeaderShape.Statement (.release h loader) :=
  HeaderShape.of_some rfl rfl _ rfl
theorem HeaderShape.modeToSupervised (h : Header) (loader : Byte) :
    HeaderShape.Statement (.modeToSupervised h loader) :=
  HeaderShape.of_some rfl rfl _ rfl
theorem HeaderShape.modeToManual (h : Header) (loader mode : Byte) :
    HeaderShape.Statement (.modeToManual h loader mode) :=
  HeaderShape.of_some rfl rfl _ rfl
theorem HeaderShape.mission (h : Header) (loader route : Byte) :
    HeaderShape.Statement (.mission h loader route) :=
  HeaderShape.of_some rfl rfl _ rfl
theorem HeaderShape.offer (h : Header) (loader taking target : Byte) :
    HeaderShape.Statement (.offer h loader taking target) :=
  HeaderShape.of_some rfl rfl _ rfl
theorem HeaderShape.request (h : Header) (loader slot target : Byte) :
    HeaderShape.Statement (.request h loader slot target) :=
  HeaderShape.of_some rfl rfl _ rfl
theorem HeaderShape.force (h : Header) (loader taking slot target : Byte) :
    HeaderShape.Statement (.force h loader taking slot target) :=
  HeaderShape.of_some rfl rfl _ rfl
theorem HeaderShape.accept (h : Header) (loader context slot : Byte) :
    HeaderShape.Statement (.accept h loader context slot) :=
  HeaderShape.of_some rfl rfl _ rfl
theorem HeaderShape.yield (h : Header) (loader context : Byte) :
    HeaderShape.Statement (.yield h loader context) :=
  HeaderShape.of_some rfl rfl _ rfl
theorem HeaderShape.decline (h : Header) (loader context : Byte) :
    HeaderShape.Statement (.decline h loader context) :=
  HeaderShape.of_some rfl rfl _ rfl
theorem HeaderShape.refuse (h : Header) (loader context : Byte) :
    HeaderShape.Statement (.refuse h loader context) :=
  HeaderShape.of_some rfl rfl _ rfl
theorem HeaderShape.confirm (h : Header) (loader context : Byte) :
    HeaderShape.Statement (.confirm h loader context) :=
  HeaderShape.of_some rfl rfl _ rfl
theorem HeaderShape.cancel (h : Header) (loader context : Byte) :
    HeaderShape.Statement (.cancel h loader context) :=
  HeaderShape.of_some rfl rfl _ rfl
theorem HeaderShape.suspend (h : Header) (loader context : Byte) :
    HeaderShape.Statement (.suspend h loader context) :=
  HeaderShape.of_some rfl rfl _ rfl
theorem HeaderShape.resume (h : Header) (loader context : Byte) :
    HeaderShape.Statement (.resume h loader context) :=
  HeaderShape.of_some rfl rfl _ rfl
theorem HeaderShape.watch (h : Header) (loader : Byte) : HeaderShape.Statement (.watch h loader) :=
  HeaderShape.of_some rfl rfl _ rfl
theorem HeaderShape.unwatch (h : Header) (loader : Byte) :
    HeaderShape.Statement (.unwatch h loader) :=
  HeaderShape.of_some rfl rfl _ rfl
theorem HeaderShape.enrol (h : Header) (loader : Byte) (address : Word16) :
    HeaderShape.Statement (.enrol h loader address) :=
  HeaderShape.of_some rfl rfl _ rfl
theorem HeaderShape.retire (h : Header) (loader : Byte) :
    HeaderShape.Statement (.retire h loader) :=
  HeaderShape.of_some rfl rfl _ rfl
theorem HeaderShape.fixPosition
    (h : Header) (loader zone : Byte) (chainage : Word16) (front : Byte) :
    HeaderShape.Statement (.fixPosition h loader zone chainage front) :=
  HeaderShape.of_some rfl rfl _ rfl
theorem HeaderShape.freePosition (h : Header) (loader : Byte) :
    HeaderShape.Statement (.freePosition h loader) :=
  HeaderShape.of_some rfl rfl _ rfl
theorem HeaderShape.setZone (h : Header) (zone cls openLength measuredFrom cap : Byte) :
    HeaderShape.Statement (.setZone h zone cls openLength measuredFrom cap) :=
  HeaderShape.of_some rfl rfl _ rfl
theorem HeaderShape.closeZone (h : Header) (zone : Byte) (time : Word16) :
    HeaderShape.Statement (.closeZone h zone time) :=
  HeaderShape.of_some rfl rfl _ rfl
theorem HeaderShape.cancelClosure (h : Header) (zone : Byte) :
    HeaderShape.Statement (.cancelClosure h zone) :=
  HeaderShape.of_some rfl rfl _ rfl
theorem HeaderShape.park (h : Header) (loader : Byte) : HeaderShape.Statement (.park h loader) :=
  HeaderShape.of_some rfl rfl _ rfl
theorem HeaderShape.isolate (h : Header) (loader : Byte) :
    HeaderShape.Statement (.isolate h loader) :=
  HeaderShape.of_some rfl rfl _ rfl
theorem HeaderShape.restore (h : Header) (loader : Byte) :
    HeaderShape.Statement (.restore h loader) :=
  HeaderShape.of_some rfl rfl _ rfl
theorem HeaderShape.setClearance (h : Header) (chair levels : Byte) :
    HeaderShape.Statement (.setClearance h chair levels) :=
  HeaderShape.of_some rfl rfl _ rfl
theorem HeaderShape.withdraw (h : Header) (scope number filter : Byte) :
    HeaderShape.Statement (.withdraw h scope number filter) :=
  HeaderShape.of_some rfl rfl _ rfl
theorem HeaderShape.setParam (h : Header) (code : Byte) (value : Word16) :
    HeaderShape.Statement (.setParam h code value) :=
  HeaderShape.of_some rfl rfl _ rfl
theorem HeaderShape.watchAll (h : Header) (setting : Byte) :
    HeaderShape.Statement (.watchAll h setting) :=
  HeaderShape.of_some rfl rfl _ rfl
theorem HeaderShape.restart (h : Header) : HeaderShape.Statement (.restart h) :=
  HeaderShape.of_some rfl rfl _ rfl
theorem HeaderShape.queryLoader (h : Header) (loader : Byte) :
    HeaderShape.Statement (.queryLoader h loader) :=
  HeaderShape.of_some rfl rfl _ rfl
theorem HeaderShape.queryChair (h : Header) (chair : Byte) :
    HeaderShape.Statement (.queryChair h chair) :=
  HeaderShape.of_some rfl rfl _ rfl
theorem HeaderShape.queryZone (h : Header) (zone : Byte) :
    HeaderShape.Statement (.queryZone h zone) :=
  HeaderShape.of_some rfl rfl _ rfl
theorem HeaderShape.queryHandover (h : Header) (context : Byte) :
    HeaderShape.Statement (.queryHandover h context) :=
  HeaderShape.of_some rfl rfl _ rfl
theorem HeaderShape.queryParam (h : Header) (code : Byte) :
    HeaderShape.Statement (.queryParam h code) :=
  HeaderShape.of_some rfl rfl _ rfl
theorem HeaderShape.driveFrame (c : ChairId) (panel tag : Byte) (f : DriveFields) :
    HeaderShape.Statement (.driveFrame c panel tag f) :=
  HeaderShape.of_none rfl rfl
theorem HeaderShape.statusReport (tag : Byte) (f : StatusFields) :
    HeaderShape.Statement (.statusReport tag f) :=
  HeaderShape.of_none rfl rfl
theorem HeaderShape.badFrame (link : Link) : HeaderShape.Statement (.badFrame link) :=
  HeaderShape.of_none rfl rfl
theorem HeaderShape.lostLinkFrame (c : ChairId) (panel : Byte) :
    HeaderShape.Statement (.lostLinkFrame c panel) :=
  HeaderShape.of_none rfl rfl
theorem HeaderShape.silenceTimerExpiry (l : LoaderId) :
    HeaderShape.Statement (.silenceTimerExpiry l) :=
  HeaderShape.of_none rfl rfl
theorem HeaderShape.lapseTimerExpiry (l : LoaderId) : HeaderShape.Statement (.lapseTimerExpiry l) :=
  HeaderShape.of_none rfl rfl
theorem HeaderShape.holdRefreshExpiry (l : LoaderId) :
    HeaderShape.Statement (.holdRefreshExpiry l) :=
  HeaderShape.of_none rfl rfl
theorem HeaderShape.orphanGraceExpiry (l : LoaderId) :
    HeaderShape.Statement (.orphanGraceExpiry l) :=
  HeaderShape.of_none rfl rfl
theorem HeaderShape.answerTimerExpiry (k : CtxId) : HeaderShape.Statement (.answerTimerExpiry k) :=
  HeaderShape.of_none rfl rfl
theorem HeaderShape.settleTimerExpiry (k : CtxId) : HeaderShape.Statement (.settleTimerExpiry k) :=
  HeaderShape.of_none rfl rfl
theorem HeaderShape.confirmTimerExpiry (k : CtxId) :
    HeaderShape.Statement (.confirmTimerExpiry k) :=
  HeaderShape.of_none rfl rfl
theorem HeaderShape.watchdogExpiry (k : CtxId) : HeaderShape.Statement (.watchdogExpiry k) :=
  HeaderShape.of_none rfl rfl
theorem HeaderShape.closureTimerExpiry (k : ClosureId) :
    HeaderShape.Statement (.closureTimerExpiry k) :=
  HeaderShape.of_none rfl rfl
theorem HeaderShape.linkSilenceExpiry (c : ChairId) :
    HeaderShape.Statement (.linkSilenceExpiry c) :=
  HeaderShape.of_none rfl rfl
theorem HeaderShape.secondsCounterTick : HeaderShape.Statement .secondsCounterTick :=
  HeaderShape.of_none rfl rfl
theorem HeaderShape.stopAllAssertion : HeaderShape.Statement .stopAllAssertion :=
  HeaderShape.of_none rfl rfl
theorem HeaderShape.stopAllRelease : HeaderShape.Statement .stopAllRelease :=
  HeaderShape.of_none rfl rfl
theorem HeaderShape.barrierBreach (level : LevelId) :
    HeaderShape.Statement (.barrierBreach level) :=
  HeaderShape.of_none rfl rfl
theorem HeaderShape.barrierRelease (level : LevelId) :
    HeaderShape.Statement (.barrierRelease level) :=
  HeaderShape.of_none rfl rfl
theorem HeaderShape.resetAssertion : HeaderShape.Statement .resetAssertion :=
  HeaderShape.of_none rfl rfl
theorem HeaderShape.resetRelease : HeaderShape.Statement .resetRelease :=
  HeaderShape.of_none rfl rfl
theorem HeaderShape.powerOn : HeaderShape.Statement .powerOn :=
  HeaderShape.of_none rfl rfl
theorem HeaderShape.deliveryQueueTransmit (port : Port) :
    HeaderShape.Statement (.deliveryQueueTransmit port) :=
  HeaderShape.of_none rfl rfl
theorem HeaderShape.orderLineTransmit : HeaderShape.Statement .orderLineTransmit :=
  HeaderShape.of_none rfl rfl

end Sys2Proof.Laws
end

