-- ==== Sys2Proof/Laws/Step.lean ====
section
/-! SUPPORT. What a byte that arrives leaves (08 R147, R161), and what a step can do, said once. -/

namespace Sys2Proof.Machine

variable (s : State)

/-! ## Bytes in reception -/

@[simp] theorem State.setReceiver_receiver_self (k : Link) (r : Receiver) :
    (s.setReceiver k r).receiver k = r := by
  cases k <;> simp [State.setReceiver, State.receiver]

@[simp] theorem State.setReceiver_receiver_ne {k n : Link} (h : n ≠ k) (r : Receiver) :
    (s.setReceiver k r).receiver n = s.receiver n := by
  cases k <;> cases n <;> simp_all [State.setReceiver, State.receiver, Fin.val_inj, eq_comm]

theorem State.setReceiver_sameBut (k : Link) (r : Receiver) :
    s.sameBut [.receivers] (s.setReceiver k r) := by
  intro p hp; cases k <;> cases p <;> first | rfl | simp at hp

theorem State.receive_reset (k : Link) (x : LineByte) (h : s.inReset = true) :
    s.receive k x = s := by simp [State.receive, h]

theorem State.receive_pending (k : Link) (x : LineByte) (h : s.inReset = false) :
    (s.receive k x).pending = s.pending ++ ((s.receiver k).take k x).2.toList := by
  cases k <;> simp [State.receive, h, State.setReceiver]

theorem State.receive_receiver (k n : Link) (x : LineByte) (h : s.inReset = false) :
    (s.receive k x).receiver n = if n = k then ((s.receiver k).take k x).1 else s.receiver n := by
  have e : (s.receive k x).receiver n =
      (s.setReceiver k ((s.receiver k).take k x).1).receiver n := by
    simp only [State.receive, h]; cases n <;> rfl
  rw [e]; split
  · next q => rw [q, State.setReceiver_receiver_self]
  · next q => rw [State.setReceiver_receiver_ne _ q]

theorem State.receive_sameBut (k : Link) (x : LineByte) :
    s.sameBut [.receivers, .pending] (s.receive k x) := by
  unfold State.receive
  split
  · exact .refl _ s
  · intro p hp; cases k <;> cases p <;> first | rfl | simp at hp

/-! ## One step -/

/-- Everything that a step can do. -/
theorem step_cases {t : State} (h : step s = .next t) :
    (∃ i rest, s.pending = i :: rest ∧ exec i { s with pending := rest } = .next t) ∨
    (s.pending = [] ∧ ∃ k x rest, s.line = (k, x) :: rest ∧
      t = State.receive { s with line := rest } k x) ∨
    (s.pending = [] ∧ s.line = [] ∧ s.inReset = true ∧ t = s) ∨
    (s.pending = [] ∧ s.line = [] ∧ s.inReset = false ∧
      ((∃ i, s.firstDue = some i ∧ exec i s = .next t) ∨ (s.firstDue = none ∧ t = s.tick))) := by
  unfold step at h
  split at h
  · next i rest e => exact .inl ⟨i, rest, e, h⟩
  · next e =>
    refine .inr ?_
    unfold State.idle at h
    split at h
    · next k x rest l => cases h; exact .inl ⟨e, k, x, rest, l, rfl⟩
    · next l =>
      refine .inr ?_
      split at h
      · next r => cases h; exact .inl ⟨e, l, r, rfl⟩
      · next r =>
        refine .inr ⟨e, l, by simpa using r, ?_⟩
        split at h
        · next i d => exact .inl ⟨i, d, h⟩
        · next d => cases h; exact .inr ⟨d, rfl⟩

end Sys2Proof.Machine
end

