-- ==== Sys2Proof/Laws/Watch.lean ====
section
/-! SUPPORT. The locks of the Watch Table (07 7-3): what a lock and an unlock leave, and that a lock
always finds a place in the pinned part while the laws hold. -/

namespace Sys2Proof.Machine

/-- A pair is locked when a locked pinned entry names it. -/
theorem WatchTable.isLocked_iff (w : WatchTable) (c : ChairId) (l : LoaderId) :
    w.isLocked c l = true ↔
      ∃ n : PinnedId, ∃ e, w.pinned[n] = some e ∧ e.names c l = true ∧ e.locked = true := by
  simp [WatchTable.isLocked, Option.any_eq_true]

@[simp] theorem PinnedEntry.names_iff (e : PinnedEntry) (c : ChairId) (l : LoaderId) :
    e.names c l = true ↔ e.chair = c ∧ e.loader = l := by simp [PinnedEntry.names]

theorem WatchTable.pinnedOf_some {w : WatchTable} {c : ChairId} {l : LoaderId} {i : PinnedId}
    (h : w.pinnedOf c l = some i) : ∃ e, w.pinned[i] = some e ∧ e.chair = c ∧ e.loader = l := by
  have := List.find?_some h
  simpa [Option.any_eq_true] using this

theorem WatchTable.pinnedOf_none {w : WatchTable} {c : ChairId} {l : LoaderId}
    (h : w.pinnedOf c l = none) (n : PinnedId) (e : PinnedEntry) (he : w.pinned[n] = some e) :
    ¬ (e.chair = c ∧ e.loader = l) := by
  have := List.find?_eq_none.1 h n (List.mem_finRange n)
  simpa [he] using this

theorem WatchTable.setPinned_self (w : WatchTable) (i : PinnedId) (x : Option PinnedEntry) :
    (w.setPinned i x).pinned[i] = x := by simp [WatchTable.setPinned]

theorem WatchTable.setPinned_ne (w : WatchTable) {i n : PinnedId} (h : n ≠ i)
    (x : Option PinnedEntry) : (w.setPinned i x).pinned[n] = w.pinned[n] := by
  simp [WatchTable.setPinned, Fin.val_inj, h.symm]

/-- Changing one entry leaves the lock of every pair that neither its old nor its new contents
lock. -/
theorem WatchTable.setPinned_isLocked (w : WatchTable) (i : PinnedId) (x : Option PinnedEntry)
    (c : ChairId) (l : LoaderId)
    (old : ∀ e, w.pinned[i] = some e → ¬ (e.names c l = true ∧ e.locked = true))
    (new : ∀ e, x = some e → ¬ (e.names c l = true ∧ e.locked = true)) :
    (w.setPinned i x).isLocked c l = w.isLocked c l := by
  rw [Bool.eq_iff_iff, WatchTable.isLocked_iff, WatchTable.isLocked_iff]
  refine exists_congr fun n => ?_
  by_cases h : n = i
  · subst h
    rw [WatchTable.setPinned_self]
    constructor
    · rintro ⟨e, he, k⟩; exact absurd k (new e he)
    · rintro ⟨e, he, k⟩; exact absurd k (old e he)
  · rw [WatchTable.setPinned_ne w h]

/-- An entry that reads the same pinned part has the same locks. -/
theorem WatchTable.isLocked_congr {w w' : WatchTable}
    (h : ∀ n : PinnedId, (w'.pinned[n]).map (fun e => (e.chair, e.loader, e.locked)) =
      (w.pinned[n]).map fun e => (e.chair, e.loader, e.locked)) (c : ChairId) (l : LoaderId) :
    w'.isLocked c l = w.isLocked c l := by
  rw [Bool.eq_iff_iff, WatchTable.isLocked_iff, WatchTable.isLocked_iff]
  refine exists_congr fun n => ?_
  have := h n
  cases a : w.pinned[n] <;> cases b : w'.pinned[n] <;> simp_all

theorem WatchTable.clearUsed_pinned (w : WatchTable) (n : PinnedId) :
    (w.clearUsed.pinned[n]).map (fun e => (e.chair, e.loader, e.locked)) =
      (w.pinned[n]).map fun e => (e.chair, e.loader, e.locked) := by
  cases h : w.pinned[n] with
  | none => simp [WatchTable.clearUsed, show w.pinned[n.val] = none from h]
  | some e =>
    simp only [WatchTable.clearUsed, Fin.getElem_fin, Vector.getElem_map,
      show w.pinned[n.val] = some e from h, Option.map_some]
    split <;> rfl

/-- The place that a lock finds holds no locked entry, and the search changes no pair and no lock
(07 R136). -/
theorem WatchTable.findPlace_spec (w : WatchTable) :
    (∀ n : PinnedId, (w.findPlace.1.pinned[n]).map (fun e => (e.chair, e.loader, e.locked)) =
      (w.pinned[n]).map fun e => (e.chair, e.loader, e.locked)) ∧
    (∀ i, w.findPlace.2 = some i → ∀ e, w.pinned[i] = some e → e.locked = false) ∧
    ((∃ n : PinnedId, ∀ e, w.pinned[n] = some e → e.locked = false) →
      w.findPlace.2.isSome = true) := by
  unfold WatchTable.findPlace
  split
  · next i h =>
    have := List.find?_some h
    refine ⟨fun _ => rfl, ?_, fun _ => rfl⟩
    rintro j ⟨⟩ e he
    simp_all
  split
  · next i h =>
    have := List.find?_some h
    refine ⟨fun _ => rfl, ?_, fun _ => rfl⟩
    rintro j ⟨⟩ e he
    simp_all [PinnedEntry.spare]
  · next _ none_free _ _ =>
    refine ⟨w.clearUsed_pinned, ?_, ?_⟩
    · intro i h e he
      have s := List.find?_some h
      have k := w.clearUsed_pinned i
      cases b : w.clearUsed.pinned[i] with
      | none => simp [b] at s
      | some d => simp_all [PinnedEntry.spare]
    · rintro ⟨n, hn⟩
      have some_here : w.pinned[n] ≠ none := by
        have := List.find?_eq_none.1 none_free n (List.mem_finRange n)
        simpa using this
      obtain ⟨e, he⟩ := Option.ne_none_iff_exists'.1 some_here
      have u := hn e he
      by_contra no
      have := List.find?_eq_none.1 (by simpa [WatchTable.firstPinned] using no) n
        (List.mem_finRange n)
      simp [WatchTable.clearUsed, show w.pinned[n.val] = some e from he, u,
        PinnedEntry.spare] at this

@[simp] theorem WatchTable.clearOpen_pinned (w : WatchTable) (c : ChairId) (l : LoaderId) :
    (w.clearOpen c l).pinned = w.pinned := rfl

/-- What a lock leaves of the locks (07 R136). -/
theorem WatchTable.lock_lockedFor (w : WatchTable) (c : ChairId) (l : LoaderId) :
    w.lockedFor (w.lock c l).1 c l := by
  unfold WatchTable.lock
  split
  · next i h =>
    obtain ⟨e, he, rfl, rfl⟩ := w.pinnedOf_some h
    split
    · next k =>
      have locked : e.locked = true := by simpa [he] using k
      exact ⟨fun _ => (w.isLocked_iff _ _).2 ⟨i, e, he, by simp, locked⟩, fun _ _ _ => rfl⟩
    · refine ⟨fun _ => ?_, fun d n ne => ?_⟩
      · refine (WatchTable.isLocked_iff _ _ _).2
          ⟨i, { e with locked := true, used := true }, ?_, ?_, rfl⟩
        · rw [WatchTable.modPinned, WatchTable.setPinned_self, he]; rfl
        · simp
      · refine WatchTable.setPinned_isLocked w i _ d n ?_ ?_ <;>
          · intro x hx; simp_all
            try grind
  · next h =>
    have spec := (w.clearOpen c l).findPlace_spec
    simp only [WatchTable.clearOpen_pinned] at spec
    obtain ⟨same, free, found⟩ := spec
    have keeps := fun d n => WatchTable.isLocked_congr (w := w) same d n
    dsimp only
    split
    · next i hi =>
      refine ⟨fun _ => ?_, fun d n ne => ?_⟩
      · exact (WatchTable.isLocked_iff _ _ _).2 ⟨i, ⟨c, l, true, true⟩,
          WatchTable.setPinned_self _ _ _, by simp, rfl⟩
      · rw [WatchTable.setPinned_isLocked, keeps]
        · intro x hx k
          have := same i
          cases b : w.pinned[i] with
          | none => simp_all
          | some y => have := free i hi y b; simp_all
        · rintro x ⟨⟩; simp; grind
    · next none_found =>
      refine ⟨fun ⟨n, hn⟩ => ?_, fun d n _ => keeps d n⟩
      have := found ⟨n, fun e he => by
        rcases hn e he with u | k
        · exact u
        · exact absurd ((e.names_iff c l).1 k) (w.pinnedOf_none h n e he)⟩
      simp [none_found] at this

/-- Unlocking a pair changes the lock of no other pair (07 R137). -/
theorem WatchTable.unlock_isLocked_ne (w : WatchTable) (c d : ChairId) (l n : LoaderId)
    (ne : d ≠ c ∨ n ≠ l) : (w.unlock c l).isLocked d n = w.isLocked d n := by
  unfold WatchTable.unlock
  split
  · next i h =>
    obtain ⟨e, he, rfl, rfl⟩ := w.pinnedOf_some h
    refine WatchTable.setPinned_isLocked w i _ d n ?_ ?_ <;>
      · intro x hx; simp_all; grind
  · rfl

/-- Where a pair stands in at most one pinned entry, unlocking it leaves it unlocked. -/
theorem WatchTable.unlock_isLocked_self (w : WatchTable) (c : ChairId) (l : LoaderId)
    (once : ∀ m n : PinnedId, (w.pinned[m]).any (·.names c l) = true →
      (w.pinned[n]).any (·.names c l) = true → m = n) : (w.unlock c l).isLocked c l = false := by
  rw [Bool.eq_false_iff]
  intro k
  obtain ⟨n, e, he, names, locked⟩ := (WatchTable.isLocked_iff _ _ _).1 k
  unfold WatchTable.unlock at he
  split at he
  · next i h =>
    obtain ⟨x, hx, cx, lx⟩ := w.pinnedOf_some h
    by_cases eq : n = i
    · subst eq
      rw [WatchTable.modPinned, WatchTable.setPinned_self, hx] at he
      cases he; cases locked
    · rw [WatchTable.modPinned, WatchTable.setPinned_ne w eq] at he
      exact eq (once n i (by rw [he]; simpa using names) (by rw [hx]; simp [cx, lx]))
  · next h => exact w.pinnedOf_none h n e he ((e.names_iff c l).1 names)

variable (s : State)

/-- At most as many pairs are locked as there are loaders with a holder and handovers in flight
(07 7-3). -/
theorem State.locked_le (law : s.lockLaw) :
    Fintype.card { p : ChairId × LoaderId // s.watch.isLocked p.1 p.2 = true } ≤
      Fintype.card { l : LoaderId // (s.loader l).holder.isSome = true } +
        Fintype.card { k : CtxId // (s.handover k).isSome = true } := by
  rw [← Fintype.card_sum]
  refine Fintype.card_le_of_surjective
    (f := fun x => match x with
      | .inl l => ⟨(((s.loader l.1).holder.get l.2).chair, l.1),
          (law.1 _ _).2 (.inl (by
            simp only [Loader.heldBy, Loader.holderChair, beq_iff_eq, Option.map_eq_some_iff]
            exact ⟨_, (Option.some_get l.2).symm, rfl⟩))⟩
      | .inr k => ⟨(((s.handover k.1).get k.2).taking, ((s.handover k.1).get k.2).loader),
          (law.1 _ _).2 (.inr ⟨k.1, _, Option.get_mem k.2, rfl, rfl⟩)⟩) ?_
  rintro ⟨⟨c, l⟩, h⟩
  rcases (law.1 c l).1 h with held | ⟨k, x, hx, rfl, rfl⟩
  · simp only [Loader.heldBy, Loader.holderChair, beq_iff_eq, Option.map_eq_some_iff] at held
    obtain ⟨y, hy, rfl⟩ := held
    exact ⟨.inl ⟨l, by simp [hy]⟩, by simp [hy]⟩
  · have hx' : s.handover k = some x := hx
    exact ⟨.inr ⟨k, by simp [hx']⟩, by simp [hx']⟩

/-- While the laws of the Watch Table hold, and a loader has no holder or a context is free, the
pinned part has an entry that is invalid or unlocked, so that a lock finds a place (07 R136). -/
theorem State.lock_room (watch : s.watchLaw) (lock : s.lockLaw)
    (few : (∃ l, (s.loader l).holder = none) ∨ ∃ k, s.handover k = none) :
    ∃ n : PinnedId, ∀ e ∈ s.watch.pinned[n], e.locked = false := by
  by_contra full
  push Not at full
  choose e he locked using full
  have he' : ∀ n, s.watch.pinned[n] = some (e n) := he
  have inj : Fintype.card PinnedId ≤
      Fintype.card { p : ChairId × LoaderId // s.watch.isLocked p.1 p.2 = true } := by
    refine Fintype.card_le_of_injective (fun n => ⟨((e n).chair, (e n).loader),
      (WatchTable.isLocked_iff _ _ _).2 ⟨n, e n, he' n, by simp, by simpa using locked n⟩⟩) ?_
    intro m n eq
    simp only [Subtype.mk.injEq, Prod.mk.injEq] at eq
    exact watch.1 (e n).chair (e n).loader m n (by rw [he' m]; simp [eq.1, eq.2])
      (by rw [he' n]; simp)
  have bound := inj.trans (s.locked_le lock)
  have a : Fintype.card { l : LoaderId // (s.loader l).holder.isSome = true } ≤ 32 :=
    (Fintype.card_subtype_le _).trans (by simp)
  have b : Fintype.card { k : CtxId // (s.handover k).isSome = true } ≤ 8 :=
    (Fintype.card_subtype_le _).trans (by simp)
  have c : Fintype.card PinnedId = 40 := by simp
  rcases few with ⟨l, hl⟩ | ⟨k, hk⟩
  · have : Fintype.card { l : LoaderId // (s.loader l).holder.isSome = true } < 32 := by
      have := Fintype.card_subtype_lt (p := fun l : LoaderId => (s.loader l).holder.isSome = true)
        (x := l) (by simp [hl])
      simpa using this
    omega
  · have : Fintype.card { k : CtxId // (s.handover k).isSome = true } < 8 := by
      have := Fintype.card_subtype_lt (p := fun k : CtxId => (s.handover k).isSome = true)
        (x := k) (by simp [hk])
      simpa using this
    omega

end Sys2Proof.Machine
end

