-- ==== Sys2Proof/Tests/Slice0.lean ====
section
/-! SUPPORT. The model's own tests: witnesses that meet the hypotheses of the statements, the smoke
test of well-formedness, and single steps whose expected results stand in the spec's worked
sequences, tables and rules. Each test names its source. -/

namespace Sys2Proof.Tests

-- One theorem after another, so that the compile stays within its memory.
set_option Elab.async false

open Sys2Proof.Machine

/-! ## Small states -/

/-- A request of a chair whose panel shows the stop released and the controls neutral. -/
def chair (c : ChairId) : Header := ⟨.chair c 2, 7⟩

/-- A request of the supervisor. -/
def sup : Header := ⟨.supervisor, 9⟩

/-- A loader that stands PARKED under HOLD and is heard. -/
def parked : Loader :=
  { Loader.blank with
    state := .parked, position := some ⟨0, 50, .towardFarEnd⟩, age := 0, stationary := true
    onboard := .remote, silence := ⟨0, 2000, 15000⟩, holdRefresh := some ⟨500, 0⟩ }

/-- Loader 0 stands PARKED in zone 0, which is open to every mode; every chair is UP, cleared for
every level and shows its controls neutral. -/
def base : State :=
  { State.reset with
    loaders := State.reset.loaders.set 0 parked
    radioMap := State.reset.radioMap.set 0 (some 100)
    chairs := Vector.replicate 12 { Chair.blank with clearance := 255, neutral := true }
    links := Vector.replicate 12 { ChairLink.blank with state := .up, silence := some ⟨1000, 0⟩ }
    zones := State.reset.zones.set 0 ⟨.openPlain, 128, .entrance, 50, false, false, none⟩ }

/-- `base` with another record for loader 0. -/
def withLoader (r : Loader) : State := base.setLoader 0 r

/-- `base` with loader 0 held by chair 0 in slot 0. -/
def held (r : Loader) : State := (withLoader r).fillSlot 0 0 (.bound 0)

/-- The record of a loader that chair 0 drives by hand. -/
def drivenRecord : Loader :=
  { parked with
    state := .driven, holder := some ⟨0, 0, .manual⟩, epoch := 1, holdRefresh := none
    lapseTimer := some ⟨300, 0⟩ }

/-- The record of a loader that chair 0 holds in supervised mode. -/
def supervisedRecord : Loader :=
  { drivenRecord with
    state := .supervised, holder := some ⟨0, 0, .supervised⟩, lapseTimer := none }

/-- The record of a loader whose chair's link is LOST. -/
def orphanedRecord : Loader :=
  { supervisedRecord with state := .orphaned, grace := some ⟨30000, 0⟩ }

/-- A halt record. -/
def haltRecord : HaltRecord := ⟨.chairStop, some (0, 50), some 0, 3, .chairStop, 0, false⟩

/-- The record of a loader that was halted under chair 0. -/
def haltedRecord : Loader :=
  { parked with state := .halted, lastHolder := some 0, epoch := 1, halt := some haltRecord }

/-- A record as it stands in TRANSFER. -/
def inTransfer (r : Loader) : Loader :=
  { r with state := .transfer, prior := some r.state, context := some 0, halt := none }

/-- A handover of loader 0 from chair 0 to chair 1. -/
def transaction (kind : HandoverKind) (phase : Phase) (slot : Option SlotId) (target : Mode) :
    Handover :=
  { loader := 0, kind, releasing := some 0, taking := 1, slot, target, phase
    timer := ⟨8000, 0⟩, suspended := false, watchdog := ⟨60000, 0⟩, held := none }

/-- Loader 0, held by chair 0, in TRANSFER by a handover in context 0. -/
def flight (r : Loader) (x : Handover) : State :=
  let s := (held (inTransfer r)).setHandover 0 (some x)
  match x.slot with
  | some i => s.fillSlot x.taking i (.reserved 0 0)
  | none => s

/-- Loader 0, which no chair holds, in TRANSFER by a handover in context 0. -/
def loneFlight (r : Loader) (x : Handover) : State :=
  (withLoader (inTransfer r)).setHandover 0 (some { x with releasing := none })

/-- `base` with the link of chair 0 as given. -/
def withLink (s : State) (f : ChairLink → ChairLink) : State := s.modLink 0 f

/-- What a command leaves. -/
def after (i : Instr) (s : State) : State :=
  match exec i s with
  | .next t => t
  | _ => s

/-- The bodies of the frames in a link's delivery queue. -/
def bodies (s : State) (p : Port) : List FrameBody := (s.queue p).frames.map (·.body)

/-! ## Meeting the hypotheses about frames -/

theorem hears_chair (s : State) (c : ChairId) (panel : Byte)
    (h : s.inReset = false ∧ (s.link c).state = .up ∧
      (panelStop panel = true → (s.chair c).stop = true)) :
    s.hears (.chair c panel) := h

theorem ready_chair (s : State) (c : ChairId)
    (h : (s.inReset = false ∧ (s.link c).state = .up ∧
      (panelStop 2 = true → (s.chair c).stop = true)) ∧
      (s.queue (.chair c)).fullOfReplies = false) :
    s.ready (chair c) := h

theorem ready_sup (s : State)
    (h : s.inReset = false ∧ s.supQueue.fullOfReplies = false) : s.ready sup :=
  ⟨⟨h.1, trivial⟩, h.2⟩

theorem inFlight_of (s : State) (l : LoaderId) (k : CtxId) (x : Handover)
    (h : (s.loader l).state = .transfer ∧ (s.loader l).context = some k ∧
      s.handover k = some x ∧ x.loader = l) : s.inFlight l k x := h

theorem transferLaw_of (s : State)
    (h : (∀ k, ∀ x ∈ s.handover k,
        (s.loader x.loader).state = .transfer ∧ (s.loader x.loader).context = some k) ∧
      ∀ l, (s.loader l).state = .transfer →
        (∃ k ∈ (s.loader l).context, ∃ x ∈ s.handover k, x.loader = l) ∧
        (s.loader l).prior ∈ [some LoaderState.parked, some .driven, some .supervised,
          some .orphaned, some .halted]) : s.transferLaw := h

theorem holderLaw_of (s : State)
    (h : ∀ l, ((s.loader l).holder.isSome = true ↔
        (s.loader l).state ∈ [LoaderState.driven, .supervised, .orphaned] ∨
          ((s.loader l).state = .transfer ∧
            (s.loader l).prior ∈ [some LoaderState.driven, some .supervised, some .orphaned])) ∧
      ∀ y ∈ (s.loader l).holder, (y.mode = .manual ↔ (s.loader l).state = .driven ∨
        ((s.loader l).state = .transfer ∧ (s.loader l).prior = some .driven))) :
    s.holderLaw := h

theorem passes {xs : List Check} (h : xs.all (·.1) = true) : allPass xs := by
  simpa [allPass, List.all_eq_true] using h

/-! ## Witnesses: the hypotheses of each statement are met -/

theorem witness_StepRunsFrontCommand :
    { base with pending := [Instr.secondsCounterTick, .orderLineTransmit] }.pending =
      .secondsCounterTick :: [.orderLineTransmit] := rfl

/-- A byte waits, in RESET and running; in RESET; with an expiry due (a lapse timer at its setting);
and with none due while a suspended handover waits. -/
theorem witness_EmptyQueueLetsTimePass :
    (let s := { base with line := [(.fleet, ⟨some 0xA5, false⟩)] }
     s.pending = [] ∧ s.line = (.fleet, ⟨some 0xA5, false⟩) :: [] ∧ s.inReset = false ∧
      { s with inReset := true }.inReset = true) ∧
    (base.pending = [] ∧ base.line = [] ∧ { base with inReset := true }.inReset = true) ∧
    (let s := held { drivenRecord with lapseTimer := some ⟨300, 300⟩ }
     s.pending = [] ∧ s.line = [] ∧ s.inReset = false ∧
      s.allDue.head? = some (.lapseTimerExpiry 0)) ∧
    (let s := flight drivenRecord
        { transaction .offer .offered none .manual with suspended := true }
     s.pending = [] ∧ s.line = [] ∧ s.inReset = false ∧ s.allDue = [] ∧
      (s.loader 0).state ≠ .unenrolled ∧ (s.handover 0).any (·.suspended) = true) := by
  decide +kernel

theorem witness_ResetReleaseGivesPowerOnValues :
    Instr.resetRelease ∈ [Instr.resetRelease, .powerOn] ∧
      Instr.powerOn ∈ [Instr.resetRelease, .powerOn] := by decide

theorem witness_ResetAssertionStopsEverything :
    { base with inReset := true }.inReset = true ∧
      Instr.stopAllAssertion ∉ [Instr.resetAssertion, .resetRelease, .powerOn] ∧
      Instr.restart sup ∉ [Instr.resetAssertion, .resetRelease, .powerOn] := by decide +kernel

theorem witness_PingIsAnswered : base.ready (chair 11) ∧ base.ready sup :=
  ⟨ready_chair _ _ (by decide +kernel), ready_sup _ (by decide +kernel)⟩

/-- A queue that holds 32 replies, and one that holds 31 for a sender that may not send the kind. -/
theorem witness_RequestsTurnedAway :
    (Instr.claim (chair 0) 0 0 0).header? = some (chair 0) ∧
    (Instr.claim (chair 0) 0 0 0).kind? = some .claim ∧
    (let s := base.modQueue (.chair 0) fun q =>
        { q with frames := List.replicate 32 ⟨1, .reply .ping (.refused .badValue)⟩ }
     s.hears (chair 0).sender ∧
      32 ≤ (s.queue (chair 0).sender.port).frames.countP Frame.isReply) ∧
    (Instr.isolate (chair 0) 0).header? = some (chair 0) ∧
    (Instr.isolate (chair 0) 0).kind? = some .isolate ∧
    (let s := base.modQueue (.chair 0) fun q =>
        { q with frames := List.replicate 31 ⟨1, .reply .ping (.refused .badValue)⟩ }
     s.hears (chair 0).sender ∧
      (s.queue (chair 0).sender.port).frames.countP Frame.isReply < 32 ∧
      (chair 0).sender.maySend .isolate = false) :=
  ⟨rfl, rfl, ⟨hears_chair _ _ _ (by decide +kernel), by decide +kernel⟩, rfl, rfl,
    ⟨hears_chair _ _ _ (by decide +kernel), by decide +kernel, by decide⟩⟩

/-- A chair whose link is DOWN, and the same chair on an UP link that stands, once it has heard the
frame, as the first one does when brought up. -/
theorem witness_FirstFrameBringsLinkUp :
    (chair 0).sender = .chair 0 2 ∧ (Instr.claim (chair 0) 0 0 0).header? = some (chair 0) ∧
    (let s := withLink base fun _ => ChairLink.blank
     let u := (s.broughtUp 0 2).modLink 0 fun k =>
       { k with silence := none, errors := 1, tally := 15 }
     (s.inReset = false ∧ (s.link 0).state = .down ∧
      (panelStop 2 = true → (s.chair 0).stop = true) ∧ (s.queue (.chair 0)).frames = []) ∧
      u.hears (.chair 0 2) ∧ u.heard (.chair 0 2) = s.broughtUp 0 2) :=
  ⟨rfl, rfl, by decide +kernel, hears_chair _ _ _ (by decide +kernel), by decide +kernel⟩

/-- The last frame that is only counted: the run stands at 14. -/
theorem witness_LostLinkFramesAreOnlyCounted :
    let s := withLink base fun k => { k with state := .lost, run := 14, tally := 15 }
    s.inReset = false ∧ (s.link 0).state = .lost ∧ (s.link 0).run < 15 ∧
      (s.link 0).silence.isSome = true ∧ (Instr.restart (chair 0)).header? = some (chair 0) ∧
      (chair 0).sender = .chair 0 2 := by decide +kernel

/-- The run stands at 15, and chair 0 has an orphan; then one in a handover forced from ORPHANED. -/
theorem witness_SixteenthFrameRecoversLink :
    (let s := withLink (held orphanedRecord) fun k => { k with state := .lost, run := 15 }
     s.inReset = false ∧ (s.link 0).state = .lost ∧ (s.link 0).run = 15 ∧
      (panelStop 2 = true → (s.chair 0).stop = true) ∧
      (s.loader 0).state = .orphaned ∧ (s.loader 0).heldBy 0 = true ∧
      (s.loader 1).heldBy 0 = false) ∧
    (let x := { transaction .force .confirming (some 1) .supervised with releasing := none }
     let s := withLink (flight orphanedRecord x) fun k => { k with state := .lost, run := 15 }
     (s.link 0).state = .lost ∧ (s.link 0).run = 15 ∧ s.inFlight 0 0 x ∧
      (s.loader 0).prior = some .orphaned ∧ (s.loader 0).heldBy 0 = true ∧
      (s.queue (.chair 0)).frames = [] ∧ s.handover 1 = none) :=
  ⟨by decide +kernel, by decide +kernel, by decide +kernel,
    inFlight_of _ _ _ _ (by decide +kernel), by decide +kernel⟩

/-- On either side of the threshold of 8, and at the ends of both counters. -/
theorem witness_BadFrameIsCounted :
    (let s := withLink base fun k => { k with errors := 6 }
     s.inReset = false ∧ (s.link 0).state = .up ∧
      min 15 ((s.link 0).errors + 1) < s.params.linkError) ∧
    (let s := withLink base fun _ => { ChairLink.blank with badFrames := 65535 }
     s.inReset = false ∧ (s.link 0).state = .down) ∧
    (let s := withLink base fun k => { k with state := .lost, errors := 15, run := 15 }
     s.inReset = false ∧ (s.link 0).state = .lost) := by decide +kernel

/-- The seventh error becomes the eighth with a DRIVEN loader; the silence timer expires with a
SUPERVISED one, with and without grace. -/
theorem witness_LostLinkTakesAuthority :
    (let s := withLink (held drivenRecord) fun k => { k with errors := 7 }
     s.inReset = false ∧ (s.link 0).state = .up ∧
      s.params.linkError ≤ min 15 ((s.link 0).errors + 1) ∧ (s.loader 0).state = .driven ∧
      (s.loader 0).heldBy 0 = true ∧ ∀ k, ∀ x ∈ s.handover k, x.loader ≠ 0) ∧
    (let s := held supervisedRecord
     s.inReset = false ∧ (s.link 0).state = .up ∧ (s.link 0).silence.isSome = true ∧
      (s.loader 0).state = .supervised ∧ (s.loader 0).heldBy 0 = true ∧
      (∀ k, ∀ x ∈ s.handover k, x.loader ≠ 0) ∧ 0 < s.params.orphanGrace ∧
      ¬ 0 < { s with params := { s.params with orphanGrace := 0 } }.params.orphanGrace ∧
      (s.loader 1).heldBy 0 = false) := by decide +kernel

/-- The link of the taking chair, of the releasing one, of a supervised and of a manual loader, and
of a chair that is no party. -/
theorem witness_LostLinkTakesAuthority_handovers :
    (let x := transaction .offer .offered none .manual
     let s := flight drivenRecord x
     s.inReset = false ∧ (∀ c, (s.link c).state = .up ∧ (s.link c).silence.isSome = true) ∧
      s.transferLaw ∧ s.inFlight 0 0 x ∧ (s.loader 0).prior = some .driven ∧
      (x.taking = 1 ∧ (s.loader 0).heldBy 1 = false) ∧
      (x.taking ≠ 0 ∧ x.releasing = some 0 ∧ (s.loader 0).heldMode = some .manual) ∧
      (x.taking ≠ 5 ∧ x.releasing ≠ some 5)) ∧
    (let x := transaction .request .requested (some 0) .manual
     let s := flight supervisedRecord x
     s.transferLaw ∧ s.inFlight 0 0 x ∧ (s.loader 0).prior = some .supervised ∧
      x.releasing = some 0 ∧ (s.loader 0).heldMode = some .supervised ∧
      0 < s.params.orphanGrace) :=
  ⟨⟨by decide +kernel, by decide +kernel, transferLaw_of _ (by decide +kernel),
      inFlight_of _ _ _ _ (by decide +kernel), by decide +kernel⟩,
    transferLaw_of _ (by decide +kernel), inFlight_of _ _ _ _ (by decide +kernel),
    by decide +kernel⟩

/-- A held loader; then the stop of the taking chair, of the releasing one and of no party. -/
theorem witness_ChairStopHaltsItsLoaders :
    (let s := held drivenRecord
     s.inReset = false ∧ (s.link 0).state = .up ∧ panelStop 1 = true ∧ (s.chair 0).stop = false ∧
      (s.loader 0).state ∈ [LoaderState.driven, .supervised, .orphaned] ∧
      (s.loader 0).heldBy 0 = true ∧ ∀ k, ∀ x ∈ s.handover k, x.loader ≠ 0) ∧
    (let x := transaction .offer .offered none .manual
     let s := flight drivenRecord x
     s.inReset = false ∧ (∀ c, (s.link c).state = .up ∧ (s.chair c).stop = false) ∧
      s.transferLaw ∧ s.inFlight 0 0 x ∧ (s.loader 0).prior = some .driven ∧
      (x.taking = 1 ∧ (s.loader 0).heldBy 1 = false) ∧ (x.taking ≠ 0 ∧ x.releasing = some 0) ∧
      (x.taking ≠ 5 ∧ x.releasing ≠ some 5)) :=
  ⟨by decide +kernel, by decide +kernel, by decide +kernel, transferLaw_of _ (by decide +kernel),
    inFlight_of _ _ _ _ (by decide +kernel), by decide +kernel⟩

/-- A PARKED loader claimed by hand into the last slot, and a HALTED one reclaimed. -/
theorem witness_ClaimAndReclaimGrantLoader :
    (let a := base.heard (chair 0).sender
     base.ready (chair 0) ∧ loaderOf 0 = some 0 ∧ slotOf 3 = some 3 ∧ modeOf 0 = some .manual ∧
      (a.loader 0).state = .parked ∧ allPass (a.checks3to15 0 0 3 .manual)) ∧
    (let s := withLoader haltedRecord
     let a := s.heard (chair 0).sender
     s.ready (chair 0) ∧ modeOf 1 = some .supervised ∧ (a.loader 0).state = .halted ∧
      (a.loader 0).lastHolder = some 0 ∧ allPass (a.checks3to15 0 0 0 .supervised)) :=
  ⟨⟨ready_chair _ _ (by decide +kernel), by decide, by decide, by decide, by decide +kernel,
      passes (by decide +kernel)⟩,
    ⟨ready_chair _ _ (by decide +kernel), by decide, by decide +kernel, by decide +kernel,
      passes (by decide +kernel)⟩⟩

/-- The first number without a meaning, and a loader in another state. -/
theorem witness_ClaimRefusalChangesNothing :
    base.ready (chair 0) ∧ loaderOf 32 = none ∧
    (let a := base.heard (chair 0).sender
     firstFailing (((a.loader 1).state != .unenrolled, Reason.unknownLoader) ::
      ((a.loader 1).state == .parked, .loaderState) :: a.checks3to15 1 0 0 .manual) =
        some .unknownLoader) :=
  ⟨ready_chair _ _ (by decide +kernel), by decide, by decide +kernel⟩

theorem witness_ReleaseParksLoader :
    let s := held drivenRecord
    let a := s.heard (chair 0).sender
    s.ready (chair 0) ∧ loaderOf 0 = some 0 ∧ (a.loader 0).state ≠ .unenrolled ∧
      (a.loader 0).state ≠ .transfer ∧ (a.loader 0).holder = some ⟨0, 0, .manual⟩ :=
  ⟨ready_chair _ _ (by decide +kernel), by decide +kernel⟩

/-- No holder, another chair's loader, and a loader in TRANSFER; then the mode already held and a
mode without a meaning. -/
theorem witness_HolderRequestsFirstTests :
    (base.ready (chair 0) ∧ ((base.heard (chair 0).sender).loader 0).holder = none) ∧
    (let s := held drivenRecord
     s.ready (chair 1) ∧ ∃ x ∈ ((s.heard (chair 1).sender).loader 0).holder, x.chair ≠ 1) ∧
    (let s := flight drivenRecord (transaction .offer .offered none .manual)
     s.ready (chair 0) ∧ ((s.heard (chair 0).sender).loader 0).state = .transfer ∧
      ∃ x ∈ ((s.heard (chair 0).sender).loader 0).holder, x.chair = 0) ∧
    (let s := held drivenRecord
     s.ready (chair 0) ∧ ((s.heard (chair 0).sender).loader 0).holder = some ⟨0, 0, .manual⟩ ∧
      ((s.heard (chair 0).sender).loader 0).state ≠ .transfer ∧ modeOf 0 = some .manual ∧
      modeOf 2 = none) :=
  ⟨⟨ready_chair _ _ (by decide +kernel), by decide +kernel⟩,
    ⟨ready_chair _ _ (by decide +kernel), by decide +kernel⟩,
    ⟨ready_chair _ _ (by decide +kernel), by decide +kernel⟩,
    ⟨ready_chair _ _ (by decide +kernel), by decide +kernel⟩⟩

theorem witness_ModeToSupervisedHoldsAndReleases :
    let s := held drivenRecord
    let a := s.heard (chair 0).sender
    s.ready (chair 0) ∧ (a.loader 0).state = .driven ∧
      (a.loader 0).holder = some ⟨0, 0, .manual⟩ ∧
      (a.loader 0).position = some ⟨0, 50, .towardFarEnd⟩ ∧
      ((a.zone 0).cls.open .supervised &&
        (a.zone 0).holdsSegment ⟨0, 50, .towardFarEnd⟩) = true ∧
      a.barriers[levelOf 0] = false :=
  ⟨ready_chair _ _ (by decide +kernel), by decide +kernel⟩

theorem witness_ModeToManualStartsDriving :
    let s := held supervisedRecord
    let a := s.heard (chair 0).sender
    s.ready (chair 0) ∧ modeOf 0 = some .manual ∧ (a.loader 0).state = .supervised ∧
      (a.loader 0).holder = some ⟨0, 0, .supervised⟩ ∧
      (a.loader 0).position = some ⟨0, 50, .towardFarEnd⟩ ∧
      ((a.zone 0).cls.open .manual && (a.zone 0).holdsSegment ⟨0, 50, .towardFarEnd⟩) = true ∧
      a.countedLoad 0 none = 0 ∧ (a.chair 0).neutral = true ∧ (a.loader 0).stationary = true :=
  ⟨ready_chair _ _ (by decide +kernel), by decide +kernel⟩

/-- With route 255, on ground that admits it; route 0 needs no ground. -/
theorem witness_MissionBuildsOrder :
    let s := held supervisedRecord
    let a := s.heard (chair 0).sender
    s.ready (chair 0) ∧ (a.loader 0).state = .supervised ∧
      (a.loader 0).holder = some ⟨0, 0, .supervised⟩ ∧
      ∃ p ∈ (a.loader 0).position,
        ((a.zone p.zone).cls.open .supervised && (a.zone p.zone).holdsSegment p) = true ∧
          a.barriers[levelOf p.zone] = false :=
  ⟨ready_chair _ _ (by decide +kernel), by decide +kernel⟩

theorem witness_ParkAndRestoreLeaveParked :
    ((withLoader haltedRecord).ready sup ∧
      (((withLoader haltedRecord).heard sup.sender).loader 0).state = .halted) ∧
    ((withLoader { parked with state := .isolated }).ready sup ∧
      (((withLoader { parked with state := .isolated }).heard sup.sender).loader 0).state =
        .isolated) ∧
    (base.ready sup ∧ ((base.heard sup.sender).loader 0).state ≠ .halted ∧
      ((base.heard sup.sender).loader 0).state ≠ .isolated ∧
      ((base.heard sup.sender).loader 0).state ≠ .unenrolled) :=
  ⟨⟨ready_sup _ (by decide +kernel), by decide +kernel⟩,
    ⟨ready_sup _ (by decide +kernel), by decide +kernel⟩,
    ⟨ready_sup _ (by decide +kernel), by decide +kernel⟩⟩

/-- An ISOLATED loader, a DRIVEN one, and one in TRANSFER. -/
theorem witness_IsolateTakesLoaderOut :
    ((withLoader { parked with state := .isolated }).ready sup ∧
      (((withLoader { parked with state := .isolated }).heard sup.sender).loader 0).state =
        .isolated) ∧
    ((held drivenRecord).ready sup ∧
      (((held drivenRecord).heard sup.sender).loader 0).state = .driven ∧
      ∃ x ∈ (((held drivenRecord).heard sup.sender).loader 0).holder, x.chair = 0) ∧
    (let s := flight drivenRecord (transaction .request .requested (some 1) .supervised)
     s.ready sup ∧
      (s.heard sup.sender).inFlight 0 0 (transaction .request .requested (some 1) .supervised)) :=
  ⟨⟨ready_sup _ (by decide +kernel), by decide +kernel⟩,
    ⟨ready_sup _ (by decide +kernel), by decide +kernel⟩,
    ⟨ready_sup _ (by decide +kernel), inFlight_of _ _ _ _ (by decide +kernel)⟩⟩

/-- Scope ALL with filter Both, over a DRIVEN loader; scope CHAIR over its holder; scope LOADER; and
scope ALL over a loader in TRANSFER. -/
theorem witness_WithdrawHaltsItsScope :
    (held drivenRecord).ready sup ∧ scopeOf 2 255 = some .all ∧ filterOf 2 = some none ∧
    scopeOf 1 11 = some (.chair 11) ∧ filterOf 0 = some (some .manual) ∧
    scopeOf 0 0 = some (.loader 0) ∧
    (((held drivenRecord).heard sup.sender).loader 0).hasAuthority = true ∧
    (((held drivenRecord).heard sup.sender).loader 0).state ≠ .transfer ∧
    (∀ k, ∀ y ∈ ((held drivenRecord).heard sup.sender).handover k, y.loader ≠ 0) ∧
    (((held drivenRecord).heard sup.sender).loader 1).hasAuthority = false ∧
    (let x := transaction .request .requested (some 0) .manual
     let a := (flight supervisedRecord x).heard sup.sender
     (flight supervisedRecord x).ready sup ∧ a.transferLaw ∧ a.inFlight 0 0 x ∧
      (a.loader 0).hasAuthority = true) :=
  ⟨ready_sup _ (by decide +kernel), by decide +kernel, by decide +kernel, by decide +kernel,
    by decide +kernel, by decide +kernel, by decide +kernel, by decide +kernel,
    by decide +kernel, by decide +kernel, ready_sup _ (by decide +kernel),
    transferLaw_of _ (by decide +kernel), inFlight_of _ _ _ _ (by decide +kernel),
    by decide +kernel⟩

/-- An OFFER of a DRIVEN loader to the last chair, in the lowest context; and in the last one. An
entry of the pinned part is free for the lock. -/
theorem witness_OfferCreatesHandover :
    (let s := held drivenRecord
     let a := s.heard (chair 0).sender
     s.ready (chair 0) ∧ chairOf 11 = some 11 ∧ modeOf 1 = some .supervised ∧ (11 : ChairId) ≠ 0 ∧
      (a.loader 0).state ∈ [LoaderState.driven, .supervised] ∧ (a.loader 0).heldBy 0 = true ∧
      (a.link 11).state = .up ∧ a.handover 0 = none ∧ (∀ n, n < 0 → a.handover n ≠ none) ∧
      ∃ n : PinnedId, ∀ e ∈ a.watch.pinned[n], e.locked = false ∨ e.names 11 0 = true) ∧
    (let s := { held drivenRecord with
      handovers := (Vector.replicate 8
        (some { transaction .offer .offered none .manual with loader := 1 })).set 7 none }
     s.handover 7 = none ∧ ∀ n, n < 7 → s.handover n ≠ none) :=
  ⟨⟨ready_chair _ _ (by decide +kernel), by decide +kernel⟩, by decide +kernel⟩

theorem witness_RequestReservesSlot :
    let s := held drivenRecord
    let a := s.heard (chair 1).sender
    s.ready (chair 1) ∧ allPass (a.checks3to14 0 1 2 .manual) ∧ slotOf 2 = some 2 ∧
      modeOf 0 = some .manual ∧ (a.loader 0).state ∈ [LoaderState.driven, .supervised] ∧
      (a.loader 0).holder = some ⟨0, 0, .manual⟩ ∧ (0 : ChairId) ≠ 1 ∧ a.handover 0 = none ∧
      ∀ n, n < 0 → a.handover n ≠ none :=
  ⟨ready_chair _ _ (by decide +kernel), passes (by decide +kernel), by decide +kernel⟩

/-- Of a DRIVEN loader, which settles, and of an orphan to supervised mode, which does not. -/
theorem witness_ForceEntersDecidedPhase :
    (let s := held drivenRecord
     let a := s.heard sup.sender
     s.ready sup ∧ allPass (a.checks3to14 0 1 2 .manual) ∧
      (a.loader 0).state ∈ [LoaderState.driven, .supervised, .orphaned, .halted, .parked] ∧
      (a.loader 0).heldBy 1 = false ∧ a.handover 0 = none ∧ ∀ n, n < 0 → a.handover n ≠ none) ∧
    (let s := held orphanedRecord
     let a := s.heard sup.sender
     s.ready sup ∧ allPass (a.checks3to14 0 1 2 .supervised) ∧
      (a.loader 0).state ∈ [LoaderState.driven, .supervised, .orphaned, .halted, .parked] ∧
      (a.loader 0).heldBy 1 = false ∧
      (a.loader 0).holder.map (·.mode) = some .supervised) :=
  ⟨⟨ready_sup _ (by decide +kernel), passes (by decide +kernel), by decide +kernel⟩,
    ⟨ready_sup _ (by decide +kernel), passes (by decide +kernel), by decide +kernel⟩⟩

/-- An ACCEPT into the last slot, and a YIELD from supervised to supervised. -/
theorem witness_AcceptAndYieldEnterNextPhase :
    (let x := transaction .offer .offered none .manual
     let s := flight drivenRecord x
     let a := s.heard (chair 1).sender
     s.ready (chair 1) ∧ a.inFlight 0 0 x ∧ x.suspended = false ∧ x.kind = .offer ∧ x.taking = 1 ∧
      x.phase = .offered ∧ slotOf 3 = some 3 ∧ allPass (a.checks3to14 0 1 3 x.target)) ∧
    (let x := transaction .request .requested (some 3) .supervised
     let s := flight supervisedRecord x
     let a := s.heard (chair 0).sender
     s.ready (chair 0) ∧ a.inFlight 0 0 x ∧ x.suspended = false ∧ x.kind = .request ∧
      x.releasing = some 0 ∧ x.phase = .requested ∧
      (a.loader 0).holder.map (·.mode) = some .supervised) :=
  ⟨⟨ready_chair _ _ (by decide +kernel), inFlight_of _ _ _ _ (by decide +kernel),
      rfl, rfl, rfl, rfl, by decide, passes (by decide +kernel)⟩,
    ⟨ready_chair _ _ (by decide +kernel), inFlight_of _ _ _ _ (by decide +kernel),
      by decide +kernel⟩⟩

/-- A DECLINE toward a DRIVEN loader, a REFUSE, a CANCEL by the supervisor of a handover forced from
HALTED, and each expiry in its phase. -/
theorem witness_RevertingAbortsRestoreLoader :
    (let x := transaction .offer .offered none .manual
     let s := flight drivenRecord x
     let a := s.heard (chair 1).sender
     s.ready (chair 1) ∧ a.inFlight 0 0 x ∧ (chair 1).sender = .chair x.taking 2 ∧
      (a.loader 0).prior = some .driven ∧
      LoaderState.driven ∈ [LoaderState.driven, .supervised, .orphaned, .parked, .halted]) ∧
    (let x := transaction .request .requested (some 0) .supervised
     let s := flight supervisedRecord x
     let a := s.heard (chair 0).sender
     s.ready (chair 0) ∧ a.inFlight 0 0 x ∧ x.releasing = some 0 ∧
      (a.loader 0).prior = some .supervised) ∧
    (let x := { transaction .force .confirming (some 1) .manual with
        releasing := none, held := some haltRecord }
     let s := loneFlight haltedRecord x
     s.ready sup ∧ (s.heard sup.sender).inFlight 0 0 x ∧
      ((s.heard sup.sender).loader 0).prior = some .halted) ∧
    (let x := transaction .request .requested (some 0) .manual
     (flight orphanedRecord x).inReset = false ∧ (flight orphanedRecord x).inFlight 0 0 x ∧
      x.suspended = false ∧ x.phase ∈ [Phase.offered, .requested]) ∧
    (let x := transaction .offer .settling (some 0) .manual
     (flight drivenRecord x).inReset = false ∧ (flight drivenRecord x).inFlight 0 0 x ∧
      x.suspended = false ∧ x.phase = .settling) ∧
    (let x := transaction .offer .confirming (some 0) .manual
     (flight drivenRecord x).inReset = false ∧ (flight drivenRecord x).inFlight 0 0 x ∧
      x.suspended = false ∧ x.phase = .confirming) :=
  ⟨⟨ready_chair _ _ (by decide +kernel), inFlight_of _ _ _ _ (by decide +kernel),
      by decide +kernel⟩,
    ⟨ready_chair _ _ (by decide +kernel), inFlight_of _ _ _ _ (by decide +kernel),
      by decide +kernel⟩,
    ⟨ready_sup _ (by decide +kernel), inFlight_of _ _ _ _ (by decide +kernel), by decide +kernel⟩,
    ⟨by decide +kernel, inFlight_of _ _ _ _ (by decide +kernel), by decide⟩,
    ⟨by decide +kernel, inFlight_of _ _ _ _ (by decide +kernel), by decide⟩,
    ⟨by decide +kernel, inFlight_of _ _ _ _ (by decide +kernel), by decide⟩⟩

theorem witness_ConfirmCommitsHandover :
    let x := transaction .offer .confirming (some 3) .manual
    let s := flight drivenRecord x
    let a := s.heard (chair 1).sender
    s.ready (chair 1) ∧ a.inFlight 0 0 x ∧
      allPass (a.checks9to13 0 1 x.target (a.countedLoad 1 (some 0))) ∧
      x.taking = 1 ∧ x.slot = some 3 ∧ x.phase = .confirming ∧
      (x.target = .manual → (a.chair 1).neutral = true) :=
  ⟨ready_chair _ _ (by decide +kernel), inFlight_of _ _ _ _ (by decide +kernel),
    passes (by decide +kernel), by decide +kernel⟩

/-- A panel byte of 0 shows the controls not neutral; a chair cleared for no level fails check 9. -/
theorem witness_ConfirmFailures :
    (let x := transaction .offer .confirming (some 3) .manual
     let s := flight drivenRecord x
     let h : Header := ⟨.chair 1 0, 7⟩
     s.ready h ∧ (s.heard h.sender).inFlight 0 0 x ∧ x.target = .manual ∧
      panelNeutral 0 = false) ∧
    (let x := transaction .offer .confirming (some 3) .manual
     let s := (flight drivenRecord x).modChair 1 fun r => { r with clearance := 0 }
     let a := s.heard (chair 1).sender
     s.ready (chair 1) ∧ a.inFlight 0 0 x ∧ panelNeutral 2 = true ∧
      (a.loader 0).prior = some .driven ∧
      firstFailing (a.checks9to13 0 1 x.target (a.countedLoad 1 (some 0))) = some .clearance) := by
  refine ⟨⟨?_, inFlight_of _ _ _ _ (by decide +kernel), by decide⟩,
    ⟨ready_chair _ _ (by decide +kernel), inFlight_of _ _ _ _ (by decide +kernel),
      by decide +kernel⟩⟩
  refine ⟨hears_chair _ _ _ (by decide +kernel), by decide +kernel⟩

/-- A busy slot for an ACCEPT, a suspended handover for a YIELD, another phase for a DECLINE, an
OFFER for a REFUSE and another chair for a CANCEL. -/
theorem witness_AnswersAreExaminedInOrder :
    (let x := transaction .offer .offered none .manual
     let s := (flight drivenRecord x).fillSlot 1 3 (.bound 5)
     let a := s.heard (chair 1).sender
     s.ready (chair 1) ∧ (a.loader 0).state ≠ .unenrolled ∧ a.handover 0 ∈ [none, some x] ∧
      firstFailing (((a.loader 0).state == .transfer && (a.loader 0).context == some 0 &&
          (a.handover 0).isSome, Reason.noHandover) ::
        ([(x.kind == .offer && x.taking == 1, .notParty), (x.phase == .offered, .phase),
          (!x.suspended, .suspended)] ++ a.checks3to14 x.loader 1 3 x.target)) =
            some .slotBusy) ∧
    (let x := { transaction .request .requested (some 0) .manual with suspended := true }
     let s := flight drivenRecord x
     let a := s.heard (chair 0).sender
     s.ready (chair 0) ∧ (a.loader 0).state ≠ .unenrolled ∧ a.handover 0 ∈ [none, some x] ∧
      firstFailing
        [((a.loader 0).state == .transfer && (a.loader 0).context == some 0 &&
            (a.handover 0).isSome, .noHandover),
          (x.kind == .request && x.releasing == some 0, .notParty),
          (x.phase == .requested, .phase), (!x.suspended, .suspended)] = some Reason.suspended) ∧
    (let x := transaction .offer .settling (some 0) .manual
     let s := flight drivenRecord x
     let a := s.heard (chair 1).sender
     let named := ((a.loader 0).state == .transfer && (a.loader 0).context == some 0 &&
       (a.handover 0).isSome, Reason.noHandover)
     s.ready (chair 0) ∧ s.ready (chair 1) ∧ s.ready (chair 2) ∧
      (a.loader 0).state ≠ .unenrolled ∧ a.handover 0 ∈ [none, some x] ∧
      firstFailing [named, (x.kind == .offer && x.taking == 1, .notParty),
        (x.phase == .offered, .phase)] = some .phase ∧
      firstFailing [named, (x.kind == .request && x.releasing == some 0, .notParty),
        (x.phase == .requested, .phase)] = some .notParty ∧
      firstFailing [named, (x.taking == 2 || x.releasing == some 2, .notParty)] =
        some .notParty) :=
  ⟨⟨ready_chair _ _ (by decide +kernel), by decide +kernel⟩,
    ⟨ready_chair _ _ (by decide +kernel), by decide +kernel⟩,
    ⟨ready_chair _ _ (by decide +kernel), ready_chair _ _ (by decide +kernel),
      ready_chair _ _ (by decide +kernel), by decide +kernel⟩⟩

/-- A CONFIRM whose own panel byte shows the controls not neutral; the supervisor's CANCEL of a free
context, a SUSPEND in CONFIRMING and a RESUME of a handover that runs. -/
theorem witness_AnswersAreExaminedInOrder_supervisor :
    (let x := transaction .offer .confirming (some 3) .manual
     let s := flight drivenRecord x
     let h : Header := ⟨.chair 1 0, 7⟩
     let a := s.heard h.sender
     s.ready h ∧ (a.loader 0).state ≠ .unenrolled ∧ a.handover 0 ∈ [none, some x] ∧
      firstFailing
        [((a.loader 0).state == .transfer && (a.loader 0).context == some 0 &&
            (a.handover 0).isSome, .noHandover), (x.taking == 1, .notParty),
          (x.phase == .confirming, .phase),
          (x.target == .supervised || (a.chair 1).neutral, .notNeutral)] =
            some Reason.notNeutral) ∧
    (let a := base.heard sup.sender
     base.ready sup ∧ (a.loader 0).state ≠ .unenrolled ∧ a.handover 0 = none ∧
      firstFailing [((a.loader 0).state == .transfer && (a.loader 0).context == some 0 &&
        (a.handover 0).isSome, .noHandover)] = some Reason.noHandover) ∧
    (let x := transaction .offer .confirming (some 3) .manual
     let s := flight drivenRecord x
     let a := s.heard sup.sender
     let named := ((a.loader 0).state == .transfer && (a.loader 0).context == some 0 &&
       (a.handover 0).isSome, Reason.noHandover)
     s.ready sup ∧ a.handover 0 ∈ [none, some x] ∧
      firstFailing [named, (x.phase != .confirming, .phase), (!x.suspended, .suspended)] =
        some .phase ∧
      firstFailing [named, (x.suspended, .phase)] = some .phase) := by
  refine ⟨⟨?_, by decide +kernel⟩, ⟨ready_sup _ (by decide +kernel), by decide +kernel⟩,
    ⟨ready_sup _ (by decide +kernel), by decide +kernel⟩⟩
  exact ⟨hears_chair _ _ _ (by decide +kernel), by decide +kernel⟩

theorem witness_SuspendFreezesAndResumeGoesOn :
    (let x := transaction .offer .settling (some 0) .manual
     (flight drivenRecord x).ready sup ∧
      ((flight drivenRecord x).heard sup.sender).inFlight 0 0 x ∧ x.phase ≠ .confirming ∧
      x.suspended = false) ∧
    (let x := { transaction .offer .settling (some 0) .manual with suspended := true }
     (flight drivenRecord x).ready sup ∧
      ((flight drivenRecord x).heard sup.sender).inFlight 0 0 x ∧ x.suspended = true) :=
  ⟨⟨ready_sup _ (by decide +kernel), inFlight_of _ _ _ _ (by decide +kernel), by decide⟩,
    ⟨ready_sup _ (by decide +kernel), inFlight_of _ _ _ _ (by decide +kernel), by decide⟩⟩

theorem witness_GraceExpiryHaltsOrphan :
    ((held orphanedRecord).inReset = false ∧
      ((held orphanedRecord).loader 0).grace.isSome = true ∧
      ((held orphanedRecord).loader 0).state = .orphaned) ∧
    (let x := { transaction .force .confirming (some 0) .supervised with releasing := none }
     let s := flight orphanedRecord x
     s.inReset = false ∧ (s.loader 0).grace.isSome = true ∧ (s.loader 0).prior = some .orphaned ∧
      s.supQueue.frames = [] ∧ s.inFlight 0 0 x) :=
  ⟨by decide +kernel, by decide +kernel, by decide +kernel, by decide +kernel, by decide +kernel,
    inFlight_of _ _ _ _ (by decide +kernel)⟩

/-- ENROL of the last loader at the least and the greatest address; RETIRE of a PARKED one. -/
theorem witness_EnrolAndRetireWriteRecord :
    (let a := base.heard sup.sender
     base.ready sup ∧ loaderOf 31 = some 31 ∧ (a.loader 31).state = .unenrolled ∧
      (1 : Word16) ≠ 0 ∧ (65534 : Word16) ≠ 65535 ∧
      (∀ n : LoaderId, a.radioMap[n] ≠ some 1) ∧ (∀ n : LoaderId, a.radioMap[n] ≠ some 65534)) ∧
    (((base.heard sup.sender).loader 0).state ∈ [LoaderState.parked, .halted, .isolated]) :=
  ⟨⟨ready_sup _ (by decide +kernel), by decide +kernel⟩, by decide +kernel⟩

/-- A status report of loader 0 from the middle of zone 0. -/
def statusFields : StatusFields := ⟨100, 5, 0, 2000, 1, 10, 0, 0, 1⟩

/-- An address that no entry holds; a front sense without a meaning; a report 128 behind. -/
theorem witness_ReportsNotAccepted :
    base.inReset = false ∧ (∀ n : LoaderId, base.radioMap[n] ≠ some 101) ∧
    (base.radioMap[(0 : LoaderId)] = some 100 ∧
      (∀ n : LoaderId, n < 0 → base.radioMap[n] ≠ some 100) ∧ frontOf 2 = none ∧
      onboardOf 2 = none ∧ missionOf 4 = none) ∧
    ((frontOf 1).isSome = true ∧ (onboardOf 0).isSome = true ∧ (missionOf 3).isSome = true ∧
      ∃ m, ((withLoader { parked with lastCount := some 133 }).loader 0).lastCount = some m ∧
        128 ≤ ((5 : Byte) - m).toNat) :=
  ⟨by decide +kernel, by decide +kernel, by decide +kernel, by decide, by decide, by decide,
    133, by decide +kernel, by decide⟩

/-- A PARKED loader's first report; a DRIVEN one's that wraps the count, with and without a cause; a
watching chair. -/
theorem witness_AcceptedReportWritesRecord :
    (base.inReset = false ∧ base.radioMap[(0 : LoaderId)] = some statusFields.address ∧
      (∀ n : LoaderId, n < 0 → base.radioMap[n] ≠ some statusFields.address) ∧
      frontOf statusFields.front = some .towardFarEnd ∧
      onboardOf statusFields.onboard = some .remote ∧ onboardOf 1 = some .atMachine ∧
      missionOf statusFields.mission = some .running ∧
      (∀ n ∈ (base.loader 0).lastCount, statusFields.count ≠ n ∧
        (statusFields.count - n).toNat < 128) ∧
      (base.loader 0).hasAuthority = false ∧ (base.loader 0).state ≠ .transfer) ∧
    (let s := held { drivenRecord with lastCount := some 250 }
     (∀ n ∈ (s.loader 0).lastCount, statusFields.count ≠ n ∧
        (statusFields.count - n).toNat < 128) ∧
      (s.loader 0).state ∈ [LoaderState.driven, .supervised, .orphaned] ∧
      s.groundCause .manual (some 0) ⟨0, 2000, .towardFarEnd⟩ = none ∧
      s.groundCause .manual (some 0) ⟨1, 2000, .towardFarEnd⟩ = some .zoneClosed) ∧
    (let s := { base with watch := (base.watch.place 3 0).1 }
     (s.link 3).state = .up ∧ s.watch.watches 3 0 = true ∧ (s.queue (.chair 3)).frames = []) := by
  decide +kernel

/-- In TRANSFER: a stationary report in SETTLING, a moving one in CONFIRMING toward manual mode and
in OFFERED, none with a cause; then a report from a Closed zone, and one that enters a Closing zone
from a handover forced from HALTED. -/
theorem witness_AcceptedReportWritesRecord_handovers :
    (let x := transaction .offer .settling (some 1) .manual
     let s := flight drivenRecord x
     s.transferLaw ∧ s.holderLaw ∧ s.inFlight 0 0 x ∧ x.phase = .settling ∧ x.suspended = false ∧
      { statusFields with stationary := 1 }.stationary ≠ 0 ∧
      s.groundCause (s.judgedMode 0) (some 0) ⟨0, 2000, .towardFarEnd⟩ = none ∧
      s.groundCause (s.judgedMode 0) (some 0) ⟨1, 2000, .towardFarEnd⟩ = some .zoneClosed) ∧
    (let x := transaction .offer .confirming (some 1) .manual
     let s := flight drivenRecord x
     s.transferLaw ∧ s.holderLaw ∧ s.inFlight 0 0 x ∧ x.phase = .confirming ∧
      x.suspended = false ∧ x.target = .manual ∧ statusFields.stationary = 0 ∧
      s.groundCause (s.judgedMode 0) (some 0) ⟨0, 2000, .towardFarEnd⟩ = none) ∧
    (let x := transaction .offer .offered none .manual
     let s := flight drivenRecord x
     s.transferLaw ∧ s.holderLaw ∧ s.inFlight 0 0 x ∧
      ¬ (x.phase = .settling ∧ x.suspended = false ∧ statusFields.stationary ≠ 0) ∧
      ¬ (x.phase = .confirming ∧ x.target = .manual ∧ statusFields.stationary = 0)) ∧
    (let x := { transaction .force .confirming (some 1) .manual with
        releasing := none, held := some haltRecord }
     let s := (loneFlight haltedRecord x).modZone 1 fun _ =>
       { base.zone 0 with closing := some 3 }
     s.transferLaw ∧ s.holderLaw ∧ s.inFlight 0 0 x ∧
      s.groundCause (s.judgedMode 0) (some 0) ⟨1, 2000, .towardFarEnd⟩ = some .closing ∧
      (s.loader 0).prior ∈ [some LoaderState.parked, some .halted]) := by
  refine ⟨⟨?_, ?_, ?_, by decide +kernel⟩, ⟨?_, ?_, ?_, by decide +kernel⟩,
    ⟨?_, ?_, ?_, by decide +kernel⟩, ?_, ?_, ?_, by decide +kernel⟩
  all_goals first
    | exact transferLaw_of _ (by decide +kernel)
    | exact holderLaw_of _ (by decide +kernel)
    | exact inFlight_of _ _ _ _ (by decide +kernel)

/-- A zone of class 3, its flag clear, with attention notices on and nobody waiting. -/
def watchedZone (r : Loader) : State :=
  (held r).modZone 0 fun z => { z with cls := .openFlagged }

/-- A SUPERVISED loader whose report, and whose fix, enters the flags of its zone; a Closing zone in
which it stays. -/
theorem witness_AcceptedReportWritesRecord_zones :
    (let s := watchedZone supervisedRecord
     let r := { s.loader 0 with position := some ⟨0, 2000, .towardFarEnd⟩ }
     (s.loader 0).state ≠ .transfer ∧ (s.loader 0).hasAuthority = true ∧ r.inZone 0 = true ∧
      (s.zone 0).closing = none ∧ (s.zone 0).attention = false ∧
      (s.zone 0).cls = .openFlagged ∧ s.params.attention ≠ 0 ∧ s.supQueue.frames = [] ∧
      s.groundCause (s.judgedMode 0) (some 0) ⟨0, 2000, .towardFarEnd⟩ = none) ∧
    (let s := (watchedZone drivenRecord).modZone 0 fun z => { z with closing := some 0 }
     (s.loader 0).hasAuthority = true ∧
      s.groundCause (s.judgedMode 0) (some 0) ⟨0, 2000, .towardFarEnd⟩ = none) := by
  decide +kernel

/-- A loader without authority; a DRIVEN one fixed beyond its ground, which ends nothing but its own
authority; and one in TRANSFER. -/
theorem witness_PositionSourceRequests :
    (base.ready sup ∧ frontOf 0 = some .towardEntrance ∧
      ((base.heard sup.sender).loader 0).state ≠ .unenrolled ∧
      ((base.heard sup.sender).loader 0).hasAuthority = false) ∧
    (let s := held drivenRecord
     let a := s.heard sup.sender
     s.ready sup ∧ (a.loader 0).state ∈ [LoaderState.driven, .supervised, .orphaned] ∧
      a.groundCause (a.judgedMode 0) ((a.loader 0).position.map (·.zone))
        ⟨1, 5119, .towardEntrance⟩ = some .zoneClosed) ∧
    (let x := transaction .request .requested (some 0) .manual
     let s := flight supervisedRecord x
     let a := s.heard sup.sender
     s.ready sup ∧ a.transferLaw ∧ a.holderLaw ∧ a.inFlight 0 0 x ∧
      a.groundCause (a.judgedMode 0) ((a.loader 0).position.map (·.zone)) ⟨1, 0, .towardEntrance⟩ =
        some .zoneClosed) :=
  ⟨⟨ready_sup _ (by decide +kernel), by decide +kernel⟩,
    ⟨ready_sup _ (by decide +kernel), by decide +kernel⟩, ready_sup _ (by decide +kernel),
    transferLaw_of _ (by decide +kernel), holderLaw_of _ (by decide +kernel),
    inFlight_of _ _ _ _ (by decide +kernel), by decide +kernel⟩

theorem witness_LoaderTimersExpire :
    (base.inReset = false ∧
      ((withLoader { parked with radioSilent := true }).loader 0).radioSilent = true) ∧
    (((held drivenRecord).loader 0).radioSilent = false ∧
      ((held drivenRecord).loader 0).state ∉ [LoaderState.unenrolled, .transfer] ∧
      ((held drivenRecord).loader 0).hasAuthority = true ∧
      ((held drivenRecord).loader 0).lapseTimer.isSome = true) ∧
    (let x := transaction .offer .settling (some 1) .manual
     let s := flight { drivenRecord with holdRefresh := some ⟨500, 500⟩ } x
     (s.loader 0).radioSilent = false ∧ s.inFlight 0 0 x ∧ s.supQueue.frames = [] ∧
      (s.loader 0).holdRefresh.isSome = true ∧ x.phase = .settling ∧ x.suspended = false) ∧
    ((base.loader 0).holdRefresh.isSome = true ∧
      (base.loader 0).state ∈ [LoaderState.parked, .halted, .isolated]) ∧
    (let s := held { drivenRecord with holdRefresh := some ⟨500, 500⟩ }
     (s.loader 0).holdRefresh.isSome = true ∧
      (s.loader 0).state ∈ [LoaderState.driven, .supervised, .orphaned] ∧
      (s.loader 0).lapse = false) :=
  ⟨by decide +kernel, by decide +kernel,
    ⟨by decide +kernel, inFlight_of _ _ _ _ (by decide +kernel), by decide +kernel⟩,
    by decide +kernel, by decide +kernel⟩

/-- The last zone written for the first time; a Closing zone; a loader that would be stranded: it
stands on the last segment of an open length of 2, which 1 would cut off. -/
theorem witness_SetZoneStoresUnlessStranding :
    (base.ready sup ∧ (255 : ZoneId).val = (255 : Byte).toNat ∧ classOf 5 = some .openPlain ∧
      measuredFromOf 1 = some .farEnd ∧ ((base.heard sup.sender).zone 255).closing.isSome = false) ∧
    ((base.modZone 0 fun z => { z with closing := some 3 }).zone 0).closing.isSome = true ∧
    (let s := held drivenRecord
     (s.loader 0).hasAuthority = true ∧
      ∃ p ∈ (s.loader 0).position, p.zone = 0 ∧
        Zone.holdsSegment ⟨.openPlain, 1, .entrance, 0, false, false, none⟩ p = false) :=
  ⟨⟨ready_sup _ (by decide +kernel), by decide +kernel⟩, by decide +kernel, by decide +kernel⟩

/-- `base` with zone 0 Closing in closure context 0. -/
def closing (s : State) : State :=
  (s.modZone 0 fun z => { z with closing := some 0 }).setClosure 0 (some ⟨0, 90, ⟨90000, 0⟩, 5⟩)

/-- A held loader in the zone; one in TRANSFER there; a Closing zone; all four contexts in use. -/
theorem witness_ClosureBeginsAndIsCancelled :
    (let s := held drivenRecord
     let a := s.heard sup.sender
     s.ready sup ∧ (0 : ZoneId).val = (0 : Byte).toNat ∧ (a.zone 0).closing = none ∧
      a.closure 0 = none ∧ (∀ n, n < 0 → a.closure n ≠ none) ∧
      (∀ n, ∀ x ∈ a.handover n, (a.loader x.loader).inZone 0 = false) ∧
      (a.loader 0).hasAuthority = true ∧ (a.loader 0).inZone 0 = true ∧
      (a.loader 0).heldBy 0 = true ∧ (a.link 0).state = .up ∧
      (a.queue (.chair 0)).frames = []) ∧
    (let x := transaction .request .requested (some 0) .manual
     let s := flight supervisedRecord x
     let a := s.heard sup.sender
     s.ready sup ∧ a.transferLaw ∧ (a.zone 0).closing = none ∧ a.closure 0 = none ∧
      a.inFlight 0 0 x ∧ (a.loader 0).inZone 0 = true ∧ x.slot = some 0) ∧
    ((closing base).ready sup ∧ ((closing base).heard sup.sender).zone 0 =
        { base.zone 0 with closing := some 0 }) ∧
    (let s := { base with closures := Vector.replicate 4 (some ⟨1, 90, ⟨90000, 0⟩, 5⟩) }
     s.ready sup ∧ ∀ n, (s.heard sup.sender).closure n ≠ none) :=
  ⟨⟨ready_sup _ (by decide +kernel), by decide +kernel⟩,
    ⟨ready_sup _ (by decide +kernel), transferLaw_of _ (by decide +kernel), by decide +kernel,
      by decide +kernel, inFlight_of _ _ _ _ (by decide +kernel), by decide +kernel⟩,
    ⟨ready_sup _ (by decide +kernel), by decide +kernel⟩,
    ⟨ready_sup _ (by decide +kernel), by decide +kernel⟩⟩

/-- A DRIVEN loader in the zone, and one in TRANSFER there. -/
theorem witness_ClosureExpiryTakesAuthority :
    (let s := closing (held drivenRecord)
     s.inReset = false ∧ s.transferLaw ∧ s.closure 0 = some ⟨0, 90, ⟨90000, 0⟩, 5⟩ ∧
      (s.zone 0).closing = some 0 ∧ (s.loader 0).hasAuthority = true ∧
      (s.loader 0).inZone 0 = true ∧ (s.loader 0).state ≠ .transfer ∧
      (s.loader 1).hasAuthority = false) ∧
    (let x := transaction .offer .offered none .manual
     let s := closing (flight drivenRecord x)
     s.transferLaw ∧ (s.loader 0).hasAuthority = true ∧ (s.loader 0).inZone 0 = true ∧
      s.inFlight 0 0 x) :=
  ⟨⟨by decide +kernel, transferLaw_of _ (by decide +kernel), by decide +kernel⟩,
    transferLaw_of _ (by decide +kernel), by decide +kernel, by decide +kernel,
    inFlight_of _ _ _ _ (by decide +kernel)⟩

/-- A SUPERVISED loader on level 0, and a level already breached; then handovers on level 0 whose
loaders return to DRIVEN, to SUPERVISED and to HALTED, and one that a breach leaves. -/
theorem witness_BarrierBreachHaltsSupervised :
    ((held supervisedRecord).inReset = false ∧
      (held supervisedRecord).barriers[(0 : LevelId)] = false ∧
      ((held supervisedRecord).loader 0).state ∈ [LoaderState.supervised, .orphaned] ∧
      ((held supervisedRecord).loader 0).onLevel 0 = true ∧
      ∀ k, ∀ x ∈ (held supervisedRecord).handover k, x.loader ≠ 0) ∧
    { base with barriers := Vector.replicate 8 true }.barriers[(7 : LevelId)] = true ∧
    (let x := transaction .offer .offered none .supervised
     let s := flight drivenRecord x
     s.transferLaw ∧ s.inFlight 0 0 x ∧ (s.loader 0).prior = some .driven ∧
      (s.loader 0).onLevel 0 = true ∧ x.target = .supervised) ∧
    (let x := transaction .request .requested (some 0) .manual
     let s := flight supervisedRecord x
     s.transferLaw ∧ s.inFlight 0 0 x ∧ (s.loader 0).prior = some .supervised ∧
      (s.loader 0).onLevel 0 = true ∧
      (s.loader 0).holder.map (·.mode) = some .supervised) ∧
    (let x := { transaction .force .confirming (some 1) .supervised with
        releasing := none, held := some haltRecord }
     let s := loneFlight haltedRecord x
     s.transferLaw ∧ s.inFlight 0 0 x ∧ (s.loader 0).prior = some .halted ∧
      (s.loader 0).onLevel 0 = true ∧ x.target = .supervised) ∧
    (let x := transaction .offer .offered none .manual
     let s := flight drivenRecord x
     s.transferLaw ∧ s.inFlight 0 0 x ∧
      ¬ ((s.loader 0).holder.map (·.mode) = some .supervised ∨ x.target = .supervised)) := by
  refine ⟨by decide +kernel, by decide +kernel, ⟨?_, ?_, by decide +kernel⟩,
    ⟨?_, ?_, by decide +kernel⟩, ⟨?_, ?_, by decide +kernel⟩, ?_, ?_, by decide +kernel⟩
  all_goals first
    | exact transferLaw_of _ (by decide +kernel)
    | exact inFlight_of _ _ _ _ (by decide +kernel)

/-- A drive frame of chair 0 for its slot 0. -/
def driveFields : DriveFields := ⟨0, 1, 5, 30, 0, 0, 0, 0⟩

/-- A first frame with its speed below the envelope of 50; a frame that clamps at the ends of both
ranges; a releasing chair's frame in SETTLING. -/
theorem witness_DriveFrameIsClampedAndForwarded :
    (let s := held drivenRecord
     let a := s.heard (chair 0).sender
     s.hears (chair 0).sender ∧ slotOf driveFields.slot = some 0 ∧
      flagOf driveFields.horn = some false ∧ (a.slot 0 0).contents = .bound 0 ∧
      (a.loader 0).state = .driven ∧ driveFields.epoch = (a.loader 0).epoch ∧
      (∀ n ∈ (a.slot 0 0).lastCount, driveFields.count ≠ n ∧
        (driveFields.count - n).toNat < 128) ∧
      (30 : Int) = max (-80) (min 80 driveFields.speed.toInt) ∧ a.envelope 0 0 30 = 50) ∧
    ((-80 : Int) = max (-80) (min 80 (0x80 : Byte).toInt) ∧
      (held drivenRecord).envelope 0 0 (-80) = 50) ∧
    (let x := transaction .offer .settling (some 0) .manual
     let a := (flight drivenRecord x).heard (chair 0).sender
     (flight drivenRecord x).hears (chair 0).sender ∧ a.inFlight 0 0 x ∧ x.phase ≠ .confirming ∧
      (a.loader 0).holder.map (·.mode) = some .manual) :=
  ⟨⟨hears_chair _ _ _ (by decide +kernel), by decide +kernel⟩, by decide +kernel,
    ⟨hears_chair _ _ _ (by decide +kernel), inFlight_of _ _ _ _ (by decide +kernel),
      by decide +kernel⟩⟩

/-- Slot number 4; a stale epoch; a repeated count and one 128 ahead. -/
theorem witness_DriveFrameNotForwarded :
    (held drivenRecord).hears (chair 0).sender ∧ slotOf 4 = none ∧
    (let a := (held drivenRecord).heard (chair 0).sender
     (a.slot 0 0).contents = .bound 0 ∧
      firstFailing [((flagOf 0).isSome, Reason.badValue), (a.drivable 0, .notHolder),
        ((2 : Word16) == (a.loader 0).epoch, .staleGrant)] = some .staleGrant) ∧
    (let a := ((held drivenRecord).modSlot 0 0 fun x =>
        { x with lastCount := some 133 }).heard (chair 0).sender
     (flagOf 1).isSome = true ∧ (a.slot 0 0).contents = .bound 0 ∧ a.drivable 0 = true ∧
      (1 : Word16) = (a.loader 0).epoch ∧ (a.slot 0 0).lastCount = some 133 ∧
      128 ≤ ((5 : Byte) - 133).toNat) :=
  ⟨hears_chair _ _ _ (by decide +kernel), by decide, by decide +kernel, by decide +kernel⟩

/-- `base` with zone 0 as given and loader 0, which chair 0 drives, at a chainage. -/
def driving (z : Zone) (chainage : Nat) (front : FrontSense) : State :=
  (held { drivenRecord with position := some ⟨0, chainage, front⟩ }).modZone 0 fun _ => z

/-- Toward an Entrance-measured brow and toward a FarEnd-measured one. -/
theorem witness_EnvelopeFollowsItsTerms :
    (let z : Zone := ⟨.openManualFlagged, 30, .entrance, 60, false, false, none⟩
     let p : Position := ⟨0, 1050, .towardFarEnd⟩
     let s := driving z 1050 .towardFarEnd
     (s.loader 0).position = some p ∧ s.zone p.zone = z ∧ p.law ∧ z.holdsSegment p = true ∧
      z.openLength ≤ 128 ∧ (0 < (55 : Int) ∧ p.front = .towardFarEnd) ∧ z.openLength ≠ 128 ∧
      150 + p.chainage = 40 * z.openLength ∧ z.cap ≤ 80) ∧
    (let z : Zone := ⟨.openPlain, 25, .farEnd, 80, false, false, none⟩
     let p : Position := ⟨0, 4120, .towardEntrance⟩
     let s := driving z 4120 .towardEntrance
     (s.loader 0).position = some p ∧ s.zone p.zone = z ∧ p.law ∧ z.holdsSegment p = true ∧
      0 + (5120 - 40 * z.openLength) = p.chainage) := by
  unfold Position.law
  decide +kernel

theorem witness_WatchAndUnwatch :
    (base.ready (chair 0) ∧ ((base.heard (chair 0).sender).loader 0).state ≠ .unenrolled) ∧
    ({ base with watch := (base.watch.lock 0 0).1 }.watch.isLocked 0 0 = true) ∧
    (let s := { base with watch := (base.watch.place 0 0).1 }
     s.watch.isLocked 0 0 = false ∧
      (∀ m n : PinnedId, (s.watch.pinned[m]).any (·.names 0 0) = true →
        (s.watch.pinned[n]).any (·.names 0 0) = true → m = n) ∧
      ((s.watch.pinnedOf 0 0).isSome = true → s.watch.wayOf 0 0 = none)) :=
  ⟨⟨ready_chair _ _ (by decide +kernel), by decide +kernel⟩, by decide +kernel,
    by decide +kernel⟩

/-- A forwarded report of a loader. -/
def reportFrame (l : LoaderId) (count : Byte) : Frame :=
  ⟨0, .report ⟨l, count, 0, 50, .towardFarEnd, 0, true, .remote, .idle⟩⟩

/-- A notice, and a reply. -/
def noticeFrame : Frame := ⟨0, .notice (.stopChange false 0 0 0)⟩
/-- A reply. -/
def replyFrame : Frame := ⟨7, .reply .ping (.ok (.ping 0 0))⟩

/-- A report waits behind 31 replies; a queue of 31 has room. -/
theorem witness_QueuedReportIsReplacedInPlace :
    (reportFrame 3 9).reportOf = some 3 ∧ (reportFrame 3 8).reportOf = some 3 ∧
    (∀ x ∈ List.replicate 31 replyFrame ++ ([] : List Frame), x.reportOf ≠ some 3) ∧
    (List.replicate 31 replyFrame).length < 32 := by decide +kernel

/-- 31 notices and a report; 32 notices; 32 replies. -/
theorem witness_FullQueueGivesWay :
    (let fs := List.replicate 31 noticeFrame ++ [reportFrame 3 8]
     fs.length = 32 ∧ (∀ l : LoaderId, (reportFrame 4 1).reportOf = some l →
        ∀ g ∈ fs, g.reportOf ≠ some l) ∧
      ∀ x ∈ List.replicate 31 noticeFrame, x.isReport = false) ∧
    (let fs := List.replicate 32 noticeFrame
     fs.length = 32 ∧ noticeFrame.isNotice = true ∧ replyFrame.isReport = false ∧
      ∀ x ∈ fs, x.isReport = false) ∧
    (let fs := List.replicate 32 replyFrame
     (∀ x ∈ fs, x.isReport = false) ∧ ∀ x ∈ fs, x.isNotice = false) := by decide +kernel

/-- An order of a loader. -/
def orderOf (l : LoaderId) (b : OrderBody) : Order := ⟨l, 100, b⟩

/-- A line of 63; 64 with a DRIVE behind a HOLD; 64 HOLDs, whose oldest is followed by another of its
loader, for a DRIVE and for a MISSION. -/
theorem witness_FullQueueGivesWay_orders :
    ({ FleetLink.blank with orders := List.replicate 63 (orderOf 3 .hold) }.orders.length < 64) ∧
    (let first := [orderOf 3 .hold]
     let rest := List.replicate 62 (orderOf 4 .hold)
     (first ++ orderOf 5 (.drive 1 0 0 0 false) :: rest).length = 64 ∧
      (orderOf 5 (.drive 1 0 0 0 false)).isDrive = true ∧ ∀ x ∈ first, x.isDrive = false) ∧
    (let line := List.replicate 64 (orderOf 3 .hold)
     line.length = 64 ∧ (∀ x ∈ line, x.isDrive = false) ∧
      (orderOf 6 (.drive 0 0 0 0 true)).isDrive = true ∧
      (orderOf 6 (.mission 0)).isDrive = false) := by decide +kernel

theorem witness_TransmissionTakesHead : base.inReset = false := by decide +kernel

/-- Each end of the codes. -/
theorem witness_SettingsAreStored :
    base.ready sup ∧ paramOf 1 = some .answer ∧ paramOf 15 = some .attention ∧
      (1 : Word16).toNat ≤ 1 ∧ paramOf 16 = none ∧ paramOf 0 = none ∧ 1 < (2 : Word16).toNat ∧
      flagOf 1 = some true ∧ chairOf 11 = some 11 :=
  ⟨ready_sup _ (by decide +kernel), by decide⟩

theorem witness_QueriesAnswerRecords :
    base.ready sup ∧ base.ready (chair 3) ∧ loaderOf 0 = some 0 ∧
      ((base.heard sup.sender).loader 0).state ≠ .unenrolled ∧ chairOf 11 = some 11 ∧
      (255 : ZoneId) = (255 : Byte).toFin ∧ ctxOf 7 = some 7 ∧ paramOf 15 = some .attention :=
  ⟨ready_sup _ (by decide +kernel), ready_chair _ _ (by decide +kernel), by decide +kernel⟩

/-- A loader in TRANSFER in a Closing zone; a DRIVEN one, and one that is PARKED. -/
theorem witness_RestartClearsAuthority :
    (let x := transaction .offer .offered none .manual
     let s := closing (flight drivenRecord x)
     let a := s.heard sup.sender
     s.ready sup ∧ a.transferLaw ∧ a.inFlight 0 0 x) ∧
    ((held drivenRecord).ready sup ∧
      ((held drivenRecord).heard sup.sender).loader 0 = drivenRecord ∧
      ∀ k, ((held drivenRecord).heard sup.sender).handover k = none) ∧
    ((base.heard sup.sender).loader 0).state ∈ [LoaderState.parked, .halted, .isolated] :=
  ⟨⟨ready_sup _ (by decide +kernel), transferLaw_of _ (by decide +kernel),
      inFlight_of _ _ _ _ (by decide +kernel)⟩,
    ⟨ready_sup _ (by decide +kernel), by decide +kernel⟩, by decide +kernel⟩

/-- A DRIVEN loader, with no reply waiting and with 31; one in TRANSFER; STOP_ALL already asserted. -/
theorem witness_StopAllTakesAuthority :
    ((held drivenRecord).inReset = false ∧ (held drivenRecord).stopAll = false ∧
      ((held drivenRecord).loader 0).hasAuthority = true ∧
      ∀ k, ∀ x ∈ (held drivenRecord).handover k, x.loader ≠ 0) ∧
    (List.replicate 31 (⟨7, .reply .ping (.ok (.ping 0 0))⟩ : Frame)).countP Frame.isReply < 32 ∧
    (let x := transaction .offer .settling (some 1) .manual
     let s := flight drivenRecord x
     s.inReset = false ∧ s.stopAll = false ∧ s.transferLaw ∧ s.inFlight 0 0 x) ∧
    { base with stopAll := true }.stopAll = true :=
  ⟨by decide +kernel, by decide +kernel,
    ⟨by decide +kernel, by decide +kernel, transferLaw_of _ (by decide +kernel),
      inFlight_of _ _ _ _ (by decide +kernel)⟩, by decide +kernel⟩

/-- A MODE to each mode, and a frame with no payload. -/
theorem witness_FramesDecodeAsEncoded :
    (Instr.modeToManual (chair 0) 5 0).wellFormed = true ∧
    (encodeFrame (.modeToManual (chair 0) 5 0)).isSome = true ∧
    (encodeFrame (.modeToSupervised (chair 0) 5)).isSome = true ∧
    (encodeFrame (.restart sup)).isSome = true := by decide +kernel

/-- A handover of loader 0 from chair 0 to chair 1, with both pairs locked and the lamp lit, and a
command that ends it. -/
def lawfulFlight : State :=
  let s := flight drivenRecord (transaction .request .requested (some 2) .supervised)
  { s with
    watch := ((s.watch.lock 0 0).1.lock 1 0).1
    lamps := s.lamps.set 0 true
    pending := [.answerTimerExpiry 0] }

/-- Each pair of `lawfulFlight` stands in the entry with its chair's number. -/
theorem lawfulFlight_pinned :
    ∀ m : PinnedId, ∀ e ∈ lawfulFlight.watch.pinned[m], m.val = e.chair.val := by decide +kernel

theorem lawfulFlight_watchLaw : lawfulFlight.watchLaw := by
  refine ⟨fun c l m n hm hn => ?_, by decide +kernel, by decide +kernel⟩
  have entry : ∀ k : PinnedId, (lawfulFlight.watch.pinned[k]).any (·.names c l) = true →
      k.val = c.val := by
    intro k h
    obtain ⟨e, he, hc⟩ := (Option.any_eq_true_iff_get _ _).mp h |>.elim
      fun hs hc => (⟨_, Option.get_mem hs, hc⟩ : ∃ e ∈ lawfulFlight.watch.pinned[k],
        e.names c l = true)
    have hk := lawfulFlight_pinned k e he
    simp only [PinnedEntry.names, Bool.and_eq_true, beq_iff_eq] at hc
    rw [hk, hc.1]
  exact Fin.ext (by rw [entry m hm, entry n hn])

theorem lawfulFlight_slotLaw : lawfulFlight.slotLaw := by
  unfold State.slotLaw
  decide +kernel

theorem lawfulFlight_recordLaws : lawfulFlight.recordLaws := by
  refine ⟨?_, ?_, ?_, lawfulFlight_slotLaw, ?_, lawfulFlight_watchLaw, ?_⟩
  · unfold State.transferLaw; decide +kernel
  · unfold State.haltLaw; decide +kernel
  · unfold State.holderLaw; decide +kernel
  · unfold State.loadLaw; decide +kernel
  · unfold State.lockLaw; decide +kernel

theorem witness_StepKeepsRecordLaws :
    lawfulFlight.recordLaws ∧ ∃ t, step lawfulFlight = .next t :=
  ⟨lawfulFlight_recordLaws, _, rfl⟩

/-- A lit lamp and a handover, with the command that ends it. -/
theorem witness_StepKeepsLampLaw :
    lawfulFlight.lampLaw ∧ lawfulFlight.recordLaws ∧ lawfulFlight.positionLaw ∧
      ∃ t, step lawfulFlight = .next t := by
  refine ⟨?_, lawfulFlight_recordLaws, ?_, _, rfl⟩
  · unfold State.lampLaw; decide +kernel
  · unfold State.positionLaw; decide +kernel

theorem witness_StepKeepsStopLaw :
    let s := { base with stopAll := true, pending := [Instr.claim (chair 0) 0 0 0] }
    s.stopLaw ∧ ∃ t, step s = .next t := by
  refine ⟨?_, _, rfl⟩
  unfold State.stopLaw
  decide +kernel

theorem held_paramLaw : (held drivenRecord).paramLaw := by
  unfold State.paramLaw
  decide +kernel

theorem held_linkLaw : (held drivenRecord).linkLaw := by
  unfold State.linkLaw ChairLink.law
  decide +kernel

theorem held_addressLaw : (held drivenRecord).addressLaw := by
  have filled : ∀ l : LoaderId, ((held drivenRecord).radioMap[l]).all
      (fun a => decide (a ≠ 0 ∧ a ≠ 65535)) = true := by decide +kernel
  refine ⟨fun l a h => ?_, by decide +kernel⟩
  have := filled l
  rw [Option.mem_def.mp h] at this
  simpa using this

theorem closing_rangeLaw : (closing (held drivenRecord)).rangeLaw := by
  unfold State.rangeLaw Position.law DriveCounters.law
  decide +kernel

theorem held_queueLaw : (held drivenRecord).queueLaw := by
  unfold State.queueLaw OutQueue.law
  decide +kernel

theorem closing_closureLaw : (closing (held drivenRecord)).closureLaw := by
  unfold State.closureLaw
  decide +kernel

/-- The other laws read nothing that a closure changes, but for the ranges of the zones. -/
theorem witness_StepKeepsRangesAndLimits :
    let s := { closing (held drivenRecord) with pending := [Instr.enrol sup 1 101] }
    (s.paramLaw ∧ s.linkLaw ∧ s.addressLaw ∧ s.rangeLaw ∧ s.queueLaw ∧ s.closureLaw) ∧
      ∃ t, step s = .next t :=
  ⟨⟨held_paramLaw, held_linkLaw, held_addressLaw, closing_rangeLaw, held_queueLaw,
    closing_closureLaw⟩, _, rfl⟩

/-! ## Well-formedness, frames and codes -/

/-- The one check: MODE with the byte of supervised is not the row MODE_TO_MANUAL. -/
theorem test_wellFormed_refuses_supervised_byte :
    (Instr.modeToManual (chair 0) 0 1).wellFormed = false ∧
      (Instr.modeToManual (chair 0) 0 0).wellFormed = true ∧
      (Instr.modeToManual (chair 0) 0 2).wellFormed = true := by decide

/-- The check of 08 R147 over the nine digits, worked out with another program. -/
theorem test_check_of_digits :
    checkOf [0x31, 0x32, 0x33, 0x34, 0x35, 0x36, 0x37, 0x38, 0x39] = 0x29B1 := by decide +kernel

/-- Frames written out from the tables of 10 R172 and R174, with checks from another program. -/
theorem test_frames_of_each_link :
    readFrame (.chair 6) [0xA5, 6, 0x02, 7, 2, 12, 0, 0, 0x24, 0x76] =
      some (.claim ⟨.chair 6 2, 7⟩ 12 0 0) ∧
    readFrame (.chair 6) [0xA5, 5, 0x05, 7, 2, 12, 1, 0x04, 0x47] =
      some (.modeToSupervised ⟨.chair 6 2, 7⟩ 12) ∧
    readFrame (.chair 1) [0xA5, 12, 0x30, 0, 2, 0, 0, 14, 41, 55, 0, 0, 0, 0, 0x85, 0xD9] =
      some (.driveFrame 1 2 0 ⟨0, 14, 41, 55, 0, 0, 0, 0⟩) ∧
    readFrame .fleet [0xA5, 13, 0x60, 0, 0x03, 0x12, 254, 41, 0x02, 0x80, 1, 15, 0, 0, 1, 0x1E,
        0xB9] = some (.statusReport 0 ⟨786, 254, 41, 640, 1, 15, 0, 0, 1⟩) ∧
    readFrame .supervisor [0xA5, 5, 0x13, 9, 7, 0x03, 0x12, 0xB6, 0x5E] =
      some (.enrol ⟨.supervisor, 9⟩ 7 786) := by decide +kernel

/-- A damaged check, a kind the link does not carry, and a payload of another size (08 R147). -/
theorem test_bad_frames_are_not_read :
    readFrame (.chair 6) [0xA5, 6, 0x02, 7, 2, 12, 0, 0, 0x24, 0x77] = none ∧
    readFrame .supervisor [0xA5, 12, 0x30, 0, 2, 0, 0, 14, 41, 55, 0, 0, 0, 0, 0x85, 0xD9] = none ∧
    readFrame .supervisor (frameBytes 0x27 9 [0]) = none := by decide +kernel

/-- Hunting resumes at a Length outside the range, so that a start byte there begins a frame
(08 R147); a late byte makes the frame bad. -/
theorem test_receiver_hunts :
    (Receiver.hunting.takeAll .supervisor
      ([0x00, 0xA5, 0xA5, 2, 0x27, 9, 0xAC, 0xA4].map fun b => ⟨some b, false⟩)).2 =
        [.badFrame .supervisor, .restart ⟨.supervisor, 9⟩] ∧
    (Receiver.hunting.takeAll .supervisor
      [⟨some 0xA5, false⟩, ⟨some 2, false⟩, ⟨some 0x27, true⟩]).2 =
        [.badFrame .supervisor] := by decide +kernel

/-- A frame in reception when RESET is asserted is abandoned: its last bytes, which arrive after the
release, complete nothing (08 R161). A byte that arrives in RESET is discarded. -/
theorem test_reset_abandons_reception :
    let begun := [0xA5, 2, 0x27].foldl
      (fun s (b : Byte) => s.receive .supervisor ⟨some b, false⟩) base
    begun.receiver .supervisor ≠ .hunting ∧
    (let t := after .resetAssertion begun
     t.receiver .supervisor = .hunting ∧
      (t.receive .fleet ⟨some 0xA5, false⟩).receiver .fleet = .hunting ∧
      ([9, 0xAC, 0xA4].foldl (fun s (b : Byte) => s.receive .supervisor ⟨some b, false⟩)
        (after .resetRelease t)).pending = []) ∧
    ([9, 0xAC, 0xA4].foldl (fun s (b : Byte) => s.receive .supervisor ⟨some b, false⟩)
      begun).pending = [.restart ⟨.supervisor, 9⟩] := by decide +kernel

/-- The last two bytes of a frame on the line, taken by steps on an empty queue, complete the
command, which then waits (08 R147). -/
theorem test_line_bytes_are_taken :
    let rest : List (Link × LineByte) :=
      [(.supervisor, ⟨some 0xAC, false⟩), (.supervisor, ⟨some 0xA4, false⟩)]
    let s := [0xA5, 2, 0x27, 9].foldl
      (fun s (b : Byte) => s.receive .supervisor ⟨some b, false⟩) { base with line := rest }
    let next := fun s => match step s with
      | .next t => t
      | _ => s
    (next (next s)).pending = [.restart ⟨.supervisor, 9⟩] ∧ (next (next s)).line = [] := by
  decide +kernel

/-- A HOLD order as it leaves (08 R158, 10 R175), and the longest reply, 55 payload bytes
(10 R175). -/
theorem test_bytes_of_what_leaves :
    (Order.bytes ⟨7, 786, .hold⟩) = [0xA5, 4, 0x62, 0, 0x03, 0x12, 0x4B, 0x90] ∧
    ((bodies (after (.queryParam sup 255) base) .supervisor).map (·.wire.length)) = [55] := by
  decide +kernel

/-- No row of the table gives any bit. -/
theorem test_no_word_spells_a_command : decodeTableWord 32 5 = none := rfl

/-- The set of pair (9, 11) is 47 and that of (3, 25) is 21 (04 4-10, 06 6-10). -/
theorem test_set_of_pair : Machine.setOf 9 11 = 47 ∧ Machine.setOf 3 25 = 21 := by decide

/-! ## A chair takes up its loaders (03 3-15) -/

/-- Loaders 12 and 13 PARKED on level 1, and chair 6 UP with its clearance empty. -/
def shift : State :=
  let z : Zone := ⟨.openPlain, 128, .entrance, 60, false, false, none⟩
  { base with
    loaders := (base.loaders.set 12
        { parked with position := some ⟨45, 700, .towardFarEnd⟩, epoch := 4 }).set 13
      { parked with position := some ⟨46, 300, .towardFarEnd⟩ }
    radioMap := (base.radioMap.set 12 (some 112)).set 13 (some 113)
    chairs := base.chairs.set 6 { Chair.blank with neutral := true }
    zones := (base.zones.set 45 z).set 46 z }

/-- Step 2: levels 1 and 2. -/
theorem test_setClearance :
    ((after (.setClearance sup 6 0b110) shift).chair 6).clearance = 0b110 := by decide +kernel

/-- After step 2. -/
def cleared : State := after (.setClearance sup 6 0b110) shift

/-- Step 3: the claim by hand. -/
theorem test_claim_granted :
    let t := after (.claim (chair 6) 12 0 0) cleared
    (t.loader 12).state = .driven ∧ (t.loader 12).epoch = 5 ∧ t.watch.isLocked 6 12 = true ∧
      t.lamps[(1 : LevelId)] = true ∧ (t.loader 12).holdRefresh = none ∧
      bodies t (.chair 6) = [.reply .claim (.ok (.grant 12 0 .manual 5))] := by decide +kernel

/-- After step 3 and after step 6. -/
def oneHeld : State := after (.claim (chair 6) 12 0 0) cleared
/-- After step 6. -/
def bothHeld : State := after (.claim (chair 6) 13 1 1) oneHeld

/-- Step 1: level 1 lies outside the empty clearance. Step 5: the manual load is 1. -/
theorem test_claim_refusals :
    bodies (after (.claim (chair 6) 12 0 0) shift) (.chair 6) =
      [.reply .claim (.refused .clearance)] ∧
    oneHeld.manualLoad 6 = 1 ∧
    ((bodies (after (.claim (chair 6) 13 1 0) oneHeld) (.chair 6)).getLast? =
      some (.reply .claim (.refused .manualBusy))) := by decide +kernel

theorem test_mission :
    (after (.mission (chair 6) 13 7) bothHeld).fleet.orders.getLast? =
      some ⟨13, 113, .mission 7⟩ := by decide +kernel

/-- Step 8: the epoch stays, a HOLD leaves and the manual load is 0. -/
theorem test_mode_to_supervised :
    let t := after (.modeToSupervised (chair 6) 12) bothHeld
    (t.loader 12).state = .supervised ∧ (t.loader 12).epoch = 5 ∧ t.manualLoad 6 = 0 ∧
      t.fleet.orders.getLast? = some ⟨12, 112, .hold⟩ := by decide +kernel

/-- Step 9: loader 13 moves. -/
theorem test_mode_to_manual_not_stationary :
    (bodies (after (.modeToManual (chair 6) 13 0)
      ((after (.modeToSupervised (chair 6) 12) bothHeld).modLoader 13 fun r =>
        { r with stationary := false })) (.chair 6)).getLast? =
      some (.reply .mode (.refused .notStationary)) := by decide +kernel

/-- Step 10: the pair stays, unlocked, and the lamp stays lit. -/
theorem test_release :
    let t := after (.release (chair 6) 12) bothHeld
    (t.loader 12).state = .parked ∧ (t.slot 6 0).contents = .empty ∧
      t.watch.isLocked 6 12 = false ∧ t.watch.watches 6 12 = true ∧
      t.lamps[(1 : LevelId)] = true := by decide +kernel

/-! ## A shift change by request, with suspension (04 4-10) -/

/-- Loader 11 DRIVEN under chair 2 in slot 1, with context 0 in use for another loader. -/
def night : State :=
  { base with
    loaders := base.loaders.set 11
      { drivenRecord with
        holder := some ⟨2, 1, .manual⟩, epoch := 9, stationary := false
        position := some ⟨101, 2200, .towardFarEnd⟩ }
    radioMap := base.radioMap.set 11 (some 111)
    chairs := (base.chairs.set 9 { Chair.blank with clearance := 0b11000, neutral := true }).set 2
      { Chair.blank with
        clearance := 255
        slots := Chair.blank.slots.set 1 { Slot.blank with contents := .bound 11 } }
    zones := base.zones.set 101 ⟨.openPlain, 128, .entrance, 60, false, false, none⟩
    handovers := base.handovers.set 0
      (some { transaction .offer .offered none .manual with loader := 1 })
    watch := ((base.watch.lock 2 11).1.place 9 11).1 }

/-- After t = 0. -/
def requested : State := after (.request (chair 9) 11 0 0) night

/-- t = 0: context 1, the slot Reserved, the pair locked, the manual load of chair 9 at 1. -/
theorem test_request :
    (requested.loader 11).context = some 1 ∧ (requested.loader 11).prior = some .driven ∧
      (requested.slot 9 0).contents = .reserved 11 1 ∧ requested.watch.isLocked 9 11 = true ∧
      requested.watch.wayOf 9 11 = none ∧ requested.manualLoad 9 = 1 ∧
      bodies requested (.chair 2) = [.notice (.requested 1 11 9 .manual 10)] := by decide +kernel

/-- After t = 4, with 6 s of the answer time kept. -/
def suspendedFlight : State :=
  after (.suspend sup 11 1) (requested.modHandover 1 fun x =>
    { x with timer := ⟨10000, 4000⟩, watchdog := ⟨60000, 4000⟩ })

/-- t = 4: both chairs learn that 6 s remain. -/
theorem test_suspend :
    (bodies suspendedFlight (.chair 9)).getLast? =
      some (.notice (.suspended 1 11 .requested 6000)) ∧
    (suspendedFlight.handover 1).map (·.suspended) = some true := by decide +kernel

/-- t = 7: refused SUSPENDED. -/
theorem test_yield_suspended :
    (bodies (after (.yield (chair 2) 11 1) suspendedFlight) (.chair 2)).getLast? =
      some (.reply .yield (.refused .suspended)) := by decide +kernel

/-- t = 20: the answer timer runs on from 6 s. -/
theorem test_resume :
    ((after (.resume sup 11 1) suspendedFlight).handover 1).map
      (fun x => (x.suspended, x.timer.remaining)) = some (false, 6000) := by decide +kernel

/-- After t = 23. -/
def settlingFlight : State :=
  after (.yield (chair 2) 11 1) (after (.resume sup 11 1) suspendedFlight)

/-- t = 23: the settle timer starts at 8 s and a HOLD leaves. -/
theorem test_yield :
    (settlingFlight.handover 1).map (fun x => (x.phase, x.timer)) =
      some (.settling, ⟨8000, 0⟩) ∧
    settlingFlight.fleet.orders.getLast? = some ⟨11, 111, .hold⟩ := by decide +kernel

/-- t = 44: the commit. -/
theorem test_confirm :
    let t := after (.confirm (chair 9) 11 1)
      (after (.statusReport 0 ⟨111, 2, 101, 2200, 1, 0, 1, 0, 0⟩) settlingFlight)
    (t.loader 11).holder = some ⟨9, 0, .manual⟩ ∧ (t.loader 11).epoch = 10 ∧
      (t.slot 2 1).contents = .empty ∧ t.watch.isLocked 2 11 = false ∧ t.handover 1 = none ∧
      (bodies t (.chair 2)).getLast? = some (.notice (.released 11 1)) ∧
      (bodies t (.chair 9)).drop ((bodies t (.chair 9)).length - 2) =
        [.reply .confirm (.ok (.context 1)), .notice (.granted 11 0 .manual 10)] := by
  decide +kernel

/-! ## Other handover commands -/

/-- The OFFER of 04 R68 names no slot and carries the loader's zone and the answer time. -/
theorem test_offer :
    let t := after (.offer (chair 0) 0 1 1) (held drivenRecord)
    bodies t (.chair 1) = [.notice (.offered 0 0 0 (some .manual) .supervised (some 0) 10)] ∧
      (t.handover 0).map (·.slot) = some none := by decide +kernel

/-- From supervised to supervised an ACCEPT goes straight to CONFIRMING (04 R75). -/
theorem test_accept :
    ((after (.accept (chair 1) 0 0 2)
      (flight supervisedRecord (transaction .offer .offered none .supervised))).handover 0).map
        (fun x => (x.phase, x.slot)) = some (.confirming, some 2) := by decide +kernel

/-- The epoch stands at its value after an abort; the parties learn the cause (04 R88). -/
theorem test_decline :
    let t := after (.decline (chair 1) 0 0)
      (flight drivenRecord (transaction .offer .offered none .manual))
    (t.loader 0).state = .driven ∧ (t.loader 0).epoch = 1 ∧
      bodies t (.chair 0) = [.notice
        (.handoverEnded 0 0 .offer (some .declined) .driven 1 none .manual 0)] := by decide +kernel

theorem test_refuse :
    let t := after (.refuse (chair 0) 0 0)
      (flight supervisedRecord (transaction .request .requested (some 3) .manual))
    (t.loader 0).state = .supervised ∧ (t.slot 1 3).contents = .empty := by decide +kernel

/-- A CANCEL by a chair that is no party (04 R67). -/
theorem test_cancel :
    bodies (after (.cancel (chair 5) 0 0)
      (flight drivenRecord (transaction .offer .offered none .manual))) (.chair 5) =
        [.reply .cancel (.refused .notParty)] := by decide +kernel

/-- A FORCE of a HALTED loader goes to CONFIRMING, and the context holds the halt record
(04 R70, R75). -/
theorem test_force :
    ((after (.force sup 0 1 2 0) (withLoader haltedRecord)).handover 0).map
      (fun x => (x.phase, x.held)) = some (.confirming, some haltRecord) := by decide +kernel

theorem test_confirm_timer :
    ((after (.confirmTimerExpiry 0)
      (flight drivenRecord
        (transaction .offer .confirming (some 2) .manual))).loader 0).lapseTimer = some ⟨300, 0⟩ := by
  decide +kernel

/-! ## A brow approach (05 5-7) and far-end figures (05 5-8) -/

/-- Zone 37 with loader 5 under chair 1, at a chainage, with the link's error counter. -/
def brow (chainage errors age : Nat) : State :=
  { base with
    loaders := base.loaders.set 5
      { drivenRecord with
        holder := some ⟨1, 0, .manual⟩, epoch := 14, age
        position := some ⟨37, chainage, .towardFarEnd⟩ }
    radioMap := base.radioMap.set 5 (some 105)
    chairs := base.chairs.set 1
      { Chair.blank with slots := Chair.blank.slots.set 0 ⟨.bound 5, some 40, .accepted⟩ }
    links := base.links.set 1
      { ChairLink.blank with state := .up, errors, silence := some ⟨1000, 0⟩ }
    zones := base.zones.set 37 ⟨.openManualFlagged, 30, .entrance, 60, false, false, none⟩ }

/-- The drive frame of chair 1 with a count and a speed. -/
def frameOf (count speed : Byte) : Instr := .driveFrame 1 2 0 ⟨0, 14, count, speed, 0, 0, 0, 0⟩

/-- The speed of the last drive order. -/
def lastSpeed (s : State) : Option Int :=
  s.fleet.orders.getLast?.bind fun o =>
    match o.body with
    | .drive v _ _ _ _ => some v
    | _ => none

/-- Frame 41 passes and raises attention, frame 42 is derated, frames 43 and 44 meet the ramp, frame
45 leaves the brow, and frames 46 and 47 find the position stale. -/
theorem test_drive_brow_approach :
    lastSpeed (after (frameOf 41 55) (brow 1050 0 100)) = some 55 ∧
    bodies (after (frameOf 41 55) (brow 1050 0 100)) .supervisor =
      [.notice (.zoneAttention 37 .openManualFlagged 5 (some 1) 0)] ∧
    lastSpeed (after (frameOf 42 55) (brow 1050 4 150)) = some 30 ∧
    lastSpeed (after (frameOf 43 55) (brow 1150 3 50)) = some 15 ∧
    lastSpeed (after (frameOf 44 55) (brow 1180 3 60)) = some 0 ∧
    lastSpeed (after (frameOf 45 0xD8) (brow 1180 3 110)) = some (-40) ∧
    lastSpeed (after (frameOf 46 0xD8) (brow 1180 3 1600)) = some (-5) ∧
    lastSpeed (after (frameOf 47 0xD8) (brow 1180 4 1650)) = some (-2) := by decide +kernel

/-- The table of the whole-number ramp, with S = 20 and K = 8. -/
theorem test_ramp_table :
    [20, 21, 22, 23, 24, 30, 50, 100, 150, 180, 200].map (ramp 20 8) =
      [0, 0, 1, 1, 2, 5, 15, 40, 65, 80, 90] := by decide

/-- The table of the FarEnd-measured zone 150: envelopes and forwarded speeds. -/
theorem test_far_end_table :
    let s := driving ⟨.openPlain, 25, .farEnd, 50, false, false, none⟩ 4200 .towardEntrance
    [40, -40, 60, -70].map (fun v => (s.envelope 0 0 v, clampSpeed (s.envelope 0 0 v) v)) =
      [(30, 30), (50, -40), (30, 30), (50, -50)] := by decide +kernel

/-! ## Counters and notices for one slot (05 5-9) -/

/-- Loader 20 under chair 4 in slot 2 with epoch 3, and the slot's drive state. -/
def gate (last : Option Byte) (outcome : DriveOutcome) : State :=
  { base with
    loaders := base.loaders.set 20
      { drivenRecord with
        holder := some ⟨4, 2, .manual⟩, epoch := 3
        position := some ⟨0, 1000, .towardFarEnd⟩ }
    radioMap := base.radioMap.set 20 (some 120)
    zones := base.zones.set 0 ⟨.openPlain, 128, .entrance, 60, false, false, none⟩
    chairs := base.chairs.set 4
      { Chair.blank with slots := Chair.blank.slots.set 2 ⟨.bound 20, last, outcome⟩ } }

/-- The drive frame of chair 4. -/
def frame4 (epoch : Word16) (count speed : Byte) : Instr :=
  .driveFrame 4 2 0 ⟨2, epoch, count, speed, 0, 0, 0, 0⟩

/-- Frame 4 leaves a gap of 3 and is clamped; frame 5 is 241 ahead and dropped as stale; frame 6 is
refused with a notice of the current epoch; frame 7 is refused in silence. -/
theorem test_drive_one_slot :
    (let t := after (frame4 3 205 70) (gate (some 201) .accepted)
     (t.chair 4).counters = ⟨0, 1, 0, 0, 3, 0⟩ ∧ t.slot 4 2 = ⟨.bound 20, some 205, .clamped⟩) ∧
    (let t := after (frame4 3 190 30) (gate (some 205) .clamped)
     (t.chair 4).counters = ⟨0, 0, 0, 1, 0, 0⟩ ∧ t.slot 4 2 = ⟨.bound 20, some 205, .clamped⟩) ∧
    bodies (after (frame4 2 206 30) (gate (some 205) .clamped)) (.chair 4) =
      [.notice (.driveRefused 2 .staleGrant (some 20) 3 206)] ∧
    bodies (after (frame4 2 207 30) (gate (some 205) (.refused .staleGrant))) (.chair 4) = [] := by
  decide +kernel

/-! ## Link loss and recovery (06 6-10, 08 8-7) -/

/-- The four bad frames of 08 8-7 end at 8 and LOST, the tally of 5 kept. -/
theorem test_fourth_bad_frame_loses_link :
    let t := after (.badFrame (.chair 6))
      (base.modLink 6 fun k => { k with errors := 7, tally := 5 })
    ((t.link 6).state, (t.link 6).errors, (t.link 6).tally, (t.link 6).run) = (.lost, 8, 5, 0) := by
  decide +kernel

/-- The first valid frame after the bad one brings the tally to 16 and the counter to 8; the
sixteenth sets all three to 0. -/
theorem test_recovery_run :
    (let t := after (.lostLinkFrame 6 2)
        (base.modLink 6 fun k => { k with state := .lost, errors := 9, tally := 15 })
     ((t.link 6).errors, (t.link 6).tally, (t.link 6).run) = (8, 0, 1)) ∧
    (let t := after (.lostLinkFrame 6 2)
        (base.modLink 6 fun k => { k with state := .lost, errors := 8, tally := 14, run := 15 })
     ((t.link 6).state, (t.link 6).errors, (t.link 6).tally, (t.link 6).run) = (.up, 0, 0, 0)) := by
  decide +kernel

/-- A DRIVEN loader is halted when its chair's link goes LOST, and the supervisor is told last. -/
theorem test_link_silence :
    let t := after (.linkSilenceExpiry 0) (held drivenRecord)
    (t.loader 0).halt.map (·.first) = some .chairLink ∧ (t.loader 0).lastHolder = some 0 ∧
      (bodies t .supervisor).getLast? = some (.notice (.linkLost 0 0 0 1 0)) := by decide +kernel

/-- An orphan's chair that returns is told of its slots; the supervisor of their number. -/
theorem test_link_restored :
    let t := after (.lostLinkFrame 0 2)
      (withLink (held orphanedRecord) fun k => { k with state := .lost, run := 15 })
    bodies t (.chair 0) = [.notice (.linkRestored 0 0 0
      ((Vector.replicate 4 none).set 0 (some ⟨0, .supervised, some .supervised, 1⟩)))] ∧
    bodies t .supervisor =
      [.notice (.linkRestored 0 0 1 (Vector.replicate 4 none))] := by decide +kernel

theorem test_orphan_grace :
    ((after (.orphanGraceExpiry 0) (held orphanedRecord)).loader 0).halt.map (·.first) =
      some .chairLink := by decide +kernel

/-- A PING is answered with the seconds and the error counter of its link (08 R155). -/
theorem test_ping :
    bodies (after (.ping (chair 0)) { withLink base (fun k => { k with errors := 3 }) with
      seconds := 51200 }) (.chair 0) = [.reply .ping (.ok (.ping 51200 3))] := by decide +kernel

/-- A PING that newly presses the chair stop halts the loader. No reply follows the notice (06 R129),
or the reply does (08 R155). -/
theorem test_ping_pressing_stop : ∀ answers : Bool,
    let t := (held drivenRecord).ping ⟨.chair 0 1, 7⟩ answers
    (t.loader 0).halt.map (·.first) = some .chairStop ∧
      bodies t (.chair 0) =
        .notice (.halted 0 (some 0) .chairStop (some (0, 50)) (some 0) 0) ::
          (if answers then [.reply .ping (.ok (.ping 0 0))] else []) := by decide +kernel

/-! ## Watches and queues (07 7-6, 7-7) -/

/-- The pinned part with 37 locked entries and three unlocked ones, all used. -/
def fullPinned : WatchTable :=
  let locked : Option PinnedEntry := some ⟨0, 1, true, true⟩
  { WatchTable.blank with
    pinned := (((Vector.replicate 40 locked).set 5 (some ⟨7, 30, false, true⟩)).set 12
      (some ⟨2, 12, false, true⟩)).set 27 (some ⟨9, 4, false, true⟩)
    openSets := WatchTable.blank.openSets.set 22 ⟨none, some (4, 6), true⟩ }

/-- The CLAIM: the used flags clear, entry 5 is taken, pair (7, 30) is evicted, set 22 way 1 becomes
invalid and its mark stays. -/
theorem test_pinned_replacement :
    let t := (fullPinned.lock 4 6).1
    t.pinned[(5 : PinnedId)] = some ⟨4, 6, true, true⟩ ∧
      t.pinned[(12 : PinnedId)] = some ⟨2, 12, false, false⟩ ∧
      t.pinned[(27 : PinnedId)] = some ⟨9, 4, false, false⟩ ∧
      t.openSets[(22 : SetId)] = ⟨none, none, true⟩ ∧
      (fullPinned.lock 4 6).2 = some (7, 30) := by decide +kernel

/-- A WATCH of a third pair of a set takes the way touched less recently, and the evicted chair is
told (07 R134, R138): loader 0 of chair 0, after 4 of chair 1 and 8 of chair 2, all in set 0. -/
theorem test_watch_evicts :
    let s := { base with watch :=
      { WatchTable.blank with
        openSets := WatchTable.blank.openSets.set 0 ⟨some (1, 4), some (2, 8), false⟩ } }
    let t := after (.watch (chair 0) 0) s
    t.watch.openSets[(0 : SetId)] = ⟨some (0, 0), some (2, 8), true⟩ ∧
      bodies t (.chair 1) = [.notice (.watchEvicted 4 .openPart)] := by decide +kernel

theorem test_unwatch :
    (after (.unwatch (chair 0) 0) { base with watch := (base.watch.place 0 0).1 }).watch.watches
      0 0 = false := by decide +kernel

/-- The queue of 07 7-7: a report for loader 22 spends loader 3's and joins at the tail. -/
theorem test_queue_under_load :
    let q : OutQueue := ⟨reportFrame 3 0 :: List.replicate 28 noticeFrame ++
      List.replicate 3 replyFrame, 0, none⟩
    (q.join (reportFrame 22 0)).frames.getLast? = some (reportFrame 22 0) ∧
      (q.join (reportFrame 22 0)).dropped = 1 ∧
      (q.join (reportFrame 22 0)).frames.head? = some noticeFrame ∧
      (q.join (reportFrame 3 9)).frames.head? = some (reportFrame 3 9) ∧
      (q.join (reportFrame 3 9)).dropped = 0 := by decide +kernel

/-- With no report queued, a report is not joined and the oldest notice gives way to a reply. -/
theorem test_queue_without_reports :
    let q : OutQueue := ⟨List.replicate 24 noticeFrame ++ List.replicate 8 replyFrame, 3, none⟩
    (q.join (reportFrame 7 0)) = { q with dropped := 4 } ∧
      (q.join replyFrame).frames.countP Frame.isReply = 9 ∧
      (q.join replyFrame).frames.length = 32 := by decide +kernel

theorem test_transmissions :
    (let s := base.modQueue .supervisor fun q => { q with frames := [noticeFrame, replyFrame] }
     (after (.deliveryQueueTransmit .supervisor) s).supQueue =
        ⟨[replyFrame], 0, some noticeFrame⟩) ∧
    (let s := { base with fleet := { base.fleet with orders := [⟨0, 100, .hold⟩] } }
     (after .orderLineTransmit s).fleet = ⟨0, 0, [], 0, some ⟨0, 100, .hold⟩⟩) := by
  decide +kernel

/-- A full order line of HOLDs refuses a DRIVE and spends, for a MISSION, the oldest HOLD that a later
one of its loader follows: not loader 3's only one at the head, but loader 4's first (08 R159). -/
theorem test_full_order_line :
    let line := { FleetLink.blank with
      orders := orderOf 3 .hold :: List.replicate 63 (orderOf 4 .hold) }
    line.join (orderOf 9 (.drive 1 0 0 0 false)) = { line with dropped := 1 } ∧
      line.join (orderOf 9 (.mission 2)) =
        { line with
          orders := orderOf 3 .hold :: List.replicate 62 (orderOf 4 .hold) ++
            [orderOf 9 (.mission 2)]
          dropped := 1 } := by decide +kernel

/-! ## Reports, positions and records (01 1-10) -/

/-- Loader 7 SUPERVISED under chair 3 with its last report count. -/
def radio (last : Byte) (source : Source) : State :=
  { base with
    loaders := base.loaders.set 7
      { supervisedRecord with
        holder := some ⟨3, 1, .supervised⟩, lastCount := some last, source, age := 7
        position := some ⟨41, 720, .towardFarEnd⟩
        lastReported := some ⟨41, 720, .towardFarEnd⟩ }
    radioMap := base.radioMap.set 7 (some 786)
    zones := base.zones.set 41 ⟨.openPlain, 128, .entrance, 60, false, false, none⟩ }

/-- A report of loader 7 with a count and a chainage. -/
def report7 (count : Byte) (chainage : Word16) : Instr :=
  .statusReport 0 ⟨786, count, 41, chainage, 1, 10, 0, 0, 1⟩

/-- The count wraps from 255 to 0; 253 after 0 is dropped; 3 after 0 is accepted. Under a fix the
last reported position moves and the position does not. -/
theorem test_report_taken :
    ((after (report7 0 720) (radio 255 .reported)).loader 7).lastCount = some 0 ∧
    after (report7 253 560) (radio 0 .reported) = radio 0 .reported ∧
    ((after (report7 3 840) (radio 0 .reported)).loader 7).position =
      some ⟨41, 840, .towardFarEnd⟩ ∧
    (let r := (after (report7 5 960) (radio 4 .fixed)).loader 7
     r.position = some ⟨41, 720, .towardFarEnd⟩ ∧ r.lastReported = some ⟨41, 960, .towardFarEnd⟩) := by
  decide +kernel

theorem test_fixPosition :
    let t := after (.fixPosition sup 7 41 820 1) (radio 4 .reported)
    (t.loader 7).position = some ⟨41, 820, .towardFarEnd⟩ ∧ (t.loader 7).source = .fixed ∧
      bodies t .supervisor = [.reply .fixPosition (.ok (.fix 7 .supervised))] := by decide +kernel

theorem test_freePosition :
    let r := (after (.freePosition sup 7) (radio 5 .fixed)).loader 7
    (r.source, r.age, r.position) =
      (.reported, 65535, some ⟨41, 720, .towardFarEnd⟩) := by decide +kernel

/-- A silent loader is halted with cause RADIO, and a HOLD leaves. -/
theorem test_silence :
    let t := after (.silenceTimerExpiry 7) (radio 6 .reported)
    (t.loader 7).radioSilent = true ∧ (t.loader 7).halt.map (·.first) = some .radio ∧
      t.fleet.orders = [⟨7, 786, .hold⟩] := by decide +kernel

/-- ENROL refuses an address in use (01 R4), and a chair (01 R4, 03 R49). -/
theorem test_enrol_refusals :
    bodies (after (.enrol sup 3 100) base) .supervisor =
      [.reply .enrol (.refused .duplicate)] ∧
    bodies (after (.enrol (chair 0) 3 101) base) (.chair 0) =
      [.reply .enrol (.refused .notParty)] := by decide +kernel

theorem test_retire_held :
    bodies (after (.retire sup 0) (held drivenRecord)) .supervisor =
      [.reply .retire (.refused .loaderState)] := by decide +kernel

theorem test_lapse_and_refresh :
    (let t := after (.lapseTimerExpiry 0) (held drivenRecord)
     (t.loader 0).lapse = true ∧ t.fleet.orders = [⟨0, 100, .hold⟩]) ∧
    (after (.holdRefreshExpiry 0) base).fleet.orders = [⟨0, 100, .hold⟩] := by decide +kernel

/-! ## Zones, closures and barriers (02 2-7) -/

/-- A closure time below 10 s is stored as 10, and the holder is told (02 R33). -/
theorem test_closeZone :
    let t := after (.closeZone sup 0 9) (held drivenRecord)
    (t.closure 0).map (·.time) = some 10 ∧
      bodies t (.chair 0) = [.notice (.evacuate 0 0 10)] ∧
      bodies t .supervisor = [.reply .closeZone (.ok (.closure 0 10))] := by decide +kernel

/-- At the expiry the DRIVEN loader is halted and the supervisor is told of one. -/
theorem test_closure_expiry :
    let t := after (.closureTimerExpiry 0) (closing (held drivenRecord))
    (t.zone 0).cls = .closed ∧ (t.zone 0).cap = 50 ∧
      (t.loader 0).halt.map (·.first) = some .zoneClosed ∧
      (bodies t .supervisor).getLast? = some (.notice (.closureDone 0 1 false)) := by decide +kernel

theorem test_cancelClosure :
    ((after (.cancelClosure sup 0) (closing base)).closure 0,
      ((after (.cancelClosure sup 0) (closing base)).zone 0).cls) = (none, .openPlain) := by
  decide +kernel

/-- Only a stationary report ends SETTLING, and the lapse timer stops (04 4-10, t = 41 s and 42 s).
A report past the brow halts with cause BROW (05 5-7), and one that re-enters a Closing zone with
cause CLOSING (02 2-7, t = 52 s). -/
theorem test_report_judged :
    ((after (.statusReport 0 ⟨111, 1, 101, 2200, 1, 5, 0, 0, 0⟩) settlingFlight).handover 1).map
        (·.phase) = some .settling ∧
    (let t := after (.statusReport 0 ⟨111, 2, 101, 2200, 1, 0, 1, 0, 0⟩) settlingFlight
     (t.handover 1).map (fun x => (x.phase, x.timer)) = some (.confirming, ⟨5000, 0⟩) ∧
      (t.loader 11).lapseTimer = none) ∧
    ((after (.statusReport 0 ⟨105, 1, 37, 1200, 1, 0, 0, 0, 0⟩) (brow 1180 3 60)).loader 5).halt.map
      (·.first) = some .brow ∧
    (let s := (closing (held { supervisedRecord with
       position := some ⟨1, 200, .towardFarEnd⟩ })).modZone 1 fun _ =>
         ⟨.openPlain, 128, .entrance, 60, false, false, none⟩
     ((after (.statusReport 0 statusFields) s).loader 0).halt.map (·.first) = some .closing) := by
  decide +kernel

/-- SET_ZONE saturates the open length to 128 and the cap to 80 (02 R31). -/
theorem test_setZone :
    ((after (.setZone sup 9 3 200 0 90) base).zone 9) =
      ⟨.openFlagged, 128, .entrance, 80, false, false, none⟩ := by decide +kernel

/-- A breach leaves a DRIVEN loader on its level and halts a SUPERVISED one (02 R38). -/
theorem test_barrier :
    ((after (.barrierBreach 0) (held drivenRecord)).loader 0).state = .driven ∧
    ((after (.barrierBreach 0) (held supervisedRecord)).loader 0).halt.map (·.first) =
      some .barrier ∧
    bodies (after (.barrierRelease 0) (after (.barrierBreach 0) base)) .supervisor =
      [.notice (.barrierChange 0 true 0 0), .notice (.barrierChange 0 false 0 0)] := by
  decide +kernel

/-! ## Settings, queries and the stops -/

/-- A value above the range is stored as its end (09 R163): the answer time, 2 to 60 s. -/
theorem test_setParam :
    (after (.setParam sup 1 61) base).params.answer = 60 ∧
    (after (.setParam sup 1 1) base).params.answer = 2 := by decide +kernel

theorem test_watchAll :
    (after (.watchAll sup 1) base).watchAll = true ∧
    bodies (after (.watchAll sup 2) base) .supervisor =
      [.reply .watchAll (.refused .badValue)] := by decide +kernel

/-- A query by a chair of a zone is refused (09 R165); a free context answers its number. -/
theorem test_queries :
    bodies (after (.queryZone (chair 0) 0) base) (.chair 0) =
      [.reply .queryZone (.refused .notParty)] ∧
    (bodies (after (.queryHandover sup 7) base) .supervisor).map (·.wire) = [[0, 7, 0]] ∧
    (bodies (after (.queryLoader sup 31) base) .supervisor) =
      [.reply .queryLoader (.refused .unknownLoader)] := by decide +kernel

/-- The halt record of a HALTED loader gains a further cause; its first cause stays (06 R118). -/
theorem test_stopAll :
    let t := after .stopAllAssertion (withLoader haltedRecord)
    (t.loader 0).halt.map (fun h => (h.first, h.latest, h.further)) =
      some (.chairStop, .stopAll, 1) ∧
    bodies t .supervisor = [.notice (.stopChange true 0 0 1)] ∧
    t.stopAll = true ∧ (after .stopAllRelease t).stopAll = false := by decide +kernel

/-- RESTART answers one loader halted into the emptied queue (09 R169). -/
theorem test_restart :
    let t := after (.restart sup) (held drivenRecord)
    (t.loader 0).halt.map (·.first) = some .restart ∧
      bodies t .supervisor = [.reply .restart (.ok (.restart 0 1 0 0))] ∧
      t.watch = WatchTable.blank := by decide +kernel

theorem test_withdraw :
    let t := after (.withdraw sup 1 0 0) (held drivenRecord)
    (t.loader 0).halt.map (·.first) = some .withdrawn ∧
      (bodies t .supervisor).head? = some (.reply .withdraw (.ok (.count 1))) := by decide +kernel

theorem test_park_isolate_restore :
    ((after (.park sup 0) (withLoader haltedRecord)).loader 0).state = .parked ∧
    ((after (.isolate sup 0) (held drivenRecord)).loader 0).state = .isolated ∧
    ((after (.restore sup 0) (withLoader { parked with state := .isolated })).loader 0).state =
      .parked := by decide +kernel

/-- The last holder takes it into another slot; another chair is refused LOADER_STATE (03 R56). -/
theorem test_reclaim :
    ((after (.reclaim (chair 0) 0 1 0) (withLoader haltedRecord)).loader 0).epoch = 2 ∧
    bodies (after (.reclaim (chair 1) 0 1 0) (withLoader haltedRecord)) (.chair 1) =
      [.reply .reclaim (.refused .loaderState)] := by decide +kernel

theorem test_phase_timers :
    ((after (.answerTimerExpiry 0)
      (flight drivenRecord (transaction .offer .offered none .manual))).loader 0).state = .driven ∧
    ((after (.settleTimerExpiry 0)
      (flight drivenRecord (transaction .offer .settling (some 1) .manual))).handover 0) = none ∧
    ((after (.watchdogExpiry 0)
      (flight supervisedRecord
        (transaction .request .requested (some 1) .manual))).loader 0).state = .supervised := by
  decide +kernel

/-- RESET: the assertion empties, the release gives the power-on values (08 R161). -/
theorem test_reset :
    (after .resetAssertion (held drivenRecord)).inReset = true ∧
    after .resetRelease (after .resetAssertion (held drivenRecord)) = State.reset ∧
    after .powerOn (held drivenRecord) = State.reset ∧
    (after .secondsCounterTick { base with seconds := 0xFFFFFFFF }).seconds = 0 := by decide +kernel

end Sys2Proof.Tests
end

section
/-! PROOF. The speed envelope (05 5-3): when each of its terms applies, in the words of R100 to R106,
and the bound that the zone's cap gives it. -/

namespace Sys2Proof.Machine

/-! ## When each term applies -/

theorem travelUp_iff (v : Int) (front : FrontSense) :
    travelUp v front = true ↔
      (0 < v ∧ front = .towardFarEnd) ∨ (v < 0 ∧ front = .towardEntrance) := by
  cases front <;> simp [travelUp]

theorem travelDown_iff (v : Int) (front : FrontSense) :
    travelDown v front = true ↔
      (v < 0 ∧ front = .towardFarEnd) ∨ (0 < v ∧ front = .towardEntrance) := by
  cases front <;> simp [travelDown]

/-- A zone with a permissible position has at least one open segment. -/
theorem Zone.openLength_pos {z : Zone} {p : Position} (law : p.law)
    (inside : z.holdsSegment p = true) : 1 ≤ z.openLength := by
  unfold Position.law at law
  cases side : z.measuredFrom <;> simp [Zone.holdsSegment, side] at inside <;> omega

/-- Only a zone open over its whole length has no brow, where it holds a permissible position
(05 R101). -/
theorem Zone.approaches_iff {z : Zone} {p : Position} (v : Int) (law : p.law)
    (inside : z.holdsSegment p = true) (whole : z.openLength ≤ 128) :
    z.approaches v p.front = true ↔ z.openLength ≠ 128 ∧
      ((z.measuredFrom = .entrance ∧ travelUp v p.front = true) ∨
        (z.measuredFrom = .farEnd ∧ travelDown v p.front = true)) := by
  have nonempty := Zone.openLength_pos law inside
  have brow : z.openLength ≤ 127 ↔ z.openLength ≠ 128 := by omega
  cases side : z.measuredFrom <;> simp [Zone.approaches, side, nonempty, brow]

/-- The distance is what the chainage lacks of the limit of an Entrance-measured zone, or has beyond
that of a FarEnd-measured one (05 R101). -/
theorem Zone.distance_eq {z : Zone} {chainage d : Nat}
    (entrance : z.measuredFrom = .entrance → d + chainage = 40 * z.openLength)
    (farEnd : z.measuredFrom = .farEnd → d + (5120 - 40 * z.openLength) = chainage) :
    z.distance chainage = d := by
  cases side : z.measuredFrom with
  | entrance =>
    have := entrance side
    simp only [Zone.distance, Zone.limit, side]; omega
  | farEnd =>
    have := farEnd side
    simp only [Zone.distance, Zone.limit, side, Config.zoneLength]; omega

/-- Half the threshold rounded up is reached exactly when twice the count reaches the threshold
(05 R104). -/
theorem derateCount_le_iff (threshold errors : Nat) :
    derateCount threshold ≤ errors ↔ threshold ≤ 2 * errors := by
  unfold derateCount; omega

section

variable (s : State)

theorem State.creeps_iff (l : LoaderId) (p : Position) :
    s.creeps l p = true ↔ s.params.staleLimit < (s.loader l).age ∨
      (s.loader l).source = .fixed ∨ s.barriers[levelOf p.zone] = true := by
  simp [State.creeps, or_assoc]

theorem State.forcedStill_iff (l : LoaderId) :
    s.forcedStill l = true ↔
      ∃ x ∈ s.handoverOf l, x.phase = .settling ∧ x.suspended = false := by
  simp [State.forcedStill, Option.any_eq_true]

/-! ## The terms together -/

/-- The envelope of a loader with a recorded position, its halving written as a division. -/
theorem State.envelope_of_position {c : ChairId} {l : LoaderId} {v : Int} {p : Position}
    (located : (s.loader l).position = some p) :
    s.envelope c l v =
      if s.forcedStill l = true then 0
      else (if s.creeps l p = true then
          min (browEnvelope (s.zone p.zone) s.params p v) s.params.creep
        else browEnvelope (s.zone p.zone) s.params p v) /
        (if s.params.linkError ≤ 2 * (s.link c).errors then 2 else 1) := by
  simp only [State.envelope, located, derateCount_le_iff]
  by_cases derated : s.params.linkError ≤ 2 * (s.link c).errors <;> simp [derated]

theorem browEnvelope_le_cap (z : Zone) (ps : Params) (p : Position) (v : Int) :
    browEnvelope z ps p v ≤ z.cap := by
  unfold browEnvelope
  split
  · exact Nat.min_le_left _ _
  · exact Nat.le_refl _

/-- Every term after the zone's cap only lowers the envelope. -/
theorem State.envelope_le_cap {c : ChairId} {l : LoaderId} {v : Int} {p : Position}
    (located : (s.loader l).position = some p) : s.envelope c l v ≤ (s.zone p.zone).cap := by
  have brow := browEnvelope_le_cap (s.zone p.zone) s.params p v
  rw [s.envelope_of_position located]
  split
  · exact Nat.zero_le _
  · refine (Nat.div_le_self _ _).trans ?_
    split
    · exact (Nat.min_le_left _ _).trans brow
    · exact brow

end

/-- Settles O46: each term's condition is the one that its rule gives, and no term raises the
envelope above the cap. -/
theorem envelopeFollowsItsTerms : Obligations.EnvelopeFollowsItsTerms := by
  unfold Obligations.EnvelopeFollowsItsTerms
  rintro s c l v p z d up down toward creep derate still e
    located rfl law inside whole hup hdown htoward entrance farEnd hcreep hderate hstill rfl
  have ups : travelUp v p.front = up :=
    Bool.eq_iff_iff.2 ((travelUp_iff v p.front).trans hup.symm)
  have downs : travelDown v p.front = down :=
    Bool.eq_iff_iff.2 ((travelDown_iff v p.front).trans hdown.symm)
  have approaching : (s.zone p.zone).approaches v p.front = toward := by
    rw [Bool.eq_iff_iff, Zone.approaches_iff v law inside whole, ups, downs, htoward]
  have creeping : s.creeps l p = creep := Bool.eq_iff_iff.2 ((s.creeps_iff l p).trans hcreep.symm)
  have settling : s.forcedStill l = still :=
    Bool.eq_iff_iff.2 ((s.forcedStill_iff l).trans hstill.symm)
  refine ⟨?_, (s.envelope_le_cap located).trans⟩
  simp only [s.envelope_of_position located, browEnvelope, ramp, approaching, creeping, settling,
    Zone.distance_eq entrance farEnd, hderate]

end Sys2Proof.Machine
end

section
/-! PROOF. A forwarded drive frame (05 5-4, 5-5): what each step of the Drive Gate leaves, from the
checks and the sequence count to the zone flags and the end of drive lapse. -/

namespace Sys2Proof.Machine

/-! ## Entries of the parts that a frame keeps -/

theorem State.sameBut.loader {ps : List Part} {s t : State} (h : s.sameBut ps t) (l : LoaderId)
    (n : Part.loaders ∉ ps := by decide) : t.loader l = s.loader l := by
  rw [State.loader, h.loaders n, State.loader]

theorem State.sameBut.chair {ps : List Part} {s t : State} (h : s.sameBut ps t) (c : ChairId)
    (n : Part.chairs ∉ ps := by decide) : t.chair c = s.chair c := by
  have chairs : t.chairs = s.chairs := h .chairs n
  rw [State.chair, chairs, State.chair]

theorem State.sameBut.zone {ps : List Part} {s t : State} (h : s.sameBut ps t) (z : ZoneId)
    (n : Part.zones ∉ ps := by decide) : t.zone z = s.zone z := by
  have zones : t.zones = s.zones := h .zones n
  rw [State.zone, zones, State.zone]

theorem State.sameBut.fleet {ps : List Part} {s t : State} (h : s.sameBut ps t)
    (n : Part.fleet ∉ ps := by decide) : t.fleet = s.fleet := h .fleet n

/-! ## The numbers of a frame (05 R97, R98, R107, R111) -/

theorem ite_isClamped {α : Type} (e : Nat) (v : Int) (lowered kept : α) :
    (if isClamped e v = true then lowered else kept) = if v.natAbs ≤ e then kept else lowered := by
  by_cases within : v.natAbs ≤ e
  · simp [isClamped, within, Nat.not_lt.2 within]
  · simp [isClamped, within, Nat.not_le.1 within]

theorem clampSpeed_eq (e : Nat) (v : Int) :
    clampSpeed e v = if v.natAbs ≤ e then v else if v < 0 then -(e : Int) else e := by
  simp only [clampSpeed, ← ite_isClamped, isClamped, decide_eq_true_eq]

theorem DriveCounters.forward_eq (x : DriveCounters) (e missing : Nat) (v : Int) :
    x.forward (isClamped e v) missing =
      { x with
        accepted := if v.natAbs ≤ e then min 65535 (x.accepted + 1) else x.accepted
        clamped := if v.natAbs ≤ e then x.clamped else min 65535 (x.clamped + 1)
        gap := min 65535 (x.gap + missing) } := by
  simp only [DriveCounters.forward, ite_isClamped, gain_eq]

/-- A count that differs from the last one and is less than 128 ahead of it is new. -/
theorem sequenceOf_fresh {last : Option Byte} {n : Byte}
    (ahead : ∀ m ∈ last, n ≠ m ∧ (n - m).toNat < 128) :
    sequenceOf last n = .fresh ((last.map fun m => (n - m).toNat - 1).getD 0) := by
  cases last with
  | none => rfl
  | some m =>
    obtain ⟨differs, near⟩ := ahead m rfl
    have nonzero : (n - m).toNat ≠ 0 := by bv_omega
    simp only [sequenceOf, nonzero, near, if_false, if_true, Option.map_some, Option.getD_some]

section

variable (s : State)

/-! ## The zone is told (05 R109, 02 R28, R29) -/

/-- A notice to the supervisor leaves the chairs' queues. -/
theorem State.tellSup_sameBut_supQueue (n : Notice) : s.sameBut [.supQueue] (s.tellSup n) := by
  intro p hp
  cases p
  case supQueue => simp at hp
  all_goals rfl

/-- Setting the attention flag may tell the supervisor, and no chair. -/
theorem State.raiseAttention_sameBut_supQueue (z : ZoneId) (l : LoaderId) :
    s.sameBut [.zones, .supQueue] (s.raiseAttention z l) := by
  have flag := fun f => (s.modZone_sameBut z f).mono (qs := [.zones, .supQueue])
  unfold State.raiseAttention
  split
  · exact .refl _ s
  · dsimp only
    split
    · exact flag _
    · exact (flag _).trans (State.tellSup_sameBut_supQueue _ _).mono

theorem Zone.attention_stays {z : Zone} (flagged : z.attention = true) :
    { z with attention := true } = z := by
  rw [← flagged]

theorem State.raiseAttention_zone (z n : ZoneId) (l : LoaderId) :
    (s.raiseAttention z l).zone n =
      { s.zone n with attention := (s.zone n).attention || z == n } := by
  by_cases same : n = z
  · subst same
    unfold State.raiseAttention
    split
    next flagged => simp [Zone.attention_stays flagged]
    next =>
      dsimp only
      split <;> simp [State.tellSup]
  · have other : (z == n) = false := beq_eq_false_iff_ne.2 (Ne.symm same)
    unfold State.raiseAttention
    split
    next => simp [other]
    next =>
      dsimp only
      split <;> simp [State.tellSup, same, other]

theorem State.markEntered_zone (z n : ZoneId) :
    (s.markEntered z).zone n = { s.zone n with entered := (s.zone n).entered || z == n } := by
  by_cases same : n = z
  · subst same; simp [State.markEntered]
  · have other : (z == n) = false := beq_eq_false_iff_ne.2 (Ne.symm same)
    simp [State.markEntered, same, other]

/-- A DRIVE order with a speed other than 0 marks the zone entered (02 R28). -/
def State.noteEntry (z : ZoneId) (speed : Int) : State :=
  if speed = 0 then s else s.markEntered z

theorem State.noteEntry_sameBut (z : ZoneId) (speed : Int) :
    s.sameBut [.zones] (s.noteEntry z speed) := by
  unfold State.noteEntry
  split
  · exact .refl _ s
  · exact s.markEntered_sameBut z

theorem State.noteEntry_zone (z n : ZoneId) (speed : Int) :
    (s.noteEntry z speed).zone n =
      { s.zone n with entered := (s.zone n).entered || (speed != 0 && z == n) } := by
  unfold State.noteEntry
  split
  next still => simp [still]
  next moving => simp [State.markEntered_zone, bne_iff_ne.2 moving]

theorem State.notifyDrive_of_none {l : LoaderId} (speed : Int)
    (position : (s.loader l).position = none) : s.notifyDrive l speed = s := by
  simp [State.notifyDrive, Loader.zone?, position]

theorem State.notifyDrive_of_some {l : LoaderId} {p : Position} (speed : Int)
    (position : (s.loader l).position = some p) :
    s.notifyDrive l speed =
      if (s.zone p.zone).cls = .openManualFlagged
      then (s.noteEntry p.zone speed).raiseAttention p.zone l
      else s.noteEntry p.zone speed := by
  have cls : ((s.noteEntry p.zone speed).zone p.zone).cls = (s.zone p.zone).cls := by
    rw [State.noteEntry_zone]
  rw [← cls]
  simp only [State.notifyDrive, Loader.zone?, position, Option.map_some]
  rfl

theorem State.notifyDrive_sameBut (l : LoaderId) (speed : Int) :
    s.sameBut [.zones, .supQueue] (s.notifyDrive l speed) := by
  cases position : (s.loader l).position with
  | none => rw [s.notifyDrive_of_none speed position]; exact .refl _ s
  | some p =>
    have entry := (s.noteEntry_sameBut p.zone speed).mono (qs := [.zones, .supQueue])
    rw [s.notifyDrive_of_some speed position]
    split
    · exact entry.trans (State.raiseAttention_sameBut_supQueue _ _ _)
    · exact entry

/-- A DRIVE order marks the zone of its loader alone. -/
theorem State.notifyDrive_zone (l : LoaderId) (speed : Int) (n : ZoneId) :
    (s.notifyDrive l speed).zone n =
      { s.zone n with
        entered := (s.zone n).entered || (speed != 0 && (s.loader l).inZone n)
        attention := (s.zone n).attention ||
          ((s.loader l).inZone n && (s.zone n).cls == .openManualFlagged) } := by
  cases position : (s.loader l).position with
  | none => simp [s.notifyDrive_of_none speed position, Loader.inZone, position]
  | some p =>
    rw [s.notifyDrive_of_some speed position]
    by_cases same : p.zone = n
    · subst same
      split
      next flagged =>
        simp [State.raiseAttention_zone, State.noteEntry_zone, Loader.inZone, position, flagged]
      next plain => simp [State.noteEntry_zone, Loader.inZone, position, plain]
    · have other : (p.zone == n) = false := beq_eq_false_iff_ne.2 same
      split <;>
        simp [State.raiseAttention_zone, State.noteEntry_zone, Loader.inZone, position, other]

/-! ## Drive lapse ends (01 R21) -/

theorem State.endLapse_sameBut (l : LoaderId) :
    s.sameBut [.loaders] ((s.startLapse l).settleRefresh l) :=
  (s.startLapse_sameBut l).trans (State.settleRefresh_sameBut _ l)

theorem State.endLapse_loader_ne {l n : LoaderId} (h : n ≠ l) :
    ((s.startLapse l).settleRefresh l).loader n = s.loader n := by
  rw [State.settleRefresh_loader_ne _ h]
  simp [State.startLapse, State.modLoader, h]

/-- Drive lapse ends and its timer starts afresh; of the rest only the hold refresh timer may
change. -/
theorem State.endLapse_loader (l : LoaderId) :
    ((s.startLapse l).settleRefresh l).loader l =
      { s.loader l with
        lapse := false
        lapseTimer := some ⟨s.params.driveLapse, 0⟩
        holdRefresh := (((s.startLapse l).settleRefresh l).loader l).holdRefresh } := by
  unfold State.settleRefresh
  split <;> simp [State.startLapse, State.modLoader, Timer.start]

/-- A DRIVEN loader out of drive lapse is in no hold condition (01 R19). -/
theorem State.endLapse_holdRefresh (l : LoaderId) (driven : (s.loader l).state = .driven) :
    (((s.startLapse l).settleRefresh l).loader l).holdRefresh = none := by
  have free : (s.startLapse l).holdCondition l = false := by
    simp [State.holdCondition, State.startLapse, State.modLoader, driven]
  simp [State.settleRefresh, free, State.modLoader]

/-! ## The chair and the order line (05 R107, R110, R111) -/

/-- The speed that the gate forwards for a frame. -/
def State.gatedSpeed (c : ChairId) (l : LoaderId) (f : DriveFields) : Int :=
  clampSpeed (s.envelope c l (speedOf f.speed)) (speedOf f.speed)

/-- The gate lowers the speed of a frame. -/
def State.gateClamps (c : ChairId) (l : LoaderId) (f : DriveFields) : Bool :=
  isClamped (s.envelope c l (speedOf f.speed)) (speedOf f.speed)

/-- What a chair's record becomes when a frame for one of its slots is forwarded. -/
def Chair.forwarded (r : Chair) (i : SlotId) (count : Byte) (clamped : Bool) (missing : Nat) :
    Chair :=
  { r with
    slots := r.slots.set i { r.slots[i] with
      lastCount := some count, outcome := if clamped then .clamped else .accepted }
    counters := r.counters.forward clamped missing }

/-- The state once a forwarded frame has been counted and its order built. -/
def State.driveOrdered (c : ChairId) (i : SlotId) (l : LoaderId) (f : DriveFields) (horn : Bool)
    (missing : Nat) : State :=
  (s.modChair c fun r => r.forwarded i f.count (s.gateClamps c l f) missing).order l
    (.drive (s.gatedSpeed c l f) (percentOf f.steer) (percentOf f.boom) (percentOf f.bucket) horn)

theorem State.driveOrdered_sameBut (c : ChairId) (i : SlotId) (l : LoaderId) (f : DriveFields)
    (horn : Bool) (missing : Nat) :
    s.sameBut [.chairs, .fleet] (s.driveOrdered c i l f horn missing) :=
  ((s.modChair_sameBut c _).mono).trans ((State.order_sameBut _ l _).mono)

/-- Forwarding writes the chair's record twice, once for the slot and once for the counters. -/
theorem State.forwardFrame_eq (c : ChairId) (i : SlotId) (l : LoaderId) (f : DriveFields)
    (horn : Bool) (missing : Nat) :
    s.forwardFrame c i l f horn missing =
      (((s.driveOrdered c i l f horn missing).notifyDrive l
        (s.gatedSpeed c l f)).startLapse l).settleRefresh l := by
  have once : ((s.modSlot c i fun slot =>
      { slot with
        lastCount := some f.count
        outcome := if s.gateClamps c l f then DriveOutcome.clamped else .accepted }).modCounters c
        (·.forward (s.gateClamps c l f) missing)) =
      s.modChair c fun r => r.forwarded i f.count (s.gateClamps c l f) missing := by
    simp [State.modCounters, State.modSlot, State.modChair, State.chair, Chair.forwarded]
  rw [State.driveOrdered, ← once]
  rfl

section forwardFrame

variable (c : ChairId) (i : SlotId) (l : LoaderId) (f : DriveFields) (horn : Bool) (missing : Nat)

/-- What follows the order changes neither the chairs nor the order line. -/
theorem State.forwardFrame_afterOrder :
    (s.driveOrdered c i l f horn missing).sameBut [.loaders, .zones, .supQueue]
      (s.forwardFrame c i l f horn missing) := by
  rw [s.forwardFrame_eq]
  exact ((State.notifyDrive_sameBut _ l _).mono).trans ((State.endLapse_sameBut _ l).mono)

theorem State.forwardFrame_sameBut :
    s.sameBut [.loaders, .chairs, .zones, .supQueue, .fleet]
      (s.forwardFrame c i l f horn missing) :=
  ((s.driveOrdered_sameBut c i l f horn missing).mono).trans
    ((s.forwardFrame_afterOrder c i l f horn missing).mono)

theorem State.forwardFrame_fleet :
    (s.forwardFrame c i l f horn missing).fleet =
      s.ordered l (.drive (s.gatedSpeed c l f) (percentOf f.steer) (percentOf f.boom)
        (percentOf f.bucket) horn) := by
  rw [(s.forwardFrame_afterOrder c i l f horn missing).fleet, State.driveOrdered, State.order_fleet]
  rfl

theorem State.forwardFrame_chair :
    (s.forwardFrame c i l f horn missing).chair c =
      (s.chair c).forwarded i f.count (s.gateClamps c l f) missing := by
  rw [(s.forwardFrame_afterOrder c i l f horn missing).chair c, State.driveOrdered,
    (State.order_sameBut _ l _).chair c, State.modChair_chair_self]

theorem State.forwardFrame_chair_ne {d : ChairId} (h : d ≠ c) :
    (s.forwardFrame c i l f horn missing).chair d = s.chair d := by
  rw [(s.forwardFrame_afterOrder c i l f horn missing).chair d, State.driveOrdered,
    (State.order_sameBut _ l _).chair d, State.modChair_chair_ne _ h]

theorem State.forwardFrame_slot :
    (s.forwardFrame c i l f horn missing).slot c i =
      { s.slot c i with
        lastCount := some f.count
        outcome := if s.gateClamps c l f then .clamped else .accepted } := by
  rw [State.slot, s.forwardFrame_chair]
  simp [Chair.forwarded, State.slot]

theorem State.forwardFrame_slot_ne {j : SlotId} (h : j ≠ i) :
    (s.forwardFrame c i l f horn missing).slot c j = s.slot c j := by
  rw [State.slot, s.forwardFrame_chair]
  simp [Chair.forwarded, State.slot, Fin.val_inj, h.symm]

/-- Until drive lapse ends, a forwarded frame leaves every loader record. -/
theorem State.forwardFrame_beforeLapse (n : LoaderId) :
    ((s.driveOrdered c i l f horn missing).notifyDrive l (s.gatedSpeed c l f)).loader n =
      s.loader n := by
  rw [(State.notifyDrive_sameBut _ l _).loader n,
    (s.driveOrdered_sameBut c i l f horn missing).loader n]

theorem State.forwardFrame_loader :
    (s.forwardFrame c i l f horn missing).loader l =
      { s.loader l with
        lapse := false
        lapseTimer := some ⟨s.params.driveLapse, 0⟩
        holdRefresh := ((s.forwardFrame c i l f horn missing).loader l).holdRefresh } := by
  have params : ((s.driveOrdered c i l f horn missing).notifyDrive l
      (s.gatedSpeed c l f)).params = s.params :=
    (((s.driveOrdered_sameBut c i l f horn missing).mono
      (qs := [.chairs, .fleet, .zones, .supQueue])).trans
        ((State.notifyDrive_sameBut _ l _).mono)) .params (by decide)
  rw [s.forwardFrame_eq, State.endLapse_loader, s.forwardFrame_beforeLapse, params]

theorem State.forwardFrame_holdRefresh (driven : (s.loader l).state = .driven) :
    ((s.forwardFrame c i l f horn missing).loader l).holdRefresh = none := by
  rw [s.forwardFrame_eq]
  exact State.endLapse_holdRefresh _ l (by rwa [s.forwardFrame_beforeLapse])

theorem State.forwardFrame_otherLoaders :
    s.otherLoaders l (s.forwardFrame c i l f horn missing) := by
  intro n other
  rw [s.forwardFrame_eq, State.endLapse_loader_ne _ other, s.forwardFrame_beforeLapse]

theorem State.forwardFrame_zone (z : ZoneId) :
    (s.forwardFrame c i l f horn missing).zone z =
      { s.zone z with
        entered := (s.zone z).entered || (s.gatedSpeed c l f != 0 && (s.loader l).inZone z)
        attention := (s.zone z).attention ||
          ((s.loader l).inZone z && (s.zone z).cls == .openManualFlagged) } := by
  have ordered := s.driveOrdered_sameBut c i l f horn missing
  rw [s.forwardFrame_eq, (State.endLapse_sameBut _ l).zone z, State.notifyDrive_zone,
    ordered.zone z, ordered.loader l]

end forwardFrame

/-! ## The frame passes its checks (05 R93 to R97) -/

/-- The two ways in which a loader takes drive orders (01 R20, 05 R95). -/
theorem State.drivable_of {l : LoaderId}
    (takes : (s.loader l).state = .driven ∨
      ((s.loader l).holder.map (·.mode) = some .manual ∧
        ∃ k x, s.inFlight l k x ∧ x.phase ≠ .confirming)) :
    s.drivable l = true := by
  rcases takes with driven | ⟨manual, k, x, ⟨transfer, context, used, _⟩, phase⟩
  · simp [State.drivable, driven]
  · have flight : s.handoverOf l = some x := by simp [State.handoverOf, context, used]
    simp [State.drivable, transfer, Loader.heldMode, manual, flight, phase]

theorem State.examineFrame_ok {c : ChairId} {i : SlotId} {f : DriveFields} {l : LoaderId}
    {horn : Bool} (sound : flagOf f.horn = some horn) (bound : (s.slot c i).contents = .bound l)
    (takes : s.drivable l = true) (epoch : f.epoch = (s.loader l).epoch) :
    s.examineFrame c i f = .ok (l, horn) := by
  simp only [State.examineFrame, sound, meaning, bound, takes, epoch, ensure, if_true]
  rfl

/-- A frame that passes its checks with a new count is forwarded. -/
theorem State.takeDrive_forwards {c : ChairId} {i : SlotId} {f : DriveFields} {l : LoaderId}
    {horn : Bool} (slot : slotOf f.slot = some i) (passes : s.examineFrame c i f = .ok (l, horn))
    (ahead : ∀ n ∈ (s.slot c i).lastCount, f.count ≠ n ∧ (f.count - n).toNat < 128) :
    s.takeDrive c f = s.forwardFrame c i l f horn
      (((s.slot c i).lastCount.map fun n => (f.count - n).toNat - 1).getD 0) := by
  simp only [State.takeDrive, slot, passes, State.sequenceFrame, sequenceOf_fresh ahead]

/-- A drive frame of a chair that is heard is judged in the state `heard`. -/
theorem State.execDriveFrame_of_hears {c : ChairId} {panel : Byte} (tag : Byte) (f : DriveFields)
    (hears : s.hears (.chair c panel)) :
    exec (.driveFrame c panel tag f) s = .next ((s.heard (.chair c panel)).takeDrive c f) := by
  have gate : exec (.driveFrame c panel tag f) s = execDriveFrame c panel tag f s := rfl
  rw [gate, execDriveFrame, s.running_of _ hears.1, s.takeChairFrame_of_hears c panel _ hears]

end

/-- Settles O44: the gate forwards the frame, and each field is what forwarding leaves of it. -/
theorem driveFrameIsClampedAndForwarded : Obligations.DriveFrameIsClampedAndForwarded := by
  unfold Obligations.DriveFrameIsClampedAndForwarded
  rintro s a c panel tag f i l horn v speed e hears heard slot sound bound takes epoch ahead
    rfl rfl rfl
  have passes := a.examineFrame_ok sound bound (a.drivable_of takes) epoch
  have next : exec (.driveFrame c panel tag f) s = .next (a.forwardFrame c i l f horn
      (((a.slot c i).lastCount.map fun n => (f.count - n).toNat - 1).getD 0)) := by
    rw [s.execDriveFrame_of_hears tag f hears, ← heard, a.takeDrive_forwards slot passes ahead]
  refine ⟨_, next, ?fleet, ?slot, ?counters, a.forwardFrame_loader c i l f horn _,
    a.forwardFrame_holdRefresh c i l f horn _, ?zone, a.forwardFrame_otherLoaders c i l f horn _,
    fun _ other => a.forwardFrame_chair_ne c i l f horn _ other,
    fun _ other => a.forwardFrame_slot_ne c i l f horn _ other, ?clearance, ?stop, ?neutral,
    a.forwardFrame_sameBut c i l f horn _⟩
  case fleet => rw [a.forwardFrame_fleet, State.gatedSpeed, clampSpeed_eq]; rfl
  case slot => rw [a.forwardFrame_slot, State.gateClamps, ite_isClamped]; rfl
  case counters => rw [a.forwardFrame_chair]; exact DriveCounters.forward_eq _ _ _ _
  case zone => intro z; rw [a.forwardFrame_zone, State.gatedSpeed, clampSpeed_eq]; rfl
  case clearance | stop | neutral => rw [a.forwardFrame_chair]; rfl

end Sys2Proof.Machine
end

section
/-! PROOF. A forwarded report joins a delivery queue (07 R141, R142): the queued report of its
loader takes its contents in place, and with none queued it goes to the tail while there is room. -/

namespace Sys2Proof.Machine

/-- Frames that are no report of a loader stand as they are when its reports are replaced. -/
theorem map_replaceReport_eq_self {frames : List Frame} {l : LoaderId} (f : Frame)
    (others : ∀ x ∈ frames, x.reportOf ≠ some l) :
    (frames.map fun x => if x.reportOf = some l then f else x) = frames :=
  List.map_congr_left (fun x h => if_neg (others x h)) |>.trans (List.map_id _)

section

variable (q : OutQueue) {f : Frame} {l : LoaderId} (report : f.reportOf = some l)
include report

/-- The case of a queued report comes before any test of the queue's length (07 R142). -/
theorem OutQueue.join_of_queuedReport (queued : ∃ g ∈ q.frames, g.reportOf = some l) :
    q.join f =
      { q with frames := q.frames.map fun g => if g.reportOf = some l then f else g } := by
  have replaces : (f.isReport && q.frames.any (·.reportOf == f.reportOf)) = true := by
    simpa [Frame.isReport, report] using queued
  rw [OutQueue.join, if_pos replaces]
  simp only [report, beq_iff_eq]

/-- With no report of its loader queued, a report joins the tail of a queue with room (07 R141). -/
theorem OutQueue.join_of_noQueuedReport (others : ∀ g ∈ q.frames, g.reportOf ≠ some l)
    (room : q.frames.length < 32) : q.join f = { q with frames := q.frames ++ [f] } := by
  have fresh : (f.isReport && q.frames.any (·.reportOf == f.reportOf)) = false := by
    simpa [Frame.isReport, report] using others
  simp [OutQueue.join, fresh, Config.queueLimit, room]

end

/-- Settles O48: the join replaces every queued report of the loader, and the frames on either side
of the one that waits are none of them. -/
theorem queuedReportIsReplacedInPlace : Obligations.QueuedReportIsReplacedInPlace := by
  unfold Obligations.QueuedReportIsReplacedInPlace
  intro q f l report
  constructor
  · intro before g after frames waits others
    obtain ⟨othersBefore, othersAfter⟩ := List.forall_mem_append.mp others
    have queued : ∃ x ∈ q.frames, x.reportOf = some l := ⟨g, by simp [frames], waits⟩
    have replaced : (q.frames.map fun x => if x.reportOf = some l then f else x) =
        before ++ f :: after := by
      rw [frames, List.map_append, List.map_cons, if_pos waits,
        map_replaceReport_eq_self f othersBefore, map_replaceReport_eq_self f othersAfter]
    rw [q.join_of_queuedReport report queued, replaced]
  · exact q.join_of_noQueuedReport report

end Sys2Proof.Machine
end

section
/-! PROOF. What the operations on a loader, its slots and its handover leave of the entries that they
work on, and which entries they leave alone. -/

namespace Sys2Proof.Machine

-- One theorem after another, so that the compile stays within its memory.
set_option Elab.async false

/-! ## Entries of the parts that a frame keeps -/

section

variable {ps : List Part} {s t : State} (h : s.sameBut ps t)
include h

theorem State.sameBut.handover (k : CtxId) (n : Part.handovers ∉ ps := by decide) :
    t.handover k = s.handover k := by
  have e : t.handovers = s.handovers := h .handovers n
  rw [State.handover, e, State.handover]

theorem State.sameBut.slot (c : ChairId) (i : SlotId) (n : Part.chairs ∉ ps := by decide) :
    t.slot c i = s.slot c i := by
  rw [State.slot, h.chair c n, State.slot]

theorem State.sameBut.link (c : ChairId) (n : Part.links ∉ ps := by decide) :
    t.link c = s.link c := by
  have e : t.links = s.links := h .links n
  rw [State.link, e, State.link]

theorem State.sameBut.closure (k : ClosureId) (n : Part.closures ∉ ps := by decide) :
    t.closure k = s.closure k := by
  have e : t.closures = s.closures := h .closures n
  rw [State.closure, e, State.closure]

theorem State.sameBut.watch (n : Part.watch ∉ ps := by decide) : t.watch = s.watch := h .watch n

theorem State.sameBut.lamps (n : Part.lamps ∉ ps := by decide) : t.lamps = s.lamps := h .lamps n

theorem State.sameBut.params (n : Part.params ∉ ps := by decide) : t.params = s.params :=
  h .params n

theorem State.sameBut.radioMap (n : Part.radioMap ∉ ps := by decide) : t.radioMap = s.radioMap :=
  h .radioMap n

theorem State.sameBut.seconds (n : Part.seconds ∉ ps := by decide) : t.seconds = s.seconds :=
  h .seconds n

theorem State.sameBut.stopAll (n : Part.stopAll ∉ ps := by decide) : t.stopAll = s.stopAll :=
  h .stopAll n

theorem State.sameBut.inReset (n : Part.inReset ∉ ps := by decide) : t.inReset = s.inReset :=
  h .inReset n

theorem State.sameBut.barriers (n : Part.barriers ∉ ps := by decide) : t.barriers = s.barriers :=
  h .barriers n

theorem State.sameBut.supQueue (n : Part.supQueue ∉ ps := by decide) : t.supQueue = s.supQueue :=
  h .supQueue n

theorem State.sameBut.supLink (n : Part.supLink ∉ ps := by decide) : t.supLink = s.supLink :=
  h .supLink n

theorem State.sameBut.queues (n : Part.queues ∉ ps := by decide) : t.queues = s.queues :=
  h .queues n

theorem State.sameBut.handoverOf (l : LoaderId) (n : Part.loaders ∉ ps := by decide)
    (n' : Part.handovers ∉ ps := by decide) : t.handoverOf l = s.handoverOf l := by
  have e : t.handover = s.handover := funext fun k => h.handover k n'
  rw [State.handoverOf, h.loader l n, e, State.handoverOf]

end

variable (s : State)

/-! ## Orders, hold refresh and drive lapse (01 R19 to R21) -/

theorem State.holdCondition_congr {s t : State} {l : LoaderId} (r : t.loader l = s.loader l)
    (x : t.handover = s.handover) : t.holdCondition l = s.holdCondition l := by
  simp only [State.holdCondition, State.handoverOf, r, x]

/-- Out of TRANSFER the hold condition is the record's own (01 R19). -/
theorem State.holdCondition_of_ne_transfer {l : LoaderId} (h : (s.loader l).state ≠ .transfer) :
    s.holdCondition l = ((s.loader l).state == .parked || (s.loader l).state == .halted ||
      (s.loader l).state == .isolated || (s.loader l).lapse) := by
  unfold State.holdCondition
  cases e : (s.loader l).state <;> simp_all

theorem State.emitHold_fleet (l : LoaderId) : (s.emitHold l).fleet = s.ordered l .hold := by
  unfold State.emitHold
  dsimp only
  split
  · exact State.order_fleet ..
  · exact State.order_fleet ..

theorem State.order_handover (l : LoaderId) (b : OrderBody) : (s.order l b).handover = s.handover :=
  funext fun k => (s.order_sameBut l b).handover k

/-- A HOLD restarts the refresh timer where a hold condition holds. -/
theorem State.emitHold_loader (l : LoaderId) :
    (s.emitHold l).loader l = { s.loader l with
      holdRefresh := if s.holdCondition l then some ⟨500, 0⟩ else (s.loader l).holdRefresh } := by
  have e : (s.order l .hold).holdCondition l = s.holdCondition l :=
    State.holdCondition_congr (s.order_loader l l .hold) (s.order_handover l .hold)
  unfold State.emitHold
  dsimp only
  rw [e]
  split <;> simp [State.modLoader, Timer.start, Config.holdRefreshMs]

theorem State.settleRefresh_loader (l : LoaderId) :
    (s.settleRefresh l).loader l = { s.loader l with
      holdRefresh := if s.holdCondition l then (s.loader l).holdRefresh else none } := by
  unfold State.settleRefresh
  split <;> simp [State.modLoader]

@[simp] theorem State.modLoader_loader_self (l : LoaderId) (f : Loader → Loader) :
    (s.modLoader l f).loader l = f (s.loader l) := by simp [State.modLoader]

@[simp] theorem State.modLoader_loader_ne {l n : LoaderId} (h : n ≠ l) (f : Loader → Loader) :
    (s.modLoader l f).loader n = s.loader n := by simp [State.modLoader, h]

@[simp] theorem State.modLoader_handover (l : LoaderId) (f : Loader → Loader) (k : CtxId) :
    (s.modLoader l f).handover k = s.handover k := rfl

@[simp] theorem State.modLoader_params (l : LoaderId) (f : Loader → Loader) :
    (s.modLoader l f).params = s.params := rfl

@[simp] theorem State.modLoader_slot (l : LoaderId) (f : Loader → Loader) (c : ChairId)
    (i : SlotId) : (s.modLoader l f).slot c i = s.slot c i := rfl

theorem State.stopLapse_loader (l : LoaderId) :
    (s.stopLapse l).loader l = { s.loader l with lapse := false, lapseTimer := none } := by
  simp [State.stopLapse]

theorem State.startLapse_loader (l : LoaderId) :
    (s.startLapse l).loader l =
      { s.loader l with lapse := false, lapseTimer := some ⟨s.params.driveLapse, 0⟩ } := by
  simp [State.startLapse, Timer.start]

theorem State.stopLapse_loader_ne {l n : LoaderId} (h : n ≠ l) :
    (s.stopLapse l).loader n = s.loader n := by simp [State.stopLapse, h]

theorem State.startLapse_loader_ne {l n : LoaderId} (h : n ≠ l) :
    (s.startLapse l).loader n = s.loader n := by simp [State.startLapse, h]

/-! ## Slots -/

/-- The record's holder holds it at a slot. -/
def Loader.heldAt (r : Loader) (c : ChairId) (i : SlotId) : Bool :=
  r.holder.any fun y => y.chair == c && y.slot == i

theorem Loader.heldAt_iff (r : Loader) (c : ChairId) (i : SlotId) :
    r.heldAt c i = true ↔ ∃ y ∈ r.holder, y.chair = c ∧ y.slot = i := by
  simp [Loader.heldAt, Option.any_eq_true]

/-- Changing a slot changes no other. -/
theorem State.modSlot_slot (c d : ChairId) (i j : SlotId) (f : Slot → Slot) :
    (s.modSlot c i f).slot d j = if d = c ∧ j = i then f (s.slot d j) else s.slot d j := by
  by_cases chair : d = c
  · subst chair
    by_cases slot : j = i
    · subst slot; simp
    · simp [State.modSlot, State.slot, slot, Fin.val_inj, Ne.symm slot]
  · simp [State.modSlot, State.slot, chair]

theorem State.fillSlot_slot (c d : ChairId) (i j : SlotId) (x : SlotContents) :
    (s.fillSlot c i x).slot d j =
      { s.slot d j with contents := if d = c ∧ j = i then x else (s.slot d j).contents } := by
  rw [State.fillSlot, State.modSlot_slot]
  split <;> rfl

/-- What a change of slots leaves of a chair's record. -/
theorem State.modSlot_chair (c d : ChairId) (i : SlotId) (f : Slot → Slot) :
    (s.modSlot c i f).chair d =
      { s.chair d with slots := ((s.modSlot c i f).chair d).slots } := by
  by_cases chair : d = c
  · subst chair; simp [State.modSlot]
  · simp [State.modSlot, chair]

/-! ## The holder's hands are emptied (06 R117) -/

theorem State.vacate_slot (l : LoaderId) (c : ChairId) (i : SlotId) :
    (s.vacate l).slot c i =
      { s.slot c i with
        contents := if (s.loader l).heldAt c i then .empty else (s.slot c i).contents } := by
  unfold State.vacate
  cases holder : (s.loader l).holder with
  | none => simp [Loader.heldAt, holder]
  | some y =>
    have e : ((s.fillSlot y.chair y.slot .empty).unlockPair y.chair l).slot c i =
      (s.fillSlot y.chair y.slot .empty).slot c i := (State.unlockPair_sameBut _ _ _).slot c i
    simp only [e, State.fillSlot_slot, Loader.heldAt, holder, Option.any_some, Bool.and_eq_true,
      beq_iff_eq, eq_comm (a := c), eq_comm (a := i)]

/-- The Watch Table once the pair of a loader and its holder has been unlocked. -/
def WatchTable.unlockHolder (w : WatchTable) (l : LoaderId) (holder : Option Holding) :
    WatchTable :=
  match holder with
  | some y => w.unlock y.chair l
  | none => w

theorem State.vacate_watch (l : LoaderId) :
    (s.vacate l).watch = s.watch.unlockHolder l (s.loader l).holder := by
  unfold State.vacate WatchTable.unlockHolder
  cases (s.loader l).holder <;> rfl

/-! ## Entry to HALTED (06 R117) -/

/-- The halt record that an entry to HALTED writes (06 R118, 04 R89). -/
def Loader.haltRecord (r : Loader) (cause : Cause) (held : Option HaltRecord) (seconds : Word32) :
    HaltRecord :=
  match held with
  | some h => h.addCause cause
  | none => ⟨cause, r.place, r.holderChair, seconds, cause, 0, false⟩

/-- What follows the record's entry to HALTED changes the lamps, the queues, the order line and the
refresh timer alone. -/
theorem State.enterHaltedWith_eq (l : LoaderId) (cause : Cause) (held : Option HaltRecord) :
    s.enterHaltedWith l cause held =
      ((((s.vacate l).modLoader l
        (·.halted ((s.loader l).haltRecord cause held s.seconds))).emitHold l).tellHalted l
          ((s.loader l).holder.map (·.slot)) cause).updateLamps := by
  cases held <;> rfl

theorem State.enterHaltedWith_loader (l : LoaderId) (cause : Cause) (held : Option HaltRecord) :
    (s.enterHaltedWith l cause held).loader l =
      { (s.loader l).halted ((s.loader l).haltRecord cause held s.seconds) with
        holdRefresh := some ⟨500, 0⟩ } := by
  rw [s.enterHaltedWith_eq, State.updateLamps_loader, State.tellHalted_loader,
    State.emitHold_loader_halted]
  · simp
  · simp [Loader.halted]

theorem State.enterHaltedWith_loader_ne {l n : LoaderId} (h : n ≠ l) (cause : Cause)
    (held : Option HaltRecord) : (s.enterHaltedWith l cause held).loader n = s.loader n := by
  rw [s.enterHaltedWith_eq, State.updateLamps_loader, State.tellHalted_loader,
    State.emitHold_loader_ne _ h, State.modLoader_loader_ne _ h, State.vacate_loader]

/-- What follows the emptied hands, of the slots and the Watch Table. -/
theorem State.enterHaltedWith_afterVacate (l : LoaderId) (cause : Cause)
    (held : Option HaltRecord) :
    (s.vacate l).sameBut [.loaders, .fleet, .queues, .supQueue, .lamps]
      (s.enterHaltedWith l cause held) := by
  rw [s.enterHaltedWith_eq]
  exact ((((State.modLoader_sameBut _ _ _).mono).trans
    ((State.emitHold_sameBut _ _).mono)).trans
    ((State.tellHalted_sameBut _ _ _ _).mono)).trans
    ((State.updateLamps_sameBut _).mono)

theorem State.enterHaltedWith_slot (l : LoaderId) (cause : Cause) (held : Option HaltRecord)
    (c : ChairId) (i : SlotId) :
    (s.enterHaltedWith l cause held).slot c i =
      { s.slot c i with
        contents := if (s.loader l).heldAt c i then .empty else (s.slot c i).contents } := by
  rw [(s.enterHaltedWith_afterVacate l cause held).slot c i, s.vacate_slot]

theorem State.enterHaltedWith_watch (l : LoaderId) (cause : Cause) (held : Option HaltRecord) :
    (s.enterHaltedWith l cause held).watch = s.watch.unlockHolder l (s.loader l).holder := by
  rw [(s.enterHaltedWith_afterVacate l cause held).watch, s.vacate_watch]

theorem State.enterHaltedWith_fleet (l : LoaderId) (cause : Cause) (held : Option HaltRecord) :
    (s.enterHaltedWith l cause held).fleet = s.ordered l .hold := by
  rw [s.enterHaltedWith_eq, (State.updateLamps_sameBut _).fleet,
    (State.tellHalted_sameBut _ _ _ _).fleet, State.emitHold_fleet]
  have frame := ((s.vacate_sameBut l).mono (qs := [.chairs, .watch, .loaders])).trans
    ((State.modLoader_sameBut _ l
      (·.halted ((s.loader l).haltRecord cause held s.seconds))).mono)
  rw [State.ordered, frame.radioMap, frame.fleet, State.ordered]

/-- Lamps that show what authority and position ask (02 R40). -/
def State.lampsShown (s : State) : Prop := s.lamps = Vector.ofFn s.lampDue

theorem State.updateLamps_shown : s.updateLamps.lampsShown := rfl

theorem State.enterHaltedWith_shown (l : LoaderId) (cause : Cause) (held : Option HaltRecord) :
    (s.enterHaltedWith l cause held).lampsShown := by
  rw [s.enterHaltedWith_eq]; exact State.updateLamps_shown _

end Sys2Proof.Machine
end

section
/-! PROOF. What an abort leaves of the record, the context, the slots and the Watch Table (04 R87 to
R89). -/

namespace Sys2Proof.Machine

-- One theorem after another, so that the compile stays within its memory.
set_option Elab.async false

variable (s : State)

/-! ## The record that leaves TRANSFER (04 R88, R89) -/

/-- The record of a loader that an abort has sent back to its prior state; `lapse` is the drive lapse
setting. -/
def Loader.reverted (r : Loader) (prior : LoaderState) (h : Handover) (lapse : Nat) : Loader :=
  match prior with
  | .driven =>
    { r.left .driven with
      lapse := r.lapse && h.phase != .confirming
      lapseTimer := if h.phase = .confirming then some ⟨lapse, 0⟩ else r.lapseTimer
      holdRefresh := if r.lapse = true ∧ h.phase ≠ .confirming then r.holdRefresh else none }
  | .parked =>
    { r.left .parked with lapse := false, lapseTimer := none, holdRefresh := some ⟨500, 0⟩ }
  | .halted =>
    { r.left .halted with
      halt := h.held, lapse := false, lapseTimer := none, holdRefresh := some ⟨500, 0⟩ }
  | p =>
    { r.left p with
      lapse := false, lapseTimer := none
      holdRefresh := if p = .isolated then r.holdRefresh else none }

/-- The record of a loader that has become ORPHANED. -/
def Loader.orphaned (r : Loader) (grace : Nat) : Loader :=
  { r.left .orphaned with
    grace := some ⟨grace, 0⟩, lapse := false, lapseTimer := none, holdRefresh := none }

theorem State.revertToDriven_eq (l : LoaderId) (phase : Phase) :
    s.revertToDriven l phase =
      (if phase = .confirming then
        match (s.loader l).holder with
        | some x => ((s.modLoader l (·.left .driven)).startLapse l).modSlot x.chair x.slot
            fun slot => { slot with lastCount := none }
        | none => (s.modLoader l (·.left .driven)).startLapse l
      else s.modLoader l (·.left .driven)).settleRefresh l := by
  have e : (((s.modLoader l (·.left .driven)).startLapse l).loader l).holder =
    (s.loader l).holder := by rw [State.startLapse_loader]; simp [Loader.left]
  cases holder : (s.loader l).holder with
  | none => rw [holder] at e; simp only [State.revertToDriven, e]
  | some x => rw [holder] at e; simp only [State.revertToDriven, e]

theorem State.revertToDriven_loader (l : LoaderId) (phase : Phase) :
    (s.revertToDriven l phase).loader l =
      { (s.loader l).left .driven with
        lapse := (s.loader l).lapse && phase != .confirming
        lapseTimer := if phase = .confirming then some ⟨s.params.driveLapse, 0⟩
          else (s.loader l).lapseTimer
        holdRefresh := if (s.loader l).lapse = true ∧ phase ≠ .confirming
          then (s.loader l).holdRefresh else none } := by
  have slots : ∀ (t : State) c i f, (t.modSlot c i f).loader l = t.loader l := fun _ _ _ _ => rfl
  rw [s.revertToDriven_eq, State.settleRefresh_loader]
  by_cases confirming : phase = .confirming
  · cases holder : (s.loader l).holder <;>
      simp [confirming, slots, State.startLapse_loader, Loader.left,
        State.holdCondition_of_ne_transfer]
  · cases lapse : (s.loader l).lapse <;>
      simp [confirming, Loader.left, State.holdCondition_of_ne_transfer, lapse]

theorem State.revertToDriven_loader_ne {l n : LoaderId} (h : n ≠ l) (phase : Phase) :
    (s.revertToDriven l phase).loader n = s.loader n := by
  have slots : ∀ (t : State) c i f, (t.modSlot c i f).loader n = t.loader n := fun _ _ _ _ => rfl
  rw [s.revertToDriven_eq, State.settleRefresh_loader_ne _ h]
  split
  · cases holder : (s.loader l).holder <;> simp [slots, State.startLapse_loader_ne, h]
  · simp [h]

/-- From CONFIRMING the count of the holder's slot is gone (05 R113). -/
theorem State.revertToDriven_slot (l : LoaderId) (phase : Phase) (c : ChairId) (i : SlotId) :
    (s.revertToDriven l phase).slot c i =
      { s.slot c i with
        lastCount := if phase = .confirming ∧ (s.loader l).heldAt c i = true then none
          else (s.slot c i).lastCount } := by
  have start : ((s.modLoader l (·.left .driven)).startLapse l).slot c i = s.slot c i := rfl
  rw [s.revertToDriven_eq, (State.settleRefresh_sameBut _ _).slot c i]
  by_cases confirming : phase = .confirming
  · cases holder : (s.loader l).holder with
    | none => simp [confirming, Loader.heldAt, holder, start]
    | some y =>
      simp only [confirming, if_true, State.modSlot_slot, start, Loader.heldAt, holder,
        Option.any_some, Bool.and_eq_true, beq_iff_eq, true_and, eq_comm (a := c), eq_comm (a := i)]
      split <;> rfl
  · simp [confirming]

theorem State.revertToDriven_chair (l : LoaderId) (phase : Phase) (c : ChairId) :
    (s.revertToDriven l phase).chair c =
      { s.chair c with slots := ((s.revertToDriven l phase).chair c).slots } := by
  rw [s.revertToDriven_eq, (State.settleRefresh_sameBut _ _).chair c]
  split
  · split
    · rw [State.modSlot_chair]; rfl
    · rfl
  · rfl

theorem State.revertTo_loader (l : LoaderId) (prior : LoaderState) (h : Handover) :
    (s.revertTo l prior h).loader l = (s.loader l).reverted prior h s.params.driveLapse := by
  cases prior <;>
    simp [State.revertTo, Loader.reverted, State.revertToDriven_loader, State.emitHold_loader,
      State.settleRefresh_loader, State.stopLapse_loader, State.holdCondition, Loader.left,
      State.handoverOf]

theorem State.revertTo_loader_ne {l n : LoaderId} (ne : n ≠ l) (prior : LoaderState)
    (h : Handover) : (s.revertTo l prior h).loader n = s.loader n := by
  cases prior <;>
    simp [State.revertTo, State.revertToDriven_loader_ne, State.emitHold_loader_ne,
      State.settleRefresh_loader_ne, State.stopLapse_loader_ne, ne]

/-- A return to a state other than DRIVEN leaves the chairs. -/
theorem State.revertTo_sameBut_of_ne_driven (l : LoaderId) {prior : LoaderState} (h : Handover)
    (ne : prior ≠ .driven) : s.sameBut [.loaders, .fleet] (s.revertTo l prior h) := by
  have stop := fun f => ((s.modLoader_sameBut l f).trans (State.stopLapse_sameBut _ l)).mono
    (qs := [.loaders, .fleet])
  unfold State.revertTo
  split
  · exact absurd rfl ne
  · exact (stop _).trans (State.emitHold_sameBut _ _)
  · exact (stop _).trans (State.emitHold_sameBut _ _)
  · exact (stop _).trans (State.settleRefresh_sameBut _ _).mono

theorem State.orphan_loader (l : LoaderId) :
    (s.orphan l).loader l = (s.loader l).orphaned (1000 * s.params.orphanGrace) := by
  simp [State.orphan, State.settleRefresh_loader, State.stopLapse_loader, Loader.orphaned,
    Loader.left, State.holdCondition, Timer.start, Params.orphanGraceMs, Machine.seconds]

theorem State.orphan_loader_ne {l n : LoaderId} (h : n ≠ l) :
    (s.orphan l).loader n = s.loader n := by
  simp [State.orphan, State.settleRefresh_loader_ne, State.stopLapse_loader_ne, h]

/-- The record that leaves TRANSFER as the fate says; a halt changes it later. -/
def Fate.leave (f : Fate) (r : Loader) (prior : LoaderState) (h : Handover) (ps : Params) : Loader :=
  match f with
  | .revert => r.reverted prior h ps.driveLapse
  | .orphan => r.orphaned (1000 * ps.orphanGrace)
  | .halt _ => r

theorem State.leaveTransfer_loader (l : LoaderId) (f : Fate) (prior : LoaderState) (h : Handover) :
    (s.leaveTransfer l f prior h).loader l = f.leave (s.loader l) prior h s.params := by
  cases f
  · exact s.revertTo_loader l prior h
  · exact s.orphan_loader l
  · rfl

theorem State.leaveTransfer_loader_ne {l n : LoaderId} (ne : n ≠ l) (f : Fate)
    (prior : LoaderState) (h : Handover) :
    (s.leaveTransfer l f prior h).loader n = s.loader n := by
  cases f
  · exact s.revertTo_loader_ne ne prior h
  · exact s.orphan_loader_ne ne
  · rfl

/-- The abort resets the count of the holder's slot: a return from CONFIRMING to DRIVEN. -/
def Fate.resetsCount (f : Fate) (prior : LoaderState) (phase : Phase) : Bool :=
  f == .revert && prior == .driven && phase == .confirming

theorem State.leaveTransfer_slot (l : LoaderId) (f : Fate) (prior : LoaderState) (h : Handover)
    (c : ChairId) (i : SlotId) :
    (s.leaveTransfer l f prior h).slot c i =
      { s.slot c i with
        lastCount := if f.resetsCount prior h.phase = true ∧ (s.loader l).heldAt c i = true
          then none else (s.slot c i).lastCount } := by
  cases f with
  | revert =>
    by_cases driven : prior = .driven
    · subst driven
      simpa [Fate.resetsCount, State.leaveTransfer, State.revertTo] using s.revertToDriven_slot l h.phase c i
    · simpa [Fate.resetsCount, State.leaveTransfer, driven] using
        (s.revertTo_sameBut_of_ne_driven l h driven).slot c i
  | orphan =>
    simpa [Fate.resetsCount, State.leaveTransfer] using (s.orphan_sameBut l).slot c i
  | halt => simp [Fate.resetsCount, State.leaveTransfer]

theorem State.leaveTransfer_chair (l : LoaderId) (f : Fate) (prior : LoaderState) (h : Handover)
    (c : ChairId) :
    (s.leaveTransfer l f prior h).chair c =
      { s.chair c with slots := ((s.leaveTransfer l f prior h).chair c).slots } := by
  cases f with
  | revert =>
    by_cases driven : prior = .driven
    · subst driven; exact s.revertToDriven_chair l h.phase c
    · rw [State.leaveTransfer, (s.revertTo_sameBut_of_ne_driven l h driven).chair c]
  | orphan => rw [State.leaveTransfer, (s.orphan_sameBut l).chair c]
  | halt => rfl

theorem State.leaveTransfer_watch (l : LoaderId) (f : Fate) (prior : LoaderState) (h : Handover) :
    (s.leaveTransfer l f prior h).watch = s.watch :=
  (s.leaveTransfer_sameBut l f prior h).watch

/-! ## The reservation is dropped (04 R88) -/

/-- The handover has reserved a slot of its taking chair. -/
def Handover.reserves (h : Handover) (c : ChairId) (i : SlotId) : Bool :=
  h.taking == c && h.slot == some i

theorem Handover.reserves_iff (h : Handover) (c : ChairId) (i : SlotId) :
    h.reserves c i = true ↔ h.taking = c ∧ h.slot = some i := by
  simp [Handover.reserves]

theorem State.dropReservation_slot (h : Handover) (c : ChairId) (i : SlotId) :
    (s.dropReservation h).slot c i =
      { s.slot c i with
        contents := if h.reserves c i then .empty else (s.slot c i).contents } := by
  unfold State.dropReservation
  dsimp only
  rw [(State.unlockPair_sameBut _ _ _).slot c i]
  cases slot : h.slot with
  | none => simp [Handover.reserves, slot]
  | some j =>
    simp only [State.fillSlot_slot, Handover.reserves, slot, Bool.and_eq_true, beq_iff_eq,
      Option.some.injEq, eq_comm (a := c), eq_comm (a := i)]

theorem State.dropReservation_chair (h : Handover) (c : ChairId) :
    (s.dropReservation h).chair c =
      { s.chair c with slots := ((s.dropReservation h).chair c).slots } := by
  unfold State.dropReservation
  dsimp only
  rw [(State.unlockPair_sameBut _ _ _).chair c]
  split
  · exact State.modSlot_chair _ _ _ _ _
  · rfl

theorem State.dropReservation_watch (h : Handover) :
    (s.dropReservation h).watch = s.watch.unlock h.taking h.loader := by
  unfold State.dropReservation
  cases h.slot <;> rfl

/-! ## An abort (04 R88) -/

/-- The prior state that an abort reads from the record. -/
def State.priorOf (s : State) (l : LoaderId) : LoaderState := (s.loader l).prior.getD .parked

/-- The abort until its halt: the reservation is dropped, the record has left TRANSFER, the notices
have been sent, and the context is free. -/
def State.abortBegun (s : State) (k : CtxId) (h : Handover) (e : AbortEvent) : State :=
  let l := h.loader
  let n := Notice.handoverEnded k l h.kind (some e.cause)
    ((s.fateOf h e).stateAfter (s.priorOf l)) h.taking h.slot h.target 0
  (((((s.dropReservation h).leaveTransfer l (s.fateOf h e) (s.priorOf l) h).tellParties h n).tellSup
    n).setHandover k none)

theorem State.abort_eq {k : CtxId} {h : Handover} (used : s.handover k = some h) (e : AbortEvent) :
    s.abort k e =
      match s.fateOf h e with
      | .halt cause => (s.abortBegun k h e).enterHaltedWith h.loader cause
          (h.restored (s.priorOf h.loader))
      | _ => (s.abortBegun k h e).updateLamps := by
  simp only [State.abort, used]
  rfl

theorem State.abort_of_free {k : CtxId} (free : s.handover k = none) (e : AbortEvent) :
    s.abort k e = s := by simp [State.abort, free]

/-- Of the parts that aborts change, the notices and the freed context change none of these. -/
theorem State.abortBegun_afterLeave (k : CtxId) (h : Handover) (e : AbortEvent) :
    ((s.dropReservation h).leaveTransfer h.loader (s.fateOf h e) (s.priorOf h.loader) h).sameBut
      [.queues, .supQueue, .handovers] (s.abortBegun k h e) :=
  (((State.tellParties_sameBut _ _ _).mono).trans ((State.tellSup_sameBut _ _).mono)).trans
    ((State.setHandover_sameBut _ _ _).mono)

theorem State.abortBegun_sameBut (k : CtxId) (h : Handover) (e : AbortEvent) :
    s.sameBut [.loaders, .handovers, .chairs, .watch, .queues, .supQueue, .fleet]
      (s.abortBegun k h e) :=
  (((s.dropReservation_sameBut h).mono).trans ((State.leaveTransfer_sameBut _ _ _ _ _).mono)).trans
    ((s.abortBegun_afterLeave k h e).mono)

theorem State.abortBegun_loader (k : CtxId) (h : Handover) (e : AbortEvent) :
    (s.abortBegun k h e).loader h.loader =
      (s.fateOf h e).leave (s.loader h.loader) (s.priorOf h.loader) h s.params := by
  rw [(s.abortBegun_afterLeave k h e).loader, State.leaveTransfer_loader,
    (s.dropReservation_sameBut h).loader, (s.dropReservation_sameBut h).params]

theorem State.abortBegun_loader_ne (k : CtxId) (h : Handover) (e : AbortEvent) {n : LoaderId}
    (ne : n ≠ h.loader) : (s.abortBegun k h e).loader n = s.loader n := by
  rw [(s.abortBegun_afterLeave k h e).loader, State.leaveTransfer_loader_ne _ ne,
    (s.dropReservation_sameBut h).loader]

theorem State.abortBegun_handover (k n : CtxId) (h : Handover) (e : AbortEvent) :
    (s.abortBegun k h e).handover n = if n = k then none else s.handover n := by
  have frame := (((s.dropReservation_sameBut h).mono
    (qs := [.chairs, .watch, .loaders, .fleet, .queues, .supQueue])).trans
    ((State.leaveTransfer_sameBut _ h.loader (s.fateOf h e) (s.priorOf h.loader) h).mono)).trans
    (((State.tellParties_sameBut _ h (.handoverEnded k h.loader h.kind (some e.cause)
    ((s.fateOf h e).stateAfter (s.priorOf h.loader)) h.taking h.slot h.target 0)).mono).trans
    ((State.tellSup_sameBut _ (.handoverEnded k h.loader h.kind (some e.cause)
    ((s.fateOf h e).stateAfter (s.priorOf h.loader)) h.taking h.slot h.target 0)).mono))
  unfold State.abortBegun
  split
  · next eq => rw [eq, State.setHandover_handover_self]
  · next ne => rw [State.setHandover_handover_ne _ ne, frame.handover n]

theorem State.abortBegun_slot (k : CtxId) (h : Handover) (e : AbortEvent) (c : ChairId)
    (i : SlotId) :
    (s.abortBegun k h e).slot c i =
      { s.slot c i with
        contents := if h.reserves c i then .empty else (s.slot c i).contents
        lastCount := if (s.fateOf h e).resetsCount (s.priorOf h.loader) h.phase = true ∧
            (s.loader h.loader).heldAt c i = true then none
          else (s.slot c i).lastCount } := by
  rw [(s.abortBegun_afterLeave k h e).slot c i, State.leaveTransfer_slot,
    State.dropReservation_slot, (s.dropReservation_sameBut h).loader]

theorem State.abortBegun_watch (k : CtxId) (h : Handover) (e : AbortEvent) :
    (s.abortBegun k h e).watch = s.watch.unlock h.taking h.loader := by
  rw [(s.abortBegun_afterLeave k h e).watch, State.leaveTransfer_watch, State.dropReservation_watch]

theorem State.abortBegun_chair (k : CtxId) (h : Handover) (e : AbortEvent) (c : ChairId) :
    (s.abortBegun k h e).chair c =
      { s.chair c with slots := ((s.abortBegun k h e).chair c).slots } := by
  rw [(s.abortBegun_afterLeave k h e).chair c, State.leaveTransfer_chair,
    State.dropReservation_chair]

section abort

variable {s} {k : CtxId} {h : Handover} (used : s.handover k = some h) (e : AbortEvent)
include used

/-- An abort leaves every other record. -/
theorem State.abort_loader_ne {n : LoaderId} (ne : n ≠ h.loader) :
    (s.abort k e).loader n = s.loader n := by
  rw [s.abort_eq used]
  split
  · rw [State.enterHaltedWith_loader_ne _ ne, s.abortBegun_loader_ne k h e ne]
  · rw [State.updateLamps_loader, s.abortBegun_loader_ne k h e ne]

/-- The record that an abort leaves its loader. -/
theorem State.abort_loader :
    (s.abort k e).loader h.loader =
      match s.fateOf h e with
      | .halt cause =>
        { (s.loader h.loader).halted ((s.loader h.loader).haltRecord cause
            (h.restored (s.priorOf h.loader)) s.seconds) with holdRefresh := some ⟨500, 0⟩ }
      | f => f.leave (s.loader h.loader) (s.priorOf h.loader) h s.params := by
  have record := s.abortBegun_loader k h e
  rw [s.abort_eq used]
  cases fate : s.fateOf h e with
  | halt cause =>
    rw [fate] at record
    simp only [State.enterHaltedWith_loader, record, Fate.leave,
      (s.abortBegun_sameBut k h e).seconds]
  | revert => simpa [fate] using record
  | orphan => simpa [fate] using record

theorem State.abort_handover (n : CtxId) :
    (s.abort k e).handover n = if n = k then none else s.handover n := by
  rw [s.abort_eq used]
  split
  · rw [(State.enterHaltedWith_sameBut _ _ _ _).handover n, s.abortBegun_handover]
  · rw [(State.updateLamps_sameBut _).handover n, s.abortBegun_handover]

/-- An abort that halts its loader. -/
def Fate.isHalt : Fate → Bool
  | .halt _ => true
  | _ => false

theorem State.abort_slot (c : ChairId) (i : SlotId) :
    (s.abort k e).slot c i =
      { s.slot c i with
        contents := if h.reserves c i || ((s.fateOf h e).isHalt && (s.loader h.loader).heldAt c i)
          then .empty else (s.slot c i).contents
        lastCount := if (s.fateOf h e).resetsCount (s.priorOf h.loader) h.phase = true ∧
            (s.loader h.loader).heldAt c i = true then none
          else (s.slot c i).lastCount } := by
  have slot := s.abortBegun_slot k h e c i
  have record := s.abortBegun_loader k h e
  rw [s.abort_eq used]
  cases fate : s.fateOf h e with
  | halt cause =>
    rw [fate] at record slot
    simp only [State.enterHaltedWith_slot, record, slot, Fate.leave, Fate.isHalt]
    cases h.reserves c i <;> cases (s.loader h.loader).heldAt c i <;> simp
  | revert =>
    rw [fate] at slot
    simpa [Fate.isHalt] using ((State.updateLamps_sameBut _).slot c i).trans slot
  | orphan =>
    rw [fate] at slot
    simpa [Fate.isHalt] using ((State.updateLamps_sameBut _).slot c i).trans slot

theorem State.abort_watch :
    (s.abort k e).watch =
      if (s.fateOf h e).isHalt = true then
        (s.watch.unlock h.taking h.loader).unlockHolder h.loader (s.loader h.loader).holder
      else s.watch.unlock h.taking h.loader := by
  have record := s.abortBegun_loader k h e
  rw [s.abort_eq used]
  cases fate : s.fateOf h e with
  | halt cause =>
    rw [fate] at record
    simp only [State.enterHaltedWith_watch, record, s.abortBegun_watch, Fate.leave, Fate.isHalt,
      if_true]
  | revert =>
    simpa [Fate.isHalt, State.updateLamps] using s.abortBegun_watch k h e
  | orphan =>
    simpa [Fate.isHalt, State.updateLamps] using s.abortBegun_watch k h e

theorem State.abort_shown : (s.abort k e).lampsShown := by
  rw [s.abort_eq used]
  split
  · exact State.enterHaltedWith_shown _ _ _ _
  · exact State.updateLamps_shown _

end abort

end Sys2Proof.Machine
end

section
/-! PROOF. The record laws admit a handover that is still OFFERED but already names a taking slot.
An ACCEPT of it with another slot reserves that one and leaves the first Reserved (04 R71), where no
handover names it any more: the slot law fails. -/

namespace Sys2Proof.Machine

-- One theorem after another, so that the compile stays within its memory.
set_option Elab.async false

/-- Loader 0, which chair 0 drives in zone 0, in TRANSFER by the handover in context 0. -/
def offeredLoader : Loader :=
  { Loader.blank with
    state := .transfer, holder := some ⟨0, 0, .manual⟩, epoch := 1, prior := some .driven
    context := some 0, position := some ⟨0, 50, .towardFarEnd⟩, age := 0, stationary := true
    onboard := .remote, silence := ⟨0, 2000, 15000⟩, lapseTimer := some ⟨300, 0⟩ }

/-- An OFFER to chair 1 that no ACCEPT has answered, with slot 2 of chair 1 as its taking slot. -/
def offeredWithSlot : Handover where
  loader := 0
  kind := .offer
  releasing := some 0
  taking := 1
  slot := some 2
  target := .supervised
  phase := .offered
  timer := ⟨8000, 0⟩
  suspended := false
  watchdog := ⟨60000, 0⟩
  held := none

/-- The handover and its loader on open ground, every chair UP, the two pairs locked, and the ACCEPT
of chair 1 with slot 3 at the front of the queue. -/
def offeredTwice : State :=
  let s : State :=
    { State.reset with
      loaders := State.reset.loaders.set 0 offeredLoader
      radioMap := State.reset.radioMap.set 0 (some 100)
      chairs := Vector.replicate 12 { Chair.blank with clearance := 255, neutral := true }
      links := Vector.replicate 12 { ChairLink.blank with state := .up, silence := some ⟨1000, 0⟩ }
      zones := State.reset.zones.set 0 ⟨.openPlain, 128, .entrance, 50, false, false, none⟩
      handovers := State.reset.handovers.set 0 (some offeredWithSlot)
      watch := ((WatchTable.blank.lock 0 0).1.lock 1 0).1
      pending := [.accept ⟨.chair 1 2, 7⟩ 0 0 3] }
  (s.fillSlot 0 0 (.bound 0)).fillSlot 1 2 (.reserved 0 0)

/-- Each pair of `offeredTwice` stands in the pinned entry with its chair's number. -/
theorem offeredTwice_pinned :
    ∀ m : PinnedId, ∀ e ∈ offeredTwice.watch.pinned[m], m.val = e.chair.val := by decide +kernel

theorem offeredTwice_watchLaw : offeredTwice.watchLaw := by
  have place : ∀ (c : ChairId) (l : LoaderId) (n : PinnedId),
      (offeredTwice.watch.pinned[n]).any (·.names c l) = true → n.val = c.val := by
    intro c l n named
    obtain ⟨e, entry, names⟩ := Option.any_eq_true _ _ |>.mp named
    rw [offeredTwice_pinned n e entry, ((e.names_iff c l).1 names).1]
  exact ⟨fun c l m n hm hn => Fin.ext ((place c l m hm).trans (place c l n hn).symm),
    by decide +kernel, by decide +kernel⟩

theorem offeredTwice_recordLaws : offeredTwice.recordLaws where
  transfer := by unfold State.transferLaw; decide +kernel
  halts := by unfold State.haltLaw; decide +kernel
  holders := by unfold State.holderLaw; decide +kernel
  slots := by unfold State.slotLaw; decide +kernel
  loads := by unfold State.loadLaw; decide +kernel
  watches := offeredTwice_watchLaw
  locks := by unfold State.lockLaw; decide +kernel

/-- What the ACCEPT leaves. -/
def acceptedTwice : State :=
  match step offeredTwice with
  | .next t => t
  | _ => offeredTwice

theorem step_offeredTwice : step offeredTwice = .next acceptedTwice := rfl

/-- Slot 2 of chair 1 is Reserved still, and the handover names slot 3. -/
theorem acceptedTwice_slots :
    (acceptedTwice.slot 1 2).contents = .reserved 0 0 ∧
      (acceptedTwice.handover 0).map (·.slot) = some (some 3) := by decide +kernel

/-- Refutes O57: nothing in the record laws keeps an OFFERED handover from naming a slot, and the
slot that an ACCEPT replaces stays Reserved. -/
theorem not_stepKeepsRecordLaws : ¬ Obligations.StepKeepsRecordLaws := by
  unfold Obligations.StepKeepsRecordLaws
  intro keeps
  have laws := keeps offeredTwice acceptedTwice offeredTwice_recordLaws step_offeredTwice
  obtain ⟨reserved, renamed⟩ := acceptedTwice_slots
  obtain ⟨x, used, -, -, slot⟩ := ((laws.slots 1 2).2 0 0).1 reserved
  rw [Option.mem_def.1 used] at renamed
  simp [slot] at renamed

end Sys2Proof.Machine
end

section
/-! PROOF. The limits of a safe run and the update that each operation makes: parameters, link
fields, radio addresses, ranges, queues and closures (09 R162, 08 R150, 01 1-3, 01 1-1, 07 R141, 02
R33). -/

namespace Sys2Proof.Machine

-- One theorem after another, so that the compile stays within its memory.
set_option Elab.async false

/-! ## What a change within the limits is -/

/-- The positions and the age of a record in their ranges (01 1-1). -/
def Loader.inRange (r : Loader) : Prop :=
  (∀ p ∈ r.position, p.law) ∧ (∀ p ∈ r.lastReported, p.law) ∧ r.age ≤ 65535

/-- The values of a zone descriptor in their ranges (02 R23). -/
def Zone.inRange (z : Zone) : Prop := z.openLength ≤ 128 ∧ z.cap ≤ 80

/-- A step from one state to another keeps every limit, and neither takes a command from the queue
nor a byte from the line. -/
structure State.keepsLimits (s t : State) : Prop where
  params : s.paramLaw → t.paramLaw
  chairLinks : ∀ c, (s.link c).law → (t.link c).law
  supLink : s.supLink.errors ≤ 15 ∧ s.supLink.tally ≤ 15 ∧ s.supLink.badFrames ≤ 65535 →
    t.supLink.errors ≤ 15 ∧ t.supLink.tally ≤ 15 ∧ t.supLink.badFrames ≤ 65535
  fleetLink : s.fleet.badFrames ≤ 65535 ∧ s.fleet.unknown ≤ 65535 →
    t.fleet.badFrames ≤ 65535 ∧ t.fleet.unknown ≤ 65535
  addresses : s.addressLaw → t.addressLaw
  loaders : ∀ l, (s.loader l).inRange → (t.loader l).inRange
  zones : ∀ z, (s.zone z).inRange → (t.zone z).inRange
  chairs : ∀ c, (s.chair c).counters.law → (t.chair c).counters.law
  queues : ∀ p, (s.queue p).law → (t.queue p).law
  orders : s.fleet.orders.length ≤ 64 ∧ s.fleet.dropped ≤ 65535 →
    t.fleet.orders.length ≤ 64 ∧ t.fleet.dropped ≤ 65535
  closures : s.closureLaw → t.closureLaw
  pending : t.pending = s.pending
  line : t.line = s.line

theorem State.keepsLimits.refl (s : State) : s.keepsLimits s where
  params := id
  chairLinks := fun _ => id
  supLink := id
  fleetLink := id
  addresses := id
  loaders := fun _ => id
  zones := fun _ => id
  chairs := fun _ => id
  queues := fun _ => id
  orders := id
  closures := id
  pending := rfl
  line := rfl

theorem State.keepsLimits.trans {s t u : State} (a : s.keepsLimits t) (b : t.keepsLimits u) :
    s.keepsLimits u where
  params := b.params ∘ a.params
  chairLinks c := b.chairLinks c ∘ a.chairLinks c
  supLink := b.supLink ∘ a.supLink
  fleetLink := b.fleetLink ∘ a.fleetLink
  addresses := b.addresses ∘ a.addresses
  loaders l := b.loaders l ∘ a.loaders l
  zones z := b.zones z ∘ a.zones z
  chairs c := b.chairs c ∘ a.chairs c
  queues p := b.queues p ∘ a.queues p
  orders := b.orders ∘ a.orders
  closures := b.closures ∘ a.closures
  pending := b.pending.trans a.pending
  line := b.line.trans a.line

theorem State.keepsLimits.foldl {α : Type} {f : State → α → State}
    (h : ∀ (s : State) (x : α), s.keepsLimits (f s x)) (xs : List α) (s : State) :
    s.keepsLimits (xs.foldl f s) := by
  induction xs generalizing s with
  | nil => exact .refl s
  | cons x xs ih => exact (h s x).trans (ih (f s x))

/-- The parts that no limit speaks of. -/
abbrev unlimitedParts : List Part :=
  [.barriers, .lamps, .handovers, .watch, .watchAll, .seconds, .millis, .stopAll, .inputs, .inReset,
    .receivers]

section

variable {s t : State}

theorem State.closureLaw_congr (zones : ∀ z, (t.zone z).closing = (s.zone z).closing)
    (closures : ∀ k, (t.closure k).map (·.zone) = (s.closure k).map (·.zone)) :
    s.closureLaw → t.closureLaw := by
  rintro ⟨used, closing⟩
  constructor
  · intro k x hx
    have same := closures k
    rw [Option.mem_def.1 hx, Option.map_some] at same
    obtain ⟨y, hy, zone⟩ := Option.map_eq_some_iff.1 same.symm
    rw [zones, ← zone]
    exact used k y hy
  · intro z k hk
    rw [zones] at hk
    obtain ⟨y, hy, zone⟩ := closing z k hk
    have same := closures k
    rw [Option.mem_def.1 hy, Option.map_some] at same
    obtain ⟨x, hx, eq⟩ := Option.map_eq_some_iff.1 same
    exact ⟨x, hx, eq.trans zone⟩

/-- A step that changes only these parts keeps the limits where the changed parts keep theirs. -/
theorem State.keepsLimits.of_sameBut
    (h : s.sameBut (.loaders :: .chairs :: .queues :: .supQueue :: .fleet :: .links :: .supLink ::
      unlimitedParts) t)
    (loaders : ∀ l, (s.loader l).inRange → (t.loader l).inRange)
    (chairs : ∀ c, (s.chair c).counters.law → (t.chair c).counters.law)
    (queues : ∀ p, (s.queue p).law → (t.queue p).law)
    (links : ∀ c, (s.link c).law → (t.link c).law)
    (supLink : s.supLink.errors ≤ 15 ∧ s.supLink.tally ≤ 15 ∧ s.supLink.badFrames ≤ 65535 →
      t.supLink.errors ≤ 15 ∧ t.supLink.tally ≤ 15 ∧ t.supLink.badFrames ≤ 65535)
    (fleetLink : s.fleet.badFrames ≤ 65535 ∧ s.fleet.unknown ≤ 65535 →
      t.fleet.badFrames ≤ 65535 ∧ t.fleet.unknown ≤ 65535)
    (orders : s.fleet.orders.length ≤ 64 ∧ s.fleet.dropped ≤ 65535 →
      t.fleet.orders.length ≤ 64 ∧ t.fleet.dropped ≤ 65535) : s.keepsLimits t where
  params := by unfold State.paramLaw; rw [h.params]; exact id
  chairLinks := links
  supLink := supLink
  fleetLink := fleetLink
  addresses := by unfold State.addressLaw; rw [h.radioMap]; exact id
  loaders := loaders
  zones z := by rw [h.zone z]; exact id
  chairs := chairs
  queues := queues
  orders := orders
  closures := State.closureLaw_congr (fun z => by rw [h.zone z]) fun k => by rw [h.closure k]
  pending := h .pending (by decide)
  line := h .line (by decide)

theorem State.sameBut.queue {ps : List Part} (h : s.sameBut ps t) (p : Port)
    (n : Part.queues ∉ ps := by decide) (n' : Part.supQueue ∉ ps := by decide) :
    t.queue p = s.queue p := by
  cases p
  · simp only [State.queue, h.queues n]
  · exact h.supQueue n'

theorem State.keepsLimits.of_loaders (h : s.sameBut (.loaders :: unlimitedParts) t)
    (loaders : ∀ l, (s.loader l).inRange → (t.loader l).inRange) : s.keepsLimits t :=
  .of_sameBut h.mono loaders (fun c => by rw [h.chair c]; exact id)
    (fun p => by rw [h.queue p]; exact id) (fun c => by rw [h.link c]; exact id)
    (by rw [h.supLink]; exact id) (by rw [h.fleet]; exact id) (by rw [h.fleet]; exact id)

theorem State.keepsLimits.of_unlimited (h : s.sameBut unlimitedParts t) : s.keepsLimits t :=
  .of_loaders h.mono fun l => by rw [h.loader l]; exact id

theorem State.keepsLimits.of_chairs (h : s.sameBut [.chairs] t)
    (chairs : ∀ c, (s.chair c).counters.law → (t.chair c).counters.law) : s.keepsLimits t :=
  .of_sameBut h.mono (fun l => by rw [h.loader l]; exact id) chairs
    (fun p => by rw [h.queue p]; exact id) (fun c => by rw [h.link c]; exact id)
    (by rw [h.supLink]; exact id) (by rw [h.fleet]; exact id) (by rw [h.fleet]; exact id)

theorem State.keepsLimits.of_queues (h : s.sameBut [.queues, .supQueue] t)
    (queues : ∀ p, (s.queue p).law → (t.queue p).law) : s.keepsLimits t :=
  .of_sameBut h.mono (fun l => by rw [h.loader l]; exact id) (fun c => by rw [h.chair c]; exact id)
    queues (fun c => by rw [h.link c]; exact id)
    (by rw [h.supLink]; exact id) (by rw [h.fleet]; exact id) (by rw [h.fleet]; exact id)

theorem State.keepsLimits.of_links (h : s.sameBut [.links, .supLink] t)
    (links : ∀ c, (s.link c).law → (t.link c).law)
    (supLink : s.supLink.errors ≤ 15 ∧ s.supLink.tally ≤ 15 ∧ s.supLink.badFrames ≤ 65535 →
      t.supLink.errors ≤ 15 ∧ t.supLink.tally ≤ 15 ∧ t.supLink.badFrames ≤ 65535) :
    s.keepsLimits t :=
  .of_sameBut h.mono (fun l => by rw [h.loader l]; exact id) (fun c => by rw [h.chair c]; exact id)
    (fun p => by rw [h.queue p]; exact id) links supLink
    (by rw [h.fleet]; exact id) (by rw [h.fleet]; exact id)

end

variable (s : State)

/-! ## Loader records -/

theorem State.setLoader_keepsLimits (l : LoaderId) (r : Loader)
    (h : (s.loader l).inRange → r.inRange) : s.keepsLimits (s.setLoader l r) :=
  .of_loaders (s.setLoader_sameBut l r).mono fun n => by
    by_cases same : n = l
    · subst same; rw [State.setLoader_loader_self]; exact h
    · rw [State.setLoader_loader_ne _ same]; exact id

theorem State.modLoader_keepsLimits (l : LoaderId) (f : Loader → Loader)
    (h : (s.loader l).inRange → (f (s.loader l)).inRange := by exact id) :
    s.keepsLimits (s.modLoader l f) := s.setLoader_keepsLimits l _ h

/-! ## Chairs and slots -/

theorem State.modChair_keepsLimits (c : ChairId) (f : Chair → Chair)
    (h : (s.chair c).counters.law → (f (s.chair c)).counters.law := by exact id) :
    s.keepsLimits (s.modChair c f) :=
  .of_chairs (s.modChair_sameBut c f) fun d => by
    by_cases same : d = c
    · subst same; rw [State.modChair_chair_self]; exact h
    · rw [State.modChair_chair_ne _ same]; exact id

theorem State.modSlot_keepsLimits (c : ChairId) (i : SlotId) (f : Slot → Slot) :
    s.keepsLimits (s.modSlot c i f) := s.modChair_keepsLimits c _

theorem State.fillSlot_keepsLimits (c : ChairId) (i : SlotId) (x : SlotContents) :
    s.keepsLimits (s.fillSlot c i x) := s.modSlot_keepsLimits c i _

/-! ## Links -/

theorem State.modLink_keepsLimits (c : ChairId) (f : ChairLink → ChairLink)
    (h : (s.link c).law → (f (s.link c)).law) : s.keepsLimits (s.modLink c f) :=
  .of_links (s.modLink_sameBut c f).mono (fun d => by
    by_cases same : d = c
    · subst same; rw [State.modLink_link_self]; exact h
    · rw [State.modLink_link_ne _ same]; exact id) id

theorem tallyValid_le (e t : Nat) : (tallyValid e t).1 ≤ e ∧ (tallyValid e t).2 ≤ 15 := by
  rw [tallyValid_eq]; dsimp only; split <;> omega

/-- A link that is not DOWN keeps its law through a valid frame, its silence timer restarted. -/
theorem ChairLink.law.valid {k : ChairLink} {ps : Params} (law : k.law) (up : k.state ≠ .down) :
    (k.restartSilence ps).valid.law := by
  obtain ⟨errors, tally, run, bad, silence, down⟩ := law
  have t := tallyValid_le k.errors k.tally
  exact ⟨t.1.trans errors, t.2, run, bad, by simp [ChairLink.valid, ChairLink.restartSilence, up],
    fun h => absurd h up⟩

/-! ## Delivery queues (07 R141 to R143) -/

theorem gain_le (n m : Nat) : gain n m ≤ 65535 := Nat.min_le_left _ _

/-- At most one report of a loader is queued where a frame joins. -/
theorem OutQueue.join_countP (q : OutQueue) (f : Frame) (l : LoaderId)
    (once : q.frames.countP (fun g => g.reportOf == some l) ≤ 1) :
    (q.join f).frames.countP (fun g => g.reportOf == some l) ≤ 1 := by
  unfold OutQueue.join OutQueue.drop
  split
  · next waits =>
    rw [List.countP_map]
    refine le_trans (le_of_eq ?_) once
    refine List.countP_congr fun g _ => ?_
    by_cases same : g.reportOf = f.reportOf <;> simp [same]
  · next waits =>
    have fresh : ∀ xs : List Frame, List.Sublist xs q.frames →
        (xs ++ [f]).countP (fun g => g.reportOf == some l) ≤ 1 := by
      intro xs sub
      rw [List.countP_append, List.countP_singleton]
      have le := sub.countP_le (p := fun g => g.reportOf == some l)
      split
      · next mine =>
        have report : f.reportOf = some l := by simpa using mine
        have none_waits : q.frames.countP (fun g => g.reportOf == some l) = 0 := by
          rw [List.countP_eq_zero]
          intro g hg eq
          exact waits (by
            simp only [Frame.isReport, report, Option.isSome_some, Bool.true_and]
            exact List.any_eq_true.2 ⟨g, hg, eq⟩)
        omega
      · omega
    split
    · exact fresh _ (List.Sublist.refl _)
    split
    · exact fresh _ List.eraseP_sublist
    split
    · exact once
    split
    · exact fresh _ List.eraseP_sublist
    · exact once

theorem OutQueue.join_dropped_le (q : OutQueue) (f : Frame) (h : q.dropped ≤ 65535) :
    (q.join f).dropped ≤ 65535 := by
  unfold OutQueue.join OutQueue.drop
  split
  · exact h
  split
  · exact h
  split
  · exact gain_le _ _
  split
  · exact gain_le _ _
  split <;> exact gain_le _ _

theorem OutQueue.law.join {q : OutQueue} (law : q.law) (f : Frame) : (q.join f).law :=
  ⟨q.join_length f law.1, fun l => q.join_countP f l (law.2.1 l), q.join_dropped_le f law.2.2⟩

/-- A queue that loses frames keeps its limits. -/
theorem OutQueue.law.of_sublist {q q' : OutQueue} (law : q.law)
    (frames : List.Sublist q'.frames q.frames) (dropped : q.dropped ≤ 65535 → q'.dropped ≤ 65535) :
    q'.law :=
  ⟨frames.length_le.trans law.1, fun l => frames.countP_le.trans (law.2.1 l), dropped law.2.2⟩

theorem State.modQueue_keepsLimits (p : Port) (f : OutQueue → OutQueue)
    (h : (s.queue p).law → (f (s.queue p)).law) : s.keepsLimits (s.modQueue p f) :=
  .of_queues (s.modQueue_sameBut p f) fun q => by
    by_cases same : q = p
    · subst same; rw [State.modQueue_queue_self]; exact h
    · rw [State.modQueue_queue_ne _ same]; exact id

theorem State.join_keepsLimits (p : Port) (f : Frame) : s.keepsLimits (s.modQueue p (·.join f)) :=
  s.modQueue_keepsLimits p _ fun law => law.join f

theorem State.toChair_keepsLimits (c : ChairId) (b : FrameBody) :
    s.keepsLimits (s.toChair c b) := by
  unfold State.toChair
  split
  · exact s.join_keepsLimits _ _
  · exact .refl s

theorem State.tellChair_keepsLimits (c : ChairId) (n : Notice) :
    s.keepsLimits (s.tellChair c n) := s.toChair_keepsLimits c _

theorem State.tellChair?_keepsLimits (c : Option ChairId) (n : Notice) :
    s.keepsLimits (s.tellChair? c n) := by
  cases c
  · exact .refl s
  · exact s.tellChair_keepsLimits _ n

theorem State.tellSup_keepsLimits (n : Notice) : s.keepsLimits (s.tellSup n) :=
  s.join_keepsLimits _ _

theorem State.tellParties_keepsLimits (h : Handover) (n : Notice) :
    s.keepsLimits (s.tellParties h n) :=
  (s.tellChair?_keepsLimits _ n).trans (State.tellChair_keepsLimits _ _ n)

theorem State.tellHalted_keepsLimits (l : LoaderId) (i : Option SlotId) (c : Cause) :
    s.keepsLimits (s.tellHalted l i c) :=
  (s.tellChair?_keepsLimits _ _).trans (State.tellSup_keepsLimits _ _)

theorem State.tellEvicted_keepsLimits (p : Option (ChairId × LoaderId)) (w : WatchPart) :
    s.keepsLimits (s.tellEvicted p w) := by
  unfold State.tellEvicted
  split
  · exact s.tellChair_keepsLimits _ _
  · exact .refl s

/-! ## The fleet link (08 R157 to R159) -/

theorem State.setFleet_sameBut (f : FleetLink) : s.sameBut [.fleet] { s with fleet := f } := by
  intro p hp
  cases p
  case fleet => simp at hp
  all_goals rfl

theorem State.setFleet_keepsLimits (f : FleetLink)
    (fleetLink : s.fleet.badFrames ≤ 65535 ∧ s.fleet.unknown ≤ 65535 →
      f.badFrames ≤ 65535 ∧ f.unknown ≤ 65535)
    (orders : s.fleet.orders.length ≤ 64 ∧ s.fleet.dropped ≤ 65535 →
      f.orders.length ≤ 64 ∧ f.dropped ≤ 65535) : s.keepsLimits { s with fleet := f } :=
  .of_sameBut (s.setFleet_sameBut f).mono (fun _ => id) (fun _ => id)
    (fun p => by rw [(s.setFleet_sameBut f).queue p]; exact id) (fun _ => id) id fleetLink orders

theorem FleetLink.join_counters (f : FleetLink) (o : Order) :
    (f.join o).badFrames = f.badFrames ∧ (f.join o).unknown = f.unknown := by
  unfold FleetLink.join FleetLink.drop
  split
  · exact ⟨rfl, rfl⟩
  split
  · exact ⟨rfl, rfl⟩
  split <;> exact ⟨rfl, rfl⟩

theorem FleetLink.join_dropped_le (f : FleetLink) (o : Order) (h : f.dropped ≤ 65535) :
    (f.join o).dropped ≤ 65535 := by
  unfold FleetLink.join FleetLink.drop
  split
  · exact h
  split
  · exact gain_le _ _
  split <;> exact gain_le _ _

theorem State.order_keepsLimits (l : LoaderId) (b : OrderBody) : s.keepsLimits (s.order l b) := by
  rw [s.order_eq]
  unfold State.ordered
  split
  · refine s.setFleet_keepsLimits _ (fun h => ?_) fun h => ?_
    · rwa [(FleetLink.join_counters _ _).1, (FleetLink.join_counters _ _).2]
    · exact ⟨FleetLink.join_length _ _ h.1, FleetLink.join_dropped_le _ _ h.2⟩
  · exact .refl s

/-! ## Parts without limits -/

theorem State.setHandover_keepsLimits (k : CtxId) (x : Option Handover) :
    s.keepsLimits (s.setHandover k x) := .of_unlimited (s.setHandover_sameBut k x).mono

theorem State.setWatch_keepsLimits (w : WatchTable) : s.keepsLimits { s with watch := w } :=
  .of_unlimited (s.setWatch_sameBut w).mono

theorem State.updateLamps_keepsLimits : s.keepsLimits s.updateLamps :=
  .of_unlimited s.updateLamps_sameBut.mono

/-! ## Zones and closures (02 R31 to R37) -/

theorem State.modZone_keepsLimits (z : ZoneId) (f : Zone → Zone)
    (range : (s.zone z).inRange → (f (s.zone z)).inRange := by exact id)
    (closing : (f (s.zone z)).closing = (s.zone z).closing := by rfl) :
    s.keepsLimits (s.modZone z f) := by
  have h := s.modZone_sameBut z f
  have entry : ∀ y, (s.modZone z f).zone y = if y = z then f (s.zone y) else s.zone y := by
    intro y
    split
    · next e => rw [e, State.modZone_zone_self]
    · next e => rw [State.modZone_zone_ne _ e]
  refine
    { params := by unfold State.paramLaw; rw [h.params]; exact id
      chairLinks := fun c => by rw [h.link c]; exact id
      supLink := by rw [h.supLink]; exact id
      fleetLink := by rw [h.fleet]; exact id
      addresses := by unfold State.addressLaw; rw [h.radioMap]; exact id
      loaders := fun l => by rw [h.loader l]; exact id
      zones := fun y => ?_
      chairs := fun c => by rw [h.chair c]; exact id
      queues := fun p => by rw [h.queue p]; exact id
      orders := by rw [h.fleet]; exact id
      closures := State.closureLaw_congr (fun y => ?_) fun k => by rw [h.closure k]
      pending := rfl
      line := rfl }
  · rw [entry]
    split
    · next e => rw [e]; exact range
    · exact id
  · rw [entry]
    split
    · next e => rw [e]; exact closing
    · rfl

/-- A closure begins or ends: its context and its zone are written together. -/
theorem State.setClosing_keepsLimits (z : ZoneId) (k : ClosureId) (x : Option Closure)
    (f : Zone → Zone) (range : (s.zone z).inRange → (f (s.zone z)).inRange)
    (closures : s.closureLaw → ((s.setClosure k x).modZone z f).closureLaw) :
    s.keepsLimits ((s.setClosure k x).modZone z f) := by
  have h : s.sameBut [.closures, .zones] ((s.setClosure k x).modZone z f) :=
    ((s.setClosure_sameBut k x).mono).trans ((State.modZone_sameBut _ z f).mono)
  refine
    { params := by unfold State.paramLaw; rw [h.params]; exact id
      chairLinks := fun c => by rw [h.link c]; exact id
      supLink := by rw [h.supLink]; exact id
      fleetLink := by rw [h.fleet]; exact id
      addresses := by unfold State.addressLaw; rw [h.radioMap]; exact id
      loaders := fun l => by rw [h.loader l]; exact id
      zones := fun y => ?_
      chairs := fun c => by rw [h.chair c]; exact id
      queues := fun p => by rw [h.queue p]; exact id
      orders := by rw [h.fleet]; exact id
      closures := closures
      pending := rfl
      line := rfl }
  by_cases same : y = z
  · subst same; rw [State.modZone_zone_self]; exact range
  · rw [State.modZone_zone_ne _ same]; exact id

/-- The zone and the context of a closure that ends name each other (02 R33). -/
theorem State.endClosing_closureLaw (z : ZoneId) (k : ClosureId) (f : Zone → Zone)
    (freed : (f (s.zone z)).closing = none)
    (own : (s.zone z).closing = some k ∨ ∃ x, s.closure k = some x ∧ x.zone = z)
    (law : s.closureLaw) : ((s.setClosure k none).modZone z f).closureLaw := by
  obtain ⟨used, closing⟩ := law
  have here : (s.zone z).closing = some k := by
    rcases own with h | ⟨x, hx, rfl⟩
    · exact h
    · exact used k x hx
  obtain ⟨x, hx, zone⟩ := closing z k here
  constructor
  · intro n y hy
    by_cases same : n = k
    · subst same
      rw [State.modZone_closure, State.setClosure_closure_self] at hy
      cases hy
    · rw [State.modZone_closure, State.setClosure_closure_ne _ same] at hy
      have zone_ne : y.zone ≠ z := by
        intro e
        have := used n y hy
        rw [e, here] at this
        exact same (Option.some.inj this).symm
      rw [State.modZone_zone_ne _ zone_ne]
      exact used n y hy
  · intro y n hn
    by_cases same : y = z
    · subst same
      rw [State.modZone_zone_self, State.setClosure_zone, freed] at hn
      cases hn
    · rw [State.modZone_zone_ne _ same, State.setClosure_zone] at hn
      have ctx_ne : n ≠ k := by
        rintro rfl
        obtain ⟨w, hw, e⟩ := closing y n hn
        rw [Option.mem_def] at hw hx
        rw [hx, Option.some.injEq] at hw
        exact same (by rw [← e, ← hw, zone])
      rw [State.modZone_closure, State.setClosure_closure_ne _ ctx_ne]
      exact closing y n hn

theorem State.beginClosing_closureLaw (k : ClosureId) (x : Closure) (f : Zone → Zone)
    (named : (f (s.zone x.zone)).closing = some k) (free : s.closure k = none)
    (unclosed : (s.zone x.zone).closing = none) (law : s.closureLaw) :
    ((s.setClosure k (some x)).modZone x.zone f).closureLaw := by
  obtain ⟨used, closing⟩ := law
  constructor
  · intro n y hy
    by_cases same : n = k
    · subst same
      rw [State.modZone_closure, State.setClosure_closure_self] at hy
      cases hy
      rw [State.modZone_zone_self]
      exact named
    · rw [State.modZone_closure, State.setClosure_closure_ne _ same] at hy
      have own := used n y hy
      have zone : y.zone ≠ x.zone := by
        intro e
        rw [e, unclosed] at own
        cases own
      rwa [State.modZone_zone_ne _ zone]
  · intro z n hn
    by_cases same : z = x.zone
    · subst same
      rw [State.modZone_zone_self, State.setClosure_zone, named] at hn
      cases hn
      exact ⟨x, by simp, rfl⟩
    · rw [State.modZone_zone_ne _ same, State.setClosure_zone] at hn
      obtain ⟨y, hy, zone⟩ := closing z n hn
      have ctx : n ≠ k := by
        rintro rfl
        rw [free] at hy
        cases hy
      rw [State.modZone_closure, State.setClosure_closure_ne _ ctx]
      exact ⟨y, hy, zone⟩

end Sys2Proof.Machine
end

section
/-! PROOF. What a change must keep for the laws of authority: the lamps (02 R40), TRANSFER and holders
(04 R65, 01 R2), the ground under authority (02 R26) and STOP_ALL (06 R126). -/

namespace Sys2Proof.Machine

-- One theorem after another, so that the compile stays within its memory.
set_option Elab.async false

/-! ## The laws, record by record -/

/-- The part of the laws of TRANSFER and of holders that a record shows alone. -/
structure Loader.sound (r : Loader) : Prop where
  prior : r.state = .transfer → r.prior ∈ [some LoaderState.parked, some .driven, some .supervised,
    some .orphaned, some .halted]
  holder : r.holder.isSome = true ↔ r.state ∈ [LoaderState.driven, .supervised, .orphaned] ∨
    (r.state = .transfer ∧ r.prior ∈ [some LoaderState.driven, some .supervised, some .orphaned])
  mode : ∀ y ∈ r.holder, (y.mode = .manual ↔
    r.state = .driven ∨ (r.state = .transfer ∧ r.prior = some .driven))

/-- Handover contexts and loaders in TRANSFER name each other (04 R65). -/
structure State.linked (s : State) : Prop where
  used : ∀ k x, s.handover k = some x →
    (s.loader x.loader).state = .transfer ∧ (s.loader x.loader).context = some k
  named : ∀ l, (s.loader l).state = .transfer →
    ∃ k x, (s.loader l).context = some k ∧ s.handover k = some x ∧ x.loader = l

/-- The laws of TRANSFER and of holders. -/
structure State.flightLaws (s : State) : Prop where
  linked : s.linked
  sound : ∀ l, (s.loader l).sound

theorem State.flightLaws_iff (s : State) : s.flightLaws ↔ s.transferLaw ∧ s.holderLaw := by
  constructor
  · rintro ⟨⟨used, named⟩, sound⟩
    refine ⟨⟨used, fun l h => ⟨?_, (sound l).prior h⟩⟩, fun l => ⟨(sound l).holder, (sound l).mode⟩⟩
    obtain ⟨k, x, hk, hx, hl⟩ := named l h
    exact ⟨k, hk, x, hx, hl⟩
  · rintro ⟨⟨used, named⟩, holder⟩
    refine ⟨⟨used, fun l h => ?_⟩, fun l => ⟨fun h => (named l h).2, (holder l).1, (holder l).2⟩⟩
    obtain ⟨k, hk, x, hx, hl⟩ := (named l h).1
    exact ⟨k, x, hk, hx, hl⟩

theorem State.recordLaws.flight {s : State} (h : s.recordLaws) : s.flightLaws :=
  s.flightLaws_iff.2 ⟨h.transfer, h.holders⟩

/-- A loader with authority stands on ground that admits the mode it is judged in (02 R26). -/
def State.groundedAt (s : State) (l : LoaderId) : Prop :=
  (s.loader l).hasAuthority = true → ∃ p ∈ (s.loader l).position,
    (s.zone p.zone).cls.open (s.judgedMode l) = true ∧ (s.zone p.zone).holdsSegment p = true

/-- No loader has authority and no handover is in flight. -/
structure State.calm (s : State) : Prop where
  loaders : ∀ l, (s.loader l).hasAuthority = false
  handovers : ∀ k, s.handover k = none

theorem State.stopLaw_iff (s : State) : s.stopLaw ↔ (s.stopAll = true → s.calm) :=
  ⟨fun h stop => ⟨(h stop).1, (h stop).2⟩, fun h stop => ⟨(h stop).loaders, (h stop).handovers⟩⟩

theorem State.lampDue_iff (s : State) (n : LevelId) : s.lampDue n = true ↔
    ∃ l, (s.loader l).hasAuthority = true ∧ ∃ p ∈ (s.loader l).position, p.level = n.val := by
  simp [State.lampDue, Loader.onLevel, Option.any_eq_true, levelOf, Position.level, Fin.ext_iff]

theorem State.lampsShown.lampLaw {s : State} (h : s.lampsShown) : s.lampLaw := by
  intro _ n
  rw [show s.lamps = Vector.ofFn s.lampDue from h, ← s.lampDue_iff]
  simp

/-! ## Changes that keep these laws -/

/-- A change keeps the laws of authority. -/
structure State.keepsAuthority (s t : State) : Prop where
  lamps : s.lampLaw → t.lampLaw
  laws : s.flightLaws → t.flightLaws
  ground : s.flightLaws → ∀ l, s.groundedAt l → t.groundedAt l
  stop : s.stopLaw → t.stopLaw

theorem State.keepsAuthority.refl (s : State) : s.keepsAuthority s :=
  ⟨id, id, fun _ _ => id, id⟩

theorem State.keepsAuthority.trans {s t u : State} (a : s.keepsAuthority t)
    (b : t.keepsAuthority u) : s.keepsAuthority u :=
  ⟨b.lamps ∘ a.lamps, b.laws ∘ a.laws, fun h l => b.ground (a.laws h) l ∘ a.ground h l,
    b.stop ∘ a.stop⟩

/-- What the laws of authority read of a record. -/
structure LoaderCore where
  state : LoaderState
  holder : Option Holding
  prior : Option LoaderState
  context : Option CtxId
  position : Option Position

/-- What the laws of authority read of a record. -/
def Loader.core (r : Loader) : LoaderCore := ⟨r.state, r.holder, r.prior, r.context, r.position⟩

theorem Loader.core_inj {r r' : Loader} (h : r'.core = r.core) :
    r'.state = r.state ∧ r'.holder = r.holder ∧ r'.prior = r.prior ∧ r'.context = r.context ∧
      r'.position = r.position := by
  simpa [Loader.core] using h

/-- What the laws of authority read of a zone. -/
def Zone.ground (z : Zone) : ZoneClass × Nat × MeasuredFrom := (z.cls, z.openLength, z.measuredFrom)

/-- Two states show the laws of authority the same. -/
structure State.sameAuthority (s t : State) : Prop where
  loaders : ∀ l, (t.loader l).core = (s.loader l).core
  handovers : ∀ k, (t.handover k).map (fun x => (x.loader, x.target)) =
    (s.handover k).map fun x => (x.loader, x.target)
  zones : ∀ z, (t.zone z).ground = (s.zone z).ground
  lamps : t.lamps = s.lamps
  inReset : t.inReset = s.inReset
  stopAll : t.stopAll = s.stopAll

section

variable {s t : State}

theorem Loader.sound.of_core {r r' : Loader} (h : r'.core = r.core) (sound : r.sound) :
    r'.sound := by
  obtain ⟨state, holder, prior, context, position⟩ := Loader.core_inj h
  obtain ⟨a, b, c⟩ := sound
  exact ⟨by rwa [state, prior], by rwa [state, holder, prior], by rwa [state, holder, prior]⟩

theorem Loader.hasAuthority_of_core {r r' : Loader} (h : r'.core = r.core) :
    r'.hasAuthority = r.hasAuthority := by
  rw [Loader.hasAuthority, (Loader.core_inj h).1, Loader.hasAuthority]

/-- Where the handovers name the same loaders and the records stand in TRANSFER as before, they
still name each other. -/
theorem State.linked.congr
    (loaders : ∀ l, (t.loader l).state = (s.loader l).state ∧
      (t.loader l).context = (s.loader l).context)
    (handovers : ∀ k, (t.handover k).map (·.loader) = (s.handover k).map (·.loader))
    (h : s.linked) : t.linked := by
  constructor
  · intro k x hx
    have same := handovers k
    rw [hx, Option.map_some] at same
    obtain ⟨y, hy, eq⟩ := Option.map_eq_some_iff.1 same.symm
    rw [(loaders _).1, (loaders _).2, ← eq]
    exact h.used k y hy
  · intro l hl
    rw [(loaders l).1] at hl
    obtain ⟨k, y, hk, hy, eq⟩ := h.named l hl
    have same := handovers k
    rw [hy, Option.map_some] at same
    obtain ⟨x, hx, eq'⟩ := Option.map_eq_some_iff.1 same
    exact ⟨k, x, (loaders l).2.trans hk, hx, eq'.trans eq⟩

/-- The mode a loader is judged in, from its state, its held mode and its handover's target. -/
theorem State.judgedMode_congr {l : LoaderId} (state : (t.loader l).state = (s.loader l).state)
    (holder : (t.loader l).holder = (s.loader l).holder)
    (target : (t.handoverOf l).map (·.target) = (s.handoverOf l).map (·.target)) :
    t.judgedMode l = s.judgedMode l := by
  have held : (t.loader l).heldMode = (s.loader l).heldMode := by
    rw [Loader.heldMode, holder, Loader.heldMode]
  simp only [State.judgedMode, state, held, target]

theorem State.handoverOf_target_congr {l : LoaderId}
    (context : (t.loader l).context = (s.loader l).context)
    (targets : ∀ k, (t.handover k).map (·.target) = (s.handover k).map (·.target)) :
    (t.handoverOf l).map (·.target) = (s.handoverOf l).map (·.target) := by
  simp only [State.handoverOf, context]
  cases (s.loader l).context with
  | none => rfl
  | some k => exact targets k

theorem Zone.holdsSegment_of_ground {z z' : Zone} (h : z'.ground = z.ground) (p : Position) :
    z'.holdsSegment p = z.holdsSegment p := by
  simp only [Zone.ground, Prod.mk.injEq] at h
  simp only [Zone.holdsSegment, h.2.1, h.2.2]

/-- A loader stands as before where its position and judged mode are as before, on like ground. -/
theorem State.groundedAt.congr {l : LoaderId}
    (authority : (t.loader l).hasAuthority = true → (s.loader l).hasAuthority = true)
    (position : (t.loader l).position = (s.loader l).position)
    (mode : (t.loader l).hasAuthority = true → t.judgedMode l = s.judgedMode l)
    (zones : ∀ z, (t.zone z).ground = (s.zone z).ground) (h : s.groundedAt l) : t.groundedAt l := by
  intro has
  obtain ⟨p, hp, cls, inside⟩ := h (authority has)
  have e := zones p.zone
  refine ⟨p, by rw [position]; exact hp, ?_, ?_⟩
  · simp only [Zone.ground, Prod.mk.injEq] at e
    rw [e.1, mode has]
    exact cls
  · rw [Zone.holdsSegment_of_ground e]
    exact inside

theorem State.groundedAt.of_noAuthority {l : LoaderId} (h : (t.loader l).hasAuthority = false) :
    t.groundedAt l := by
  intro has
  rw [h] at has
  cases has

theorem State.sameAuthority.keepsAuthority (h : s.sameAuthority t) : s.keepsAuthority t where
  lamps law := by
    intro run n
    rw [h.lamps, law (h.inReset ▸ run) n]
    refine exists_congr fun l => ?_
    rw [Loader.hasAuthority_of_core (h.loaders l), (Loader.core_inj (h.loaders l)).2.2.2.2]
  laws law := by
    refine ⟨law.linked.congr (fun l => ?_) (fun k => ?_), fun l =>
      (law.sound l).of_core (h.loaders l)⟩
    · obtain ⟨state, -, -, context, -⟩ := Loader.core_inj (h.loaders l)
      exact ⟨state, context⟩
    · have e := congrArg (Option.map Prod.fst) (h.handovers k)
      rwa [Option.map_map, Option.map_map] at e
  ground _ l := by
    obtain ⟨state, holder, -, context, position⟩ := Loader.core_inj (h.loaders l)
    refine State.groundedAt.congr (fun has => by rwa [← Loader.hasAuthority_of_core (h.loaders l)])
      position (fun _ => ?_) h.zones
    refine State.judgedMode_congr state holder (State.handoverOf_target_congr context fun k => ?_)
    have e := congrArg (Option.map Prod.snd) (h.handovers k)
    rwa [Option.map_map, Option.map_map] at e
  stop := by
    rw [State.stopLaw_iff, State.stopLaw_iff, h.stopAll]
    refine fun law stop => ⟨fun l => ?_, fun k => ?_⟩
    · rw [Loader.hasAuthority_of_core (h.loaders l)]
      exact (law stop).loaders l
    · have e := h.handovers k
      rw [(law stop).handovers k] at e
      simpa using e

end

/-- A change keeps every law that a step can be asked to keep one by one. -/
structure State.keeps (s t : State) : Prop where
  limits : s.keepsLimits t
  authority : s.keepsAuthority t

theorem State.keeps.refl (s : State) : s.keeps s := ⟨.refl s, .refl s⟩

theorem State.keeps.trans {s t u : State} (a : s.keeps t) (b : t.keeps u) : s.keeps u :=
  ⟨a.limits.trans b.limits, a.authority.trans b.authority⟩

theorem State.keeps.foldl {α : Type} {f : State → α → State}
    (h : ∀ (s : State) (x : α), s.keeps (f s x)) (xs : List α) (s : State) :
    s.keeps (xs.foldl f s) := by
  induction xs generalizing s with
  | nil => exact .refl s
  | cons x xs ih => exact (h s x).trans (ih (f s x))

/-- The parts that the laws of authority do not read. -/
abbrev plainParts : List Part :=
  [.radioMap, .chairs, .links, .closures, .barriers, .watch, .queues, .supQueue, .supLink, .fleet,
    .params, .watchAll, .seconds, .millis, .inputs, .receivers, .line, .pending]

section

variable {s t : State}

theorem State.sameAuthority.of_parts (h : s.sameBut (.loaders :: .handovers :: .zones :: plainParts) t)
    (loaders : ∀ l, (t.loader l).core = (s.loader l).core)
    (handovers : ∀ k, (t.handover k).map (fun x => (x.loader, x.target)) =
      (s.handover k).map fun x => (x.loader, x.target))
    (zones : ∀ z, (t.zone z).ground = (s.zone z).ground) : s.sameAuthority t :=
  ⟨loaders, handovers, zones, h.lamps, h.inReset, h.stopAll⟩

theorem State.sameAuthority.of_plain (h : s.sameBut plainParts t) : s.sameAuthority t :=
  .of_parts h.mono (fun l => by rw [h.loader l]) (fun k => by rw [h.handover k])
    fun z => by rw [h.zone z]

/-- A change of parts that the laws of authority do not read. -/
theorem State.keepsLimits.plain (limits : s.keepsLimits t) (h : s.sameBut plainParts t) :
    s.keeps t := ⟨limits, (State.sameAuthority.of_plain h).keepsAuthority⟩

end

/-! ## The updates that leave authority as it is -/

variable (s : State)

/-- What a change of a record must leave to leave authority as it is. -/
theorem State.setLoader_keeps_of_core (l : LoaderId) (r : Loader)
    (core : r.core = (s.loader l).core) (range : (s.loader l).inRange → r.inRange) :
    s.keeps (s.setLoader l r) := by
  refine ⟨s.setLoader_keepsLimits l r range, (State.sameAuthority.of_parts
    (s.setLoader_sameBut l r).mono (fun n => ?_) (fun _ => rfl) (fun _ => rfl)).keepsAuthority⟩
  by_cases same : n = l
  · subst same; rw [State.setLoader_loader_self]; exact core
  · rw [State.setLoader_loader_ne _ same]

theorem State.modLoader_keeps_of_core (l : LoaderId) (f : Loader → Loader)
    (core : (f (s.loader l)).core = (s.loader l).core := by rfl)
    (range : (s.loader l).inRange → (f (s.loader l)).inRange := by exact id) :
    s.keeps (s.modLoader l f) := s.setLoader_keeps_of_core l _ core range

theorem State.order_keeps (l : LoaderId) (b : OrderBody) : s.keeps (s.order l b) :=
  (s.order_keepsLimits l b).plain (s.order_sameBut l b).mono

theorem State.emitHold_keeps (l : LoaderId) : s.keeps (s.emitHold l) := by
  have h := s.order_keeps l .hold
  unfold State.emitHold
  dsimp only
  split
  · exact h.trans (State.modLoader_keeps_of_core _ l _)
  · exact h

theorem State.settleRefresh_keeps (l : LoaderId) : s.keeps (s.settleRefresh l) := by
  unfold State.settleRefresh
  split
  · exact .refl s
  · exact s.modLoader_keeps_of_core l _

theorem State.startLapse_keeps (l : LoaderId) : s.keeps (s.startLapse l) :=
  s.modLoader_keeps_of_core l _

theorem State.stopLapse_keeps (l : LoaderId) : s.keeps (s.stopLapse l) :=
  s.modLoader_keeps_of_core l _

theorem State.modChair_keeps (c : ChairId) (f : Chair → Chair)
    (h : (s.chair c).counters.law → (f (s.chair c)).counters.law := by exact id) :
    s.keeps (s.modChair c f) :=
  (s.modChair_keepsLimits c f h).plain (s.modChair_sameBut c f).mono

theorem State.modSlot_keeps (c : ChairId) (i : SlotId) (f : Slot → Slot) :
    s.keeps (s.modSlot c i f) := s.modChair_keeps c _

theorem State.fillSlot_keeps (c : ChairId) (i : SlotId) (x : SlotContents) :
    s.keeps (s.fillSlot c i x) := s.modSlot_keeps c i _

theorem State.modLink_keeps (c : ChairId) (f : ChairLink → ChairLink)
    (h : (s.link c).law → (f (s.link c)).law) : s.keeps (s.modLink c f) :=
  (s.modLink_keepsLimits c f h).plain (s.modLink_sameBut c f).mono

theorem State.modQueue_keeps (p : Port) (f : OutQueue → OutQueue)
    (h : (s.queue p).law → (f (s.queue p)).law) : s.keeps (s.modQueue p f) :=
  (s.modQueue_keepsLimits p f h).plain (s.modQueue_sameBut p f).mono

theorem State.join_keeps (p : Port) (f : Frame) : s.keeps (s.modQueue p (·.join f)) :=
  (s.join_keepsLimits p f).plain (s.modQueue_sameBut p _).mono

theorem State.answer_keeps (h : Header) (k : ReqKind) (r : Reply) : s.keeps (s.answer h k r) :=
  s.join_keeps _ _

theorem State.ok_keeps (h : Header) (k : ReqKind) (b : OkBody) : s.keeps (s.ok h k b) :=
  s.answer_keeps h k _

theorem State.toChair_keeps (c : ChairId) (b : FrameBody) : s.keeps (s.toChair c b) :=
  (s.toChair_keepsLimits c b).plain (s.toChair_sameBut c b).mono

theorem State.tellChair_keeps (c : ChairId) (n : Notice) : s.keeps (s.tellChair c n) :=
  s.toChair_keeps c _

theorem State.tellChair?_keeps (c : Option ChairId) (n : Notice) : s.keeps (s.tellChair? c n) :=
  (s.tellChair?_keepsLimits c n).plain (s.tellChair?_sameBut c n).mono

theorem State.tellSup_keeps (n : Notice) : s.keeps (s.tellSup n) :=
  (s.tellSup_keepsLimits n).plain (s.tellSup_sameBut n).mono

theorem State.tellParties_keeps (h : Handover) (n : Notice) : s.keeps (s.tellParties h n) :=
  (s.tellParties_keepsLimits h n).plain (s.tellParties_sameBut h n).mono

theorem State.tellEvicted_keeps (p : Option (ChairId × LoaderId)) (w : WatchPart) :
    s.keeps (s.tellEvicted p w) :=
  (s.tellEvicted_keepsLimits p w).plain (s.tellEvicted_sameBut p w).mono

theorem State.setWatch_keeps (w : WatchTable) : s.keeps { s with watch := w } :=
  (s.setWatch_keepsLimits w).plain (s.setWatch_sameBut w).mono

theorem State.lockPair_keeps (c : ChairId) (l : LoaderId) : s.keeps (s.lockPair c l) :=
  (s.setWatch_keeps _).trans (State.tellEvicted_keeps _ _ _)

theorem State.unlockPair_keeps (c : ChairId) (l : LoaderId) : s.keeps (s.unlockPair c l) :=
  s.setWatch_keeps _

theorem State.placeWatch_keeps (c : ChairId) (l : LoaderId) : s.keeps (s.placeWatch c l) :=
  (s.setWatch_keeps _).trans (State.tellEvicted_keeps _ _ _)

theorem State.vacate_keeps (l : LoaderId) : s.keeps (s.vacate l) := by
  unfold State.vacate
  split
  · exact (s.fillSlot_keeps _ _ _).trans (State.unlockPair_keeps _ _ _)
  · exact .refl s

/-- A change of a handover that leaves its loader and its target. -/
theorem State.setHandover_keeps (k : CtxId) {h h' : Handover} (used : s.handover k = some h)
    (loader : h'.loader = h.loader := by rfl) (target : h'.target = h.target := by rfl) :
    s.keeps (s.setHandover k (some h')) := by
  refine ⟨s.setHandover_keepsLimits k _, (State.sameAuthority.of_parts
    (s.setHandover_sameBut k _).mono (fun _ => rfl) (fun n => ?_) (fun _ => rfl)).keepsAuthority⟩
  by_cases same : n = k
  · subst same
    simp [used, loader, target]
  · rw [State.setHandover_handover_ne _ same]

/-- A change of a zone that leaves its ground and its closure. -/
theorem State.modZone_keeps (z : ZoneId) (f : Zone → Zone)
    (range : (s.zone z).inRange → (f (s.zone z)).inRange := by exact id)
    (closing : (f (s.zone z)).closing = (s.zone z).closing := by rfl)
    (ground : (f (s.zone z)).ground = (s.zone z).ground := by rfl) : s.keeps (s.modZone z f) := by
  refine ⟨s.modZone_keepsLimits z f range closing, (State.sameAuthority.of_parts
    (s.modZone_sameBut z f).mono (fun _ => rfl) (fun _ => rfl) (fun y => ?_)).keepsAuthority⟩
  by_cases same : y = z
  · subst same; rw [State.modZone_zone_self]; exact ground
  · rw [State.modZone_zone_ne _ same]

theorem State.markEntered_keeps (z : ZoneId) : s.keeps (s.markEntered z) := s.modZone_keeps z _

theorem State.raiseAttention_keeps (z : ZoneId) (l : LoaderId) :
    s.keeps (s.raiseAttention z l) := by
  unfold State.raiseAttention
  have flag := s.modZone_keeps z fun x => { x with attention := true }
  split
  · exact .refl s
  · dsimp only
    split
    · exact flag
    · exact flag.trans (State.tellSup_keeps _ _)

theorem State.recordPresence_keeps (l : LoaderId) : s.keeps (s.recordPresence l) := by
  unfold State.recordPresence
  split
  · exact .refl s
  · split
    · exact s.raiseAttention_keeps _ _
    · exact .refl s

end Sys2Proof.Machine
end

section
/-! PROOF. Halts, aborts, closures that complete and the loss of a link keep the laws one by one
(06 R117, 04 R88, 02 R35, 06 R120, R129). -/

namespace Sys2Proof.Machine

-- One theorem after another, so that the compile stays within its memory.
set_option Elab.async false

/-! ## Changes of one loader -/

section

variable {s t : State} {l : LoaderId}

/-- The mode in which a loader with a holder is judged is the one it is held in. -/
theorem State.judgedMode_of_holder {y : Holding} (sound : (s.loader l).sound)
    (authority : (s.loader l).hasAuthority = true) (holder : (s.loader l).holder = some y) :
    s.judgedMode l = y.mode := by
  have mode := sound.mode y holder
  unfold State.judgedMode
  cases state : (s.loader l).state <;> cases m : y.mode <;>
    simp_all [Loader.hasAuthority, LoaderState.hasAuthority, Loader.heldMode]

/-- Out of TRANSFER a loader with authority has a holder. -/
theorem Loader.sound.held {r : Loader} (sound : r.sound) (authority : r.hasAuthority = true)
    (state : r.state ≠ .transfer) : r.holder.isSome = true := by
  refine sound.holder.2 (.inl ?_)
  cases e : r.state <;> simp_all [Loader.hasAuthority, LoaderState.hasAuthority]

theorem Loader.hasAuthority_of_transfer {r : Loader} (h : r.state = .transfer) :
    r.hasAuthority = true := by simp [Loader.hasAuthority, h, LoaderState.hasAuthority]

/-- A loader that stands nowhere in TRANSFER changes: the handovers and the others still name each
other. -/
theorem State.linked.of_out (others : s.otherLoaders l t) (handovers : ∀ k, t.handover k = s.handover k)
    (before : (s.loader l).state ≠ .transfer) (after : (t.loader l).state ≠ .transfer)
    (h : s.linked) : t.linked := by
  constructor
  · intro k x hx
    rw [handovers] at hx
    obtain ⟨state, context⟩ := h.used k x hx
    have ne : x.loader ≠ l := by rintro rfl; exact before state
    rw [others _ ne]
    exact ⟨state, context⟩
  · intro n hn
    have ne : n ≠ l := by rintro rfl; exact after hn
    rw [others n ne] at hn
    obtain ⟨k, x, hk, hx, hl⟩ := h.named n hn
    exact ⟨k, x, by rw [others n ne]; exact hk, by rw [handovers]; exact hx, hl⟩

theorem State.calm.of_loader (others : s.otherLoaders l t)
    (handovers : ∀ k, t.handover k = s.handover k)
    (authority : (s.loader l).hasAuthority = false → (t.loader l).hasAuthority = false)
    (h : s.calm) : t.calm := by
  refine ⟨fun n => ?_, fun k => by rw [handovers]; exact h.handovers k⟩
  by_cases same : n = l
  · subst same; exact authority (h.loaders n)
  · rw [others n same]; exact h.loaders n

/-- One loader changes, with the handovers that name it or come to name it. -/
theorem State.keepsAuthority.of_loader
    (frame : s.sameBut (.loaders :: .handovers :: .zones :: .lamps :: plainParts) t)
    (zones : ∀ z, (t.zone z).ground = (s.zone z).ground)
    (others : s.otherLoaders l t)
    (handovers : s.flightLaws → ∀ k, t.handover k = s.handover k ∨ s.handover k = none ∨
      ∃ x, s.handover k = some x ∧ x.loader = l)
    (lamps : s.lampLaw → t.lampLaw)
    (linked : s.flightLaws → t.linked)
    (sound : s.flightLaws → (t.loader l).sound)
    (ground : s.flightLaws → s.groundedAt l → t.groundedAt l)
    (stop : s.stopAll = true → s.calm → t.calm) : s.keepsAuthority t where
  lamps := lamps
  laws h := by
    refine ⟨linked h, fun n => ?_⟩
    by_cases same : n = l
    · subst same; exact sound h
    · rw [others n same]; exact h.sound n
  ground h n := by
    by_cases same : n = l
    · subst same; exact ground h
    · have record := others n same
      refine State.groundedAt.congr (by rw [record]; exact id) (by rw [record]) (fun _ => ?_) zones
      by_cases transfer : (s.loader n).state = .transfer
      · obtain ⟨k, x, context, used, named⟩ := h.linked.named n transfer
        have still : t.handover k = s.handover k := by
          rcases handovers h k with e | free | ⟨y, hy, hl⟩
          · exact e
          · rw [free] at used; cases used
          · rw [used] at hy; cases hy; exact absurd (named.symm.trans hl) same
        refine State.judgedMode_congr (by rw [record]) (by rw [record]) ?_
        simp only [State.handoverOf, record, context, Option.bind_some, still]
      · simp only [State.judgedMode, record]
        cases state : (s.loader n).state <;> simp_all
  stop := by
    rw [State.stopLaw_iff, State.stopLaw_iff, frame.stopAll]
    exact fun law on => stop on (law on)

/-- Lamps whose loaders keep their authority and their position stay right. -/
theorem State.lampLaw.congr (lamps : t.lamps = s.lamps) (inReset : t.inReset = s.inReset)
    (loaders : ∀ l, (t.loader l).hasAuthority = (s.loader l).hasAuthority ∧
      (t.loader l).position = (s.loader l).position) (h : s.lampLaw) : t.lampLaw := by
  intro run n
  rw [lamps, h (inReset ▸ run) n]
  refine exists_congr fun l => ?_
  rw [(loaders l).1, (loaders l).2]

end

/-! ## Entry to HALTED (06 R117) -/

variable (s : State)

theorem State.enterHaltedWith_keepsLimits (l : LoaderId) (cause : Cause)
    (held : Option HaltRecord) : s.keepsLimits (s.enterHaltedWith l cause held) := by
  rw [s.enterHaltedWith_eq]
  exact ((((s.vacate_keeps l).limits.trans (State.modLoader_keepsLimits _ l _)).trans
    (State.emitHold_keeps _ l).limits).trans (State.tellHalted_keepsLimits _ _ _ _)).trans
    (State.updateLamps_keepsLimits _)

theorem State.enterHaltedWith_state (l : LoaderId) (cause : Cause) (held : Option HaltRecord) :
    ((s.enterHaltedWith l cause held).loader l).state = .halted := by
  rw [s.enterHaltedWith_loader]; rfl

theorem Loader.sound.of_unheld {r : Loader} (state : r.state ∈ [LoaderState.unenrolled, .parked,
    .halted, .isolated]) (holder : r.holder = none) : r.sound := by
  constructor
  · intro h; rw [h] at state; simp at state
  · simp only [List.mem_cons, List.not_mem_nil, or_false] at state
    rcases state with h | h | h | h <;> simp [h, holder]
  · rw [holder]; rintro y ⟨⟩

theorem Loader.noAuthority {r : Loader} (state : r.state ∈ [LoaderState.unenrolled, .parked,
    .halted, .isolated]) : r.hasAuthority = false := by
  simp only [List.mem_cons, List.not_mem_nil, or_false] at state
  rcases state with h | h | h | h <;> simp [Loader.hasAuthority, h, LoaderState.hasAuthority]

theorem State.enterHaltedWith_keeps (l : LoaderId) (cause : Cause) (held : Option HaltRecord)
    (out : s.flightLaws → (s.loader l).state ≠ .transfer) :
    s.keeps (s.enterHaltedWith l cause held) := by
  have frame := s.enterHaltedWith_sameBut l cause held
  have others : s.otherLoaders l (s.enterHaltedWith l cause held) := fun n ne =>
    s.enterHaltedWith_loader_ne ne cause held
  have state := s.enterHaltedWith_state l cause held
  have none_left : ((s.enterHaltedWith l cause held).loader l).hasAuthority = false :=
    Loader.noAuthority (by simp [state])
  refine ⟨s.enterHaltedWith_keepsLimits l cause held, .of_loader frame.mono
    (fun z => by rw [frame.zone z]) others (fun _ k => .inl (frame.handover k))
    (fun _ => (s.enterHaltedWith_shown l cause held).lampLaw)
    (fun h => h.linked.of_out others (fun k => frame.handover k) (out h) (by simp [state]))
    (fun _ => .of_unheld (by simp [state]) (by rw [s.enterHaltedWith_loader]; rfl))
    (fun _ _ => .of_noAuthority none_left)
    fun _ calm => calm.of_loader others (fun k => frame.handover k) fun _ => none_left⟩

theorem State.enterHalted_keeps (l : LoaderId) (cause : Cause)
    (out : s.flightLaws → (s.loader l).state ≠ .transfer) : s.keeps (s.enterHalted l cause) :=
  s.enterHaltedWith_keeps l cause none out

/-- The lamps and STOP_ALL ask nothing of the handovers. -/
theorem State.keeps.of_laws {s t : State} (limits : s.keepsLimits t)
    (lamps : s.lampLaw → t.lampLaw) (stop : s.stopLaw → t.stopLaw)
    (h : s.flightLaws → s.keeps t) : s.keeps t :=
  ⟨limits, lamps, fun laws => (h laws).authority.laws laws,
    fun laws => (h laws).authority.ground laws, stop⟩

/-- What each step of a fold keeps, the fold keeps. -/
theorem foldl_keeps {α : Type} {P : State → Prop} {f : State → α → State}
    (h : ∀ s x, P s → P (f s x)) (xs : List α) (s : State) : P s → P (xs.foldl f s) := by
  induction xs generalizing s with
  | nil => exact id
  | cons x xs ih => exact ih (f s x) ∘ h s x

theorem State.enterHaltedWith_stopLaw (l : LoaderId) (cause : Cause) (held : Option HaltRecord)
    (h : s.stopLaw) : (s.enterHaltedWith l cause held).stopLaw := by
  have frame := s.enterHaltedWith_sameBut l cause held
  rw [State.stopLaw_iff] at h ⊢
  rw [frame.stopAll]
  exact fun on => (h on).of_loader (fun n ne => s.enterHaltedWith_loader_ne ne cause held)
    (fun k => frame.handover k) fun _ => Loader.noAuthority (by simp [s.enterHaltedWith_state])

/-- Loaders that stand in no handover are halted one after another. -/
theorem State.haltAll_keeps (ls : List LoaderId) (cause : Cause)
    (out : s.flightLaws → ∀ l ∈ ls, (s.loader l).state ≠ .transfer) :
    s.keeps (s.haltAll ls cause) := by
  refine .of_laws (.foldl (fun s l => s.enterHaltedWith_keepsLimits l cause none) ls s)
    (foldl_keeps (P := State.lampLaw)
      (fun s l _ => (s.enterHaltedWith_shown l cause none).lampLaw) ls s)
    (foldl_keeps (P := State.stopLaw)
      (fun s l => s.enterHaltedWith_stopLaw l cause none) ls s) fun laws => ?_
  replace out := out laws
  induction ls generalizing s with
  | nil => exact .refl s
  | cons l ls ih =>
    have first := s.enterHalted_keeps l cause fun _ => out l (by simp)
    refine first.trans (ih (s.enterHalted l cause) (first.authority.laws laws) fun n hn => ?_)
    by_cases same : n = l
    · subst same
      have halted := s.enterHaltedWith_state n cause none
      rw [State.enterHalted, halted]
      decide
    · rw [s.enterHalted_loader_ne cause same]
      exact out n (by simp [hn])

/-! ## Aborts (04 R87 to R89) -/

theorem Loader.reverted_core (r : Loader) (prior : LoaderState) (h : Handover) (n : Nat) :
    (r.reverted prior h n).core = ⟨prior, r.holder, none, none, r.position⟩ := by
  cases prior <;> rfl

theorem Loader.orphaned_core (r : Loader) (n : Nat) :
    (r.orphaned n).core = ⟨.orphaned, r.holder, none, none, r.position⟩ := rfl

/-- Only the loss of the releasing chair's link orphans a loader, and only one held in supervised
mode (04 R87). -/
theorem State.fateOf_orphan {h : Handover} {e : AbortEvent} (fate : s.fateOf h e = .orphan) :
    (s.loader h.loader).heldMode = some .supervised ∧ 0 < s.params.orphanGrace := by
  cases e <;> simp [State.fateOf, AbortEvent.fate] at fate
  exact ⟨fate.1, Nat.pos_of_ne_zero fate.2⟩

theorem State.revertToDriven_keepsLimits (l : LoaderId) (phase : Phase) :
    s.keepsLimits (s.revertToDriven l phase) := by
  have left := s.modLoader_keepsLimits l (·.left .driven)
  rw [s.revertToDriven_eq]
  refine .trans ?_ (State.settleRefresh_keeps _ _).limits
  split
  · have lapse := left.trans (State.startLapse_keeps _ l).limits
    split
    · exact lapse.trans (State.modSlot_keepsLimits _ _ _ _)
    · exact lapse
  · exact left

theorem State.revertTo_keepsLimits (l : LoaderId) (prior : LoaderState) (h : Handover) :
    s.keepsLimits (s.revertTo l prior h) := by
  have stop := fun (f : Loader → Loader) (range : (s.loader l).inRange → (f (s.loader l)).inRange) =>
    (s.modLoader_keepsLimits l f range).trans (State.stopLapse_keeps _ l).limits
  unfold State.revertTo
  split
  · exact s.revertToDriven_keepsLimits l _
  · exact (stop _ id).trans (State.emitHold_keeps _ l).limits
  · exact (stop _ id).trans (State.emitHold_keeps _ l).limits
  · exact (stop _ id).trans (State.settleRefresh_keeps _ l).limits

theorem State.orphan_keepsLimits (l : LoaderId) : s.keepsLimits (s.orphan l) :=
  ((s.modLoader_keepsLimits l _).trans (State.stopLapse_keeps _ l).limits).trans
    (State.settleRefresh_keeps _ l).limits

theorem State.leaveTransfer_keepsLimits (l : LoaderId) (f : Fate) (prior : LoaderState)
    (h : Handover) : s.keepsLimits (s.leaveTransfer l f prior h) := by
  cases f
  · exact s.revertTo_keepsLimits l prior h
  · exact s.orphan_keepsLimits l
  · exact .refl s

theorem State.dropReservation_keepsLimits (h : Handover) :
    s.keepsLimits (s.dropReservation h) := by
  unfold State.dropReservation
  dsimp only
  refine .trans ?_ (State.unlockPair_keeps _ _ _).limits
  split
  · exact s.fillSlot_keepsLimits _ _ _
  · exact .refl s

theorem State.abort_keepsLimits (k : CtxId) (e : AbortEvent) : s.keepsLimits (s.abort k e) := by
  cases used : s.handover k with
  | none => rw [State.abort_of_free s used]; exact .refl s
  | some h =>
    have begun : s.keepsLimits (s.abortBegun k h e) :=
      ((((s.dropReservation_keepsLimits h).trans
        (State.leaveTransfer_keepsLimits _ _ _ _ _)).trans
        (State.tellParties_keepsLimits _ _ _)).trans
        (State.tellSup_keepsLimits _ _)).trans (State.setHandover_keepsLimits _ _ _)
    rw [s.abort_eq used]
    split
    · exact begun.trans (State.enterHaltedWith_keepsLimits _ _ _ _)
    · exact begun.trans (State.updateLamps_keepsLimits _)

/-- What an abort leaves of the core of its loader's record. -/
theorem State.abort_core {s : State} {k : CtxId} {h : Handover} (used : s.handover k = some h)
    (e : AbortEvent) :
    ((s.abort k e).loader h.loader).core =
      match s.fateOf h e with
      | .halt _ => ⟨.halted, none, none, none, (s.loader h.loader).position⟩
      | .orphan => ⟨.orphaned, (s.loader h.loader).holder, none, none,
          (s.loader h.loader).position⟩
      | .revert => ⟨s.priorOf h.loader, (s.loader h.loader).holder, none, none,
          (s.loader h.loader).position⟩ := by
  rw [State.abort_loader used]
  cases s.fateOf h e with
  | halt cause => rfl
  | orphan => exact Loader.orphaned_core _ _
  | revert => exact Loader.reverted_core _ _ _ _

/-- The prior state of a loader in TRANSFER, which its abort reads. -/
theorem State.priorOf_sound {l : LoaderId} (sound : (s.loader l).sound)
    (transfer : (s.loader l).state = .transfer) :
    (s.loader l).prior = some (s.priorOf l) ∧
      s.priorOf l ∈ [LoaderState.parked, .driven, .supervised, .orphaned, .halted] := by
  have prior := sound.prior transfer
  unfold State.priorOf
  cases e : (s.loader l).prior <;> simp_all

/-- A record that reads a core has what the core says of it. -/
theorem Loader.core_eq {r : Loader} {state : LoaderState} {holder : Option Holding}
    {prior : Option LoaderState} {context : Option CtxId} {position : Option Position}
    (h : r.core = ⟨state, holder, prior, context, position⟩) :
    r.state = state ∧ r.holder = holder ∧ r.prior = prior ∧ r.context = context ∧
      r.position = position := by
  simpa [Loader.core] using h

/-- A loader in TRANSFER that goes back to its prior state keeps its holder soundly. -/
theorem Loader.sound.back {r r' : Loader} {p : LoaderState} (sound : r.sound)
    (transfer : r.state = .transfer) (prior : r.prior = some p)
    (back : r'.core = ⟨p, r.holder, none, none, r.position⟩) : r'.sound := by
  obtain ⟨state, holder, prior', -, -⟩ := Loader.core_eq back
  have priors := sound.prior transfer
  obtain ⟨-, held, mode⟩ := sound
  rw [transfer, prior] at held mode
  rw [prior] at priors
  constructor
  · rw [state]; rintro rfl; simp at priors
  · rw [state, holder, held]
    simp only [List.mem_cons, List.not_mem_nil, or_false, Option.some.injEq] at priors
    rcases priors with rfl | rfl | rfl | rfl | rfl <;> simp
  · rw [state, holder]
    intro y hy
    rw [mode y hy]
    simp only [List.mem_cons, List.not_mem_nil, or_false, Option.some.injEq] at priors
    rcases priors with rfl | rfl | rfl | rfl | rfl <;> simp

/-- A loader held in supervised mode becomes ORPHANED soundly. -/
theorem Loader.sound.of_supervised {r' : Loader} {y : Holding} {p : Option Position}
    {state : LoaderState} (state_mem : state ∈ [LoaderState.supervised, .orphaned])
    {prior : Option LoaderState} {context : Option CtxId} (mode : y.mode = .supervised)
    (core : r'.core = ⟨state, some y, prior, context, p⟩) : r'.sound := by
  obtain ⟨hstate, holder, -, -, -⟩ := Loader.core_eq core
  simp only [List.mem_cons, List.not_mem_nil, or_false] at state_mem
  constructor
  · rcases state_mem with rfl | rfl <;> simp [hstate]
  · rcases state_mem with rfl | rfl <;> simp [hstate, holder]
  · rw [holder]
    rintro z ⟨⟩
    rcases state_mem with rfl | rfl <;> simp [hstate, mode]

theorem State.abort_state_ne_transfer {s : State} {k : CtxId} {h : Handover}
    (used : s.handover k = some h) (e : AbortEvent) (laws : s.flightLaws) :
    ((s.abort k e).loader h.loader).state ≠ .transfer := by
  have core := State.abort_core used e
  have prior := (s.priorOf_sound (laws.sound h.loader) (laws.linked.used k h used).1).2
  cases fate : s.fateOf h e <;> rw [fate] at core <;> rw [(Loader.core_eq core).1]
  · intro e
    rw [e] at prior
    simp at prior
  · decide
  · decide

theorem State.abort_sound {s : State} {k : CtxId} {h : Handover} (used : s.handover k = some h)
    (e : AbortEvent) (laws : s.flightLaws) : ((s.abort k e).loader h.loader).sound := by
  have core := State.abort_core used e
  have transfer := (laws.linked.used k h used).1
  have sound := laws.sound h.loader
  cases fate : s.fateOf h e <;> rw [fate] at core
  · exact sound.back transfer (s.priorOf_sound sound transfer).1 core
  · obtain ⟨y, holder, mode⟩ := Option.map_eq_some_iff.1 (s.fateOf_orphan fate).1
    rw [holder] at core
    exact .of_supervised (by simp) mode core
  · obtain ⟨state, holder, -, -, -⟩ := Loader.core_eq core
    exact .of_unheld (by simp [state]) holder

/-- An abort that leaves its loader authority leaves it the mode it was judged in. -/
theorem State.abort_judgedMode {s : State} {k : CtxId} {h : Handover}
    (used : s.handover k = some h) (e : AbortEvent) (laws : s.flightLaws)
    (authority : ((s.abort k e).loader h.loader).hasAuthority = true) :
    (s.abort k e).judgedMode h.loader = s.judgedMode h.loader := by
  have core := State.abort_core used e
  have sound := State.abort_sound used e laws
  have held := sound.held authority (State.abort_state_ne_transfer used e laws)
  obtain ⟨y, hy⟩ := Option.isSome_iff_exists.1 held
  have same : (s.loader h.loader).holder = some y := by
    rw [← hy]
    cases fate : s.fateOf h e <;> rw [fate] at core
    · exact (Loader.core_eq core).2.1.symm
    · exact (Loader.core_eq core).2.1.symm
    · rw [(Loader.core_eq core).2.1] at hy; cases hy
  rw [State.judgedMode_of_holder sound authority hy, State.judgedMode_of_holder
    (laws.sound h.loader) (Loader.hasAuthority_of_transfer (laws.linked.used k h used).1) same]

theorem State.abort_position {s : State} {k : CtxId} {h : Handover} (used : s.handover k = some h)
    (e : AbortEvent) :
    ((s.abort k e).loader h.loader).position = (s.loader h.loader).position := by
  have core := State.abort_core used e
  cases fate : s.fateOf h e <;> rw [fate] at core <;> exact (Loader.core_eq core).2.2.2.2

theorem State.abort_linked {s : State} {k : CtxId} {h : Handover} (used : s.handover k = some h)
    (e : AbortEvent) (laws : s.flightLaws) : (s.abort k e).linked := by
  have out := State.abort_state_ne_transfer used e laws
  obtain ⟨-, context⟩ := laws.linked.used k h used
  constructor
  · intro n x hx
    rw [State.abort_handover used] at hx
    split at hx
    · cases hx
    · next ne =>
      obtain ⟨state, named⟩ := laws.linked.used n x hx
      have other : x.loader ≠ h.loader := by
        intro same
        rw [same, context] at named
        exact ne (Option.some.inj named).symm
      rw [State.abort_loader_ne used e other]
      exact ⟨state, named⟩
  · intro l hl
    have other : l ≠ h.loader := by rintro rfl; exact out hl
    rw [State.abort_loader_ne used e other] at hl ⊢
    obtain ⟨n, x, named, hx, same⟩ := laws.linked.named l hl
    refine ⟨n, x, named, ?_, same⟩
    rw [State.abort_handover used, if_neg, hx]
    rintro rfl
    rw [used] at hx
    cases hx
    exact other same.symm

theorem State.abort_keeps (k : CtxId) (e : AbortEvent) : s.keeps (s.abort k e) := by
  cases used : s.handover k with
  | none => rw [State.abort_of_free s used]; exact .refl s
  | some h =>
    have frame := s.abort_sameBut k e
    refine ⟨s.abort_keepsLimits k e, .of_loader (l := h.loader) frame.mono
      (fun z => by rw [frame.zone z]) (fun n ne => State.abort_loader_ne used e ne)
      (fun _ n => ?_) (fun _ => (State.abort_shown used e).lampLaw)
      (State.abort_linked used e) (State.abort_sound used e) (fun laws ground => ?_)
      (fun _ calm => absurd (calm.handovers k) (by simp [used]))⟩
    · rw [State.abort_handover used]
      split
      · next same => exact .inr (.inr ⟨h, same ▸ used, rfl⟩)
      · exact .inl rfl
    · exact ground.congr
        (fun _ => Loader.hasAuthority_of_transfer (laws.linked.used k h used).1)
        (State.abort_position used e) (State.abort_judgedMode used e laws)
        fun z => by rw [frame.zone z]

theorem State.abortAll_keeps (ks : List CtxId) (e : CtxId → AbortEvent) :
    s.keeps (s.abortAll ks e) := .foldl (fun s k => s.abort_keeps k (e k)) ks s

theorem State.haltLoader_keeps (l : LoaderId) (cause : Cause) (e : AbortEvent) :
    s.keeps (s.haltLoader l cause e) := by
  unfold State.haltLoader
  split
  · split
    · exact s.abort_keeps _ _
    · exact .refl s
  all_goals first
    | exact .refl s
    | next state => exact s.enterHalted_keeps l cause fun _ => by simp [state]

end Sys2Proof.Machine
end

section
/-! PROOF. Closures, chair stops, lost links, recoveries, grants and handovers keep the laws one by
one (02 R35, 06 R120, R123, R129, 03 R53, 04 R66, R79). -/

namespace Sys2Proof.Machine

-- One theorem after another, so that the compile stays within its memory.
set_option Elab.async false

/-! ## Lists of loaders and contexts -/

variable (s : State)

theorem State.mem_contextsWhere {p : Handover → Bool} {k : CtxId} :
    k ∈ s.contextsWhere p ↔ ∃ x, s.handover k = some x ∧ p x = true := by
  simp [State.contextsWhere, Option.any_eq_true]

theorem State.mem_loadersWhere {p : Loader → Bool} {l : LoaderId} :
    l ∈ s.loadersWhere p ↔ p (s.loader l) = true := by simp [State.loadersWhere]

theorem State.abort_handover_eq (k n : CtxId) (e : AbortEvent) :
    (s.abort k e).handover n = if n = k then none else s.handover n := by
  cases used : s.handover k with
  | none =>
    rw [State.abort_of_free s used]
    split
    · next same => rw [same, used]
    · rfl
  | some h => exact State.abort_handover used e n

theorem State.abortAll_handover (ks : List CtxId) (e : CtxId → AbortEvent) (n : CtxId) :
    (s.abortAll ks e).handover n = if n ∈ ks then none else s.handover n := by
  induction ks generalizing s with
  | nil => rfl
  | cons k ks ih =>
    have step : s.abortAll (k :: ks) e = (s.abort k (e k)).abortAll ks e := rfl
    rw [step, ih, State.abort_handover_eq]
    by_cases same : n = k <;> by_cases rest : n ∈ ks <;> simp [same, rest]

/-- Once the handovers of some loaders are aborted, none of these loaders is in TRANSFER. -/
theorem State.abortAll_out {p : Handover → Bool} (e : CtxId → AbortEvent) (laws : s.flightLaws)
    {l : LoaderId} (mine : ∀ k x, s.handover k = some x → x.loader = l → p x = true) :
    ((s.abortAll (s.contextsWhere p) e).loader l).state ≠ .transfer := by
  intro transfer
  obtain ⟨k, x, -, used, named⟩ :=
    ((s.abortAll_keeps (s.contextsWhere p) e).authority.laws laws).linked.named l transfer
  rw [State.abortAll_handover] at used
  split at used
  · cases used
  · next out => exact out (s.mem_contextsWhere.2 ⟨x, used, mine k x used named⟩)

theorem State.takeAuthority_keeps (ls : List LoaderId) (e : AbortEvent) :
    s.keeps (s.takeAuthority ls e) := by
  have aborts := s.abortAll_keeps (s.contextsWhere fun h => ls.contains h.loader) fun _ => e
  have halts := fun out => (s.abortAll (s.contextsWhere fun h => ls.contains h.loader)
    fun _ => e).haltAll_keeps ((s.abortAll (s.contextsWhere fun h => ls.contains h.loader)
      fun _ => e).withAuthority ls) e.cause out
  refine .of_laws ?_ ?_ ?_ fun laws => ?_
  · exact aborts.limits.trans (.foldl (fun s l => s.enterHaltedWith_keepsLimits l _ none) _ _)
  · exact foldl_keeps (P := State.lampLaw)
      (fun s l _ => (s.enterHaltedWith_shown l _ none).lampLaw) _ _ ∘ aborts.authority.lamps
  · exact foldl_keeps (P := State.stopLaw)
      (fun s l => s.enterHaltedWith_stopLaw l _ none) _ _ ∘ aborts.authority.stop
  · refine aborts.trans (halts fun _ l hl => s.abortAll_out _ laws fun k x _ named => ?_)
    rw [named]
    exact List.contains_iff_mem.2 (List.mem_filter.1 hl).1

theorem State.furtherAll_keeps (ls : List LoaderId) (cause : Cause) :
    s.keeps (s.furtherAll ls cause) := .foldl (fun s l => s.modLoader_keeps_of_core l _) ls s

/-! ## Zones that close (02 R35) -/

/-- A change of one zone keeps the laws of authority where every loader with authority in it stands
on its new ground. -/
theorem State.modZone_keepsAuthority (z : ZoneId) (f : Zone → Zone)
    (stands : s.flightLaws → ∀ l, (s.loader l).hasAuthority = true →
      ∀ p ∈ (s.loader l).position, p.zone = z → s.groundedAt l →
      (f (s.zone z)).cls.open (s.judgedMode l) = true ∧ (f (s.zone z)).holdsSegment p = true) :
    s.keepsAuthority (s.modZone z f) where
  lamps := id
  laws h := ⟨⟨h.linked.used, h.linked.named⟩, h.sound⟩
  stop := id
  ground laws l ground has := by
    obtain ⟨p, hp, cls, inside⟩ := ground has
    refine ⟨p, hp, ?_⟩
    by_cases same : p.zone = z
    · subst same
      rw [State.modZone_zone_self]
      exact stands laws l has p hp rfl ground
    · rw [State.modZone_zone_ne _ same]
      exact ⟨cls, inside⟩

theorem State.authorityIn_nil {z : ZoneId} (h : (s.authorityIn z).isEmpty = true) (l : LoaderId)
    (has : (s.loader l).hasAuthority = true) {p : Position} (hp : p ∈ (s.loader l).position) :
    p.zone ≠ z := by
  intro same
  have : l ∈ s.authorityIn z := s.mem_loadersWhere.2 (by
    simp [has, Loader.inZone, Option.mem_def.1 hp, same])
  simp [List.isEmpty_iff.1 h] at this

theorem State.completeClosure_keeps (z : ZoneId) (k : ClosureId) (n : Nat)
    (own : (s.zone z).closing = some k ∨ ∃ x, s.closure k = some x ∧ x.zone = z)
    (empty : (s.authorityIn z).isEmpty = true) : s.keeps (s.completeClosure z k n) := by
  refine .trans ⟨s.setClosing_keepsLimits z k none _ (fun h => h)
    (s.endClosing_closureLaw z k _ rfl own), ?_⟩ (State.tellSup_keeps _ _)
  have plain := (State.sameAuthority.of_plain (s.setClosure_sameBut k none).mono).keepsAuthority
  exact plain.trans (State.modZone_keepsAuthority _ z _
    fun _ l has p hp same _ => absurd same (s.authorityIn_nil empty l has hp))

theorem State.checkClosure_keeps (z : ZoneId) (n : Nat) : s.keeps (s.checkClosure z n) := by
  unfold State.checkClosure
  split
  · next k closing =>
    split
    · next empty => exact s.completeClosure_keeps z k n (.inl closing) empty
    · exact .refl s
  · exact .refl s

theorem State.checkClosure?_keeps (z : Option ZoneId) : s.keeps (s.checkClosure? z) := by
  cases z
  · exact .refl s
  · exact s.checkClosure_keeps _ _

theorem State.checkZoneOf_keeps (l : LoaderId) : s.keeps (s.checkZoneOf l) :=
  s.checkClosure?_keeps _

theorem State.checkClosures_keeps (p : ZoneId → Bool) : s.keeps (s.checkClosures p) := by
  refine .foldl (fun s k => ?_) _ s
  split
  · split
    · exact s.checkClosure_keeps _ _
    · exact .refl s
  · exact .refl s

theorem State.abortAlone_keeps (k : CtxId) (e : AbortEvent) : s.keeps (s.abortAlone k e) := by
  unfold State.abortAlone
  split
  · exact .refl s
  · exact (s.abort_keeps k e).trans (State.checkZoneOf_keeps _ _)

/-! ## Chair stops and lost links (06 R120, R129) -/

theorem State.pressStop_keeps (c : ChairId) : s.keeps (s.pressStop c) := by
  unfold State.pressStop
  refine ((s.abortAll_keeps _ _).trans (State.haltAll_keeps _ _ _ fun _ l hl => ?_)).trans
    (State.checkClosures_keeps _ _)
  have := (State.mem_loadersWhere _).1 hl
  simp only [Bool.and_eq_true, bne_iff_ne] at this
  exact this.1.2

theorem State.takePanel_keeps (c : ChairId) (panel : Byte) : s.keeps (s.takePanel c panel) := by
  unfold State.takePanel
  dsimp only
  have panel := s.modChair_keeps c fun r =>
    { r with stop := panelStop panel, neutral := panelNeutral panel }
  split
  · exact panel.trans (State.pressStop_keeps _ _)
  · exact panel

theorem Loader.sound.mode_of_state {r : Loader} (sound : r.sound)
    (state : r.state ∈ [LoaderState.supervised, .orphaned]) :
    ∃ y, r.holder = some y ∧ y.mode = .supervised := by
  simp only [List.mem_cons, List.not_mem_nil, or_false] at state
  obtain ⟨y, hy⟩ := Option.isSome_iff_exists.1 (sound.holder.2 (.inl (by
    rcases state with h | h <;> simp [h])))
  refine ⟨y, hy, ?_⟩
  have mode := sound.mode y hy
  cases m : y.mode
  · rcases state with h | h <;> simp [h, m] at mode
  · rfl

/-- A change between the states SUPERVISED and ORPHANED keeps the laws of authority. -/
theorem State.keepsAuthority.of_supervised {s t : State} {l : LoaderId}
    (frame : s.sameBut [.loaders] t) (others : s.otherLoaders l t)
    (before : (s.loader l).state ∈ [LoaderState.supervised, .orphaned])
    (after : (t.loader l).state ∈ [LoaderState.supervised, .orphaned])
    (holder : (t.loader l).holder = (s.loader l).holder)
    (position : (t.loader l).position = (s.loader l).position) : s.keepsAuthority t := by
  simp only [List.mem_cons, List.not_mem_nil, or_false] at before after
  have authority : (t.loader l).hasAuthority = (s.loader l).hasAuthority := by
    rcases before with b | b <;> rcases after with a | a <;>
      simp [Loader.hasAuthority, a, b, LoaderState.hasAuthority]
  refine .of_loader frame.mono (fun z => by rw [frame.zone z]) others
    (fun _ k => .inl (frame.handover k)) (State.lampLaw.congr frame.lamps frame.inReset fun n => ?_)
    (fun laws => laws.linked.of_out others (fun k => frame.handover k) ?_ ?_) (fun laws => ?_)
    (fun laws ground => ground.congr (by rw [authority]; exact id) position (fun _ => ?_)
      fun z => by rw [frame.zone z])
    fun _ calm => calm.of_loader others (fun k => frame.handover k) (by rw [authority]; exact id)
  · by_cases same : n = l
    · subst same; exact ⟨authority, position⟩
    · rw [others n same]; exact ⟨rfl, rfl⟩
  · rcases before with b | b <;> simp [b]
  · rcases after with a | a <;> simp [a]
  · obtain ⟨y, held, mode⟩ := (laws.sound l).mode_of_state (by simpa using before)
    exact .of_supervised (by simpa using after) mode (y := y) (by
      rw [Loader.core, holder, held])
  · unfold State.judgedMode
    rcases before with b | b <;> rcases after with a | a <;> simp [a, b]

theorem State.orphan_keeps (l : LoaderId) (state : (s.loader l).state = .supervised) :
    s.keeps (s.orphan l) := by
  refine ⟨s.orphan_keepsLimits l, .of_supervised (s.orphan_sameBut l)
    (fun n ne => s.orphan_loader_ne ne) (by simp [state]) ?_ ?_ ?_⟩ <;> rw [s.orphan_loader]
  · simp [Loader.orphaned, Loader.left]
  · rfl
  · rfl

theorem State.loseLoader_keeps (l : LoaderId) : s.keeps (s.loseLoader l) := by
  unfold State.loseLoader
  split
  · next state => exact s.enterHalted_keeps l _ fun _ => by simp [state]
  · next state =>
    split
    · exact s.orphan_keeps l state
    · exact s.enterHalted_keeps l _ fun _ => by simp [state]
  · exact .refl s

theorem ChairLink.law.lost {k : ChairLink} (law : k.law) (ps : Params) :
    ChairLink.law { k.restartSilence ps with state := .lost, run := 0 } := by
  obtain ⟨errors, tally, run, bad, -, -⟩ := law
  exact ⟨errors, tally, Nat.zero_le _, bad, by simp [ChairLink.restartSilence], by simp⟩

theorem OutQueue.law.emptied {q : OutQueue} (law : q.law) : q.emptied.law :=
  law.of_sublist (List.nil_sublist _) id

theorem State.loseLink_keeps (c : ChairId) : s.keeps (s.loseLink c) := by
  unfold State.loseLink
  dsimp only
  exact ((((((s.modLink_keeps c _ fun law => law.lost _).trans
    (State.abortAll_keeps _ _ _)).trans
    (.foldl (fun s l => s.loseLoader_keeps l) _ _)).trans
    (State.checkClosures_keeps _ _)).trans
    (State.setWatch_keeps _ _)).trans
    (State.modQueue_keeps _ _ _ fun law => law.emptied)).trans
    (State.tellSup_keeps _ _)

/-! ## Recovery (06 R123, 08 R154) -/

theorem State.returnOrphan_keeps (l : LoaderId)
    (state : (s.loader l).state ∈ [LoaderState.supervised, .orphaned]) :
    s.keeps (s.returnOrphan l) := by
  refine ⟨s.modLoader_keepsLimits l _, .of_supervised (l := l) (s.modLoader_sameBut l _)
    (fun n ne => by simp [State.returnOrphan, ne]) state ?_ ?_ ?_⟩ <;>
  simp [State.returnOrphan]

theorem State.returnOrphans_keeps (ls : List LoaderId)
    (states : ∀ l ∈ ls, (s.loader l).state ∈ [LoaderState.supervised, .orphaned]) :
    s.keeps (ls.foldl State.returnOrphan s) := by
  induction ls generalizing s with
  | nil => exact .refl s
  | cons l ls ih =>
    refine (s.returnOrphan_keeps l (states l (by simp))).trans (ih _ fun n hn => ?_)
    by_cases same : n = l
    · subst same; simp [State.returnOrphan]
    · simpa [State.returnOrphan, same] using states n (by simp [hn])

theorem State.rejoin_eq {c : ChairId} {k : CtxId} {h : Handover} (used : s.handover k = some h) :
    s.rejoin c k = (s.modLoader h.loader fun r =>
      { r with prior := some .supervised, grace := none }).setHandover k
        (some { h with releasing := some c }) := by
  simp [State.rejoin, used]

theorem State.rejoin_loader_ne {c : ChairId} {k : CtxId} {h : Handover}
    (used : s.handover k = some h) {n : LoaderId} (ne : n ≠ h.loader) :
    (s.rejoin c k).loader n = s.loader n := by
  rw [s.rejoin_eq used, State.setHandover_loader, State.modLoader_loader_ne _ ne]

theorem State.rejoin_loader {c : ChairId} {k : CtxId} {h : Handover}
    (used : s.handover k = some h) :
    (s.rejoin c k).loader h.loader =
      { s.loader h.loader with prior := some .supervised, grace := none } := by
  rw [s.rejoin_eq used, State.setHandover_loader, State.modLoader_loader_self]

theorem State.rejoin_handover {c : ChairId} {k : CtxId} {h : Handover}
    (used : s.handover k = some h) (n : CtxId) :
    (s.rejoin c k).handover n =
      if n = k then some { h with releasing := some c } else s.handover n := by
  rw [s.rejoin_eq used]
  split
  · next same => rw [same, State.setHandover_handover_self]
  · next ne => rw [State.setHandover_handover_ne _ ne]; rfl

theorem State.rejoin_keeps (c : ChairId) (k : CtxId)
    (prior : ∀ h, s.handover k = some h →
      (s.loader h.loader).prior ∈ [some LoaderState.supervised, some .orphaned]) :
    s.keeps (s.rejoin c k) := by
  cases used : s.handover k with
  | none => simp only [State.rejoin, used]; exact .refl s
  | some h =>
    replace prior := prior h used
    simp only [List.mem_cons, List.not_mem_nil, or_false] at prior
    have frame : s.sameBut [.loaders, .handovers] (s.rejoin c k) := by
      rw [s.rejoin_eq used]
      exact (s.modLoader_sameBut _ _).mono.trans (State.setHandover_sameBut _ _ _).mono
    have record := s.rejoin_loader (c := c) used
    have others : s.otherLoaders h.loader (s.rejoin c k) := fun n ne => s.rejoin_loader_ne used ne
    refine ⟨?_, .of_loader (l := h.loader) frame.mono (fun z => by rw [frame.zone z]) others
      (fun _ n => ?_) (State.lampLaw.congr frame.lamps frame.inReset fun n => ?_) (fun laws => ?_)
      (fun laws => ?_) (fun laws ground => ground.congr (by rw [record]; exact id) (by rw [record])
        (fun _ => ?_) fun z => by rw [frame.zone z])
      fun _ calm => absurd (calm.handovers k) (by simp [used])⟩
    · rw [s.rejoin_eq used]
      exact (s.modLoader_keepsLimits _ _).trans (State.setHandover_keepsLimits _ _ _)
    · rw [s.rejoin_handover used]
      split
      · next same => exact .inr (.inr ⟨h, same ▸ used, rfl⟩)
      · exact .inl rfl
    · by_cases same : n = h.loader
      · subst same; rw [record]; exact ⟨rfl, rfl⟩
      · rw [others n same]; exact ⟨rfl, rfl⟩
    · refine laws.linked.congr (fun n => ?_) fun n => ?_
      · by_cases same : n = h.loader
        · subst same; rw [record]; exact ⟨rfl, rfl⟩
        · rw [others n same]; exact ⟨rfl, rfl⟩
      · rw [s.rejoin_handover used]
        split
        · next same => rw [same, used]; rfl
        · rfl
    · obtain ⟨a, b, m⟩ := laws.sound h.loader
      rw [record]
      constructor
      · intro _; simp
      · dsimp only; rw [b]; rcases prior with e | e <;> simp [e]
      · dsimp only; intro y hy; rw [m y hy]; rcases prior with e | e <;> simp [e]
    · refine State.judgedMode_congr (by rw [record]) (by rw [record])
        (State.handoverOf_target_congr (by rw [record]) fun n => ?_)
      rw [s.rejoin_handover used]
      split
      · next same => rw [same, used]; rfl
      · rfl

theorem State.rejoins_keeps (c : ChairId) (ks : List CtxId)
    (priors : ∀ k ∈ ks, ∀ h, s.handover k = some h →
      (s.loader h.loader).prior ∈ [some LoaderState.supervised, some .orphaned]) :
    s.keeps (ks.foldl (fun s k => s.rejoin c k) s) := by
  induction ks generalizing s with
  | nil => exact .refl s
  | cons k ks ih =>
    refine (s.rejoin_keeps c k (priors k (by simp))).trans (ih _ fun n hn h hh => ?_)
    cases used : s.handover k with
    | none =>
      simp only [State.rejoin, used] at hh ⊢
      exact priors n (by simp [hn]) h hh
    | some x =>
      rw [s.rejoin_handover used] at hh
      by_cases same : h.loader = x.loader
      · rw [same, s.rejoin_loader used]; simp
      · rw [s.rejoin_loader_ne used same]
        split at hh
        · cases hh; exact absurd rfl same
        · exact priors n (by simp [hn]) h hh

theorem State.tellForced_keeps (c : ChairId) (k : CtxId) : s.keeps (s.tellForced c k) := by
  unfold State.tellForced
  split
  · exact .refl s
  · exact s.tellChair_keeps _ _

theorem State.returnOrphans_loader_prior (ls : List LoaderId) (n : LoaderId) :
    ((ls.foldl State.returnOrphan s).loader n).prior = (s.loader n).prior := by
  induction ls generalizing s with
  | nil => rfl
  | cons l ls ih =>
    rw [List.foldl_cons, ih]
    by_cases same : n = l
    · subst same; simp [State.returnOrphan]
    · simp [State.returnOrphan, same]

theorem State.returnOrphans_sameBut (ls : List LoaderId) :
    s.sameBut [.loaders] (ls.foldl State.returnOrphan s) :=
  .foldl (fun s l => s.modLoader_sameBut l _) ls s

theorem State.returnLoaders_keeps (c : ChairId) : s.keeps (s.returnLoaders c) := by
  unfold State.returnLoaders
  dsimp only
  refine ((((s.returnOrphans_keeps _ fun l hl => ?_).trans
    (State.rejoins_keeps _ c _ fun k hk h hh => ?_)).trans
    (State.tellChair_keeps _ _ _)).trans
    (.foldl (fun s k => s.tellForced_keeps c k) _ _)).trans (State.tellSup_keeps _ _)
  · have := s.mem_loadersWhere.1 hl
    simp only [Bool.and_eq_true, beq_iff_eq] at this
    simp [this.1]
  · rw [State.returnOrphans_loader_prior]
    rw [(s.returnOrphans_sameBut _).handover k] at hh
    obtain ⟨x, hx, forced⟩ := s.mem_contextsWhere.1 hk
    rw [hx] at hh
    cases hh
    simp only [Bool.and_eq_true, beq_iff_eq] at forced
    simp [forced.1]

theorem State.modLink_modLink (c : ChairId) (f g : ChairLink → ChairLink) :
    (s.modLink c f).modLink c g = s.modLink c (g ∘ f) := by
  simp [State.modLink, State.link]

/-- A recovery writes its link once for the frame and once for the return to UP. -/
theorem State.takeLost_keeps (c : ChairId) (panel : Byte) (lost : (s.link c).state = .lost) :
    s.keeps (s.takeLost c panel) := by
  unfold State.takeLost
  dsimp only
  split
  · next few =>
    refine s.modLink_keeps c _ fun law => ?_
    obtain ⟨errors, tally, -, bad, silence, down⟩ := law.valid (ps := s.params) (by simp [lost])
    refine ⟨errors, tally, ?_, bad, silence, fun h => absurd (show (s.link c).state = .down from h)
      (by simp [lost])⟩
    rw [State.modLink_link_self] at few
    exact Nat.le_of_lt_succ few
  · unfold State.recover
    dsimp only
    rw [State.modLink_modLink]
    refine ((s.modLink_keeps c _ fun law => ?_).trans (State.returnLoaders_keeps _ _)).trans
      (State.takePanel_keeps _ _ _)
    obtain ⟨-, -, -, bad, -, -⟩ := law
    exact ⟨Nat.zero_le _, Nat.zero_le _, Nat.zero_le _, bad, by simp [ChairLink.restartSilence],
      by simp⟩

theorem State.bringUp_keeps (c : ChairId) : s.keeps (s.bringUp c) := by
  unfold State.bringUp
  dsimp only
  refine ((s.modLink_keeps c _ fun law => ?_).trans (State.tellChair_keeps _ _ _)).trans
    (State.tellSup_keeps _ _)
  obtain ⟨errors, tally, run, bad, -, -⟩ := law
  exact ⟨errors, tally, run, bad, by simp [ChairLink.restartSilence], by simp⟩

/-! ## How frames arrive -/

theorem State.takeChairFrame_keeps (c : ChairId) (panel : Byte) (body : State → State)
    (h : ∀ s : State, s.keeps (body s)) : s.keeps (s.takeChairFrame c panel body) := by
  unfold State.takeChairFrame
  split
  · exact ((s.bringUp_keeps c).trans (State.takePanel_keeps _ _ _)).trans (h _)
  · next up =>
    exact ((s.modLink_keeps c _ fun law => law.valid (by simp [up])).trans
      (State.takePanel_keeps _ _ _)).trans (h _)
  · next lost => exact s.takeLost_keeps c panel lost

theorem State.pass_keeps (p : Port) (body : State → State) (h : ∀ s : State, s.keeps (body s)) :
    s.keeps (s.pass p body) := by
  unfold State.pass
  split
  · exact s.modQueue_keeps p _ fun law => law.of_sublist (List.Sublist.refl _) fun _ => gain_le _ _
  · exact h s

theorem State.running_keeps (body : State → State) (h : s.keeps (body s)) :
    s.keeps (s.running body) := by
  unfold State.running
  split
  · exact .refl s
  · exact h

theorem State.setSupLink_sameBut (x : SupLink) : s.sameBut [.supLink] { s with supLink := x } := by
  intro p hp
  cases p
  case supLink => simp at hp
  all_goals rfl

theorem State.setSupLink_keeps (x : SupLink)
    (h : s.supLink.errors ≤ 15 ∧ s.supLink.tally ≤ 15 ∧ s.supLink.badFrames ≤ 65535 →
      x.errors ≤ 15 ∧ x.tally ≤ 15 ∧ x.badFrames ≤ 65535) : s.keeps { s with supLink := x } :=
  (State.keepsLimits.of_links (s.setSupLink_sameBut x).mono (fun _ => id) h).plain
    (s.setSupLink_sameBut x).mono

theorem State.takeRequest_keeps (h : Header) (body : State → State)
    (keeps : ∀ s : State, s.keeps (body s)) : s.keeps (s.takeRequest h body) := by
  refine s.running_keeps _ ?_
  split
  · exact s.takeChairFrame_keeps _ _ _ fun s => s.pass_keeps _ _ keeps
  · refine (s.setSupLink_keeps _ fun ⟨errors, tally, bad⟩ => ?_).trans (State.pass_keeps _ _ _ keeps)
    have t := tallyValid_le s.supLink.errors s.supLink.tally
    exact ⟨t.1.trans errors, t.2, bad⟩

theorem State.examined_keeps {α : Type} (h : Header) (k : ReqKind) (v : Except Reason α)
    (accept : α → State) (keeps : ∀ a, v = .ok a → s.keeps (accept a)) :
    s.keeps (s.examined h k v accept) := by
  cases v with
  | error r => exact s.answer_keeps h k _
  | ok a => exact keeps a rfl

end Sys2Proof.Machine
end

section
/-! PROOF. What a grant, a commit and the creation of a handover leave (03 R53, 04 R79, R66), and that
they keep the laws of authority. -/

namespace Sys2Proof.Machine

-- One theorem after another, so that the compile stays within its memory.
set_option Elab.async false

variable (s : State)

/-! ## Ground that admits a mode (02 R24, R25) -/

/-- Within the open length in decimetres is within it in segments, whatever the length. -/
theorem Zone.within_eq_holdsSegment (z : Zone) (p : Position) :
    z.within p.chainage = z.holdsSegment p := by
  obtain ⟨_, n, m, _, _, _, _⟩ := z
  cases m
  · exact decide_eq_decide.2 (by dsimp only [Zone.limit]; omega)
  · exact decide_eq_decide.2 (by dsimp only [Zone.limit, Config.zoneLength]; omega)

theorem ZoneClass.admits_eq_open (x : ZoneClass) (m : Mode) : x.admits m = x.open m := by
  cases x <;> cases m <;> rfl

theorem State.admitsMode_eq (l : LoaderId) (m : Mode) :
    s.admitsMode l m = (s.loader l).position.any fun p =>
      (s.zone p.zone).cls.open m && (s.zone p.zone).holdsSegment p := by
  simp only [State.admitsMode, Zone.admitsAt, ZoneClass.admits_eq_open,
    Zone.within_eq_holdsSegment]

theorem State.admitsMode_iff (l : LoaderId) (m : Mode) :
    s.admitsMode l m = true ↔ ∃ p ∈ (s.loader l).position,
      (s.zone p.zone).cls.open m = true ∧ (s.zone p.zone).holdsSegment p = true := by
  simp [State.admitsMode_eq, Option.any_eq_true]

/-- A loader whose new state is judged in a mode that its ground admits stands on it. -/
theorem State.groundedAt.of_admitsMode {s t : State} {l : LoaderId} {m : Mode}
    (admits : s.admitsMode l m = true) (position : (t.loader l).position = (s.loader l).position)
    (zones : ∀ z, (t.zone z).ground = (s.zone z).ground) (mode : t.judgedMode l = m) :
    t.groundedAt l := by
  obtain ⟨p, hp, cls, inside⟩ := (s.admitsMode_iff l m).1 admits
  have e := zones p.zone
  refine fun _ => ⟨p, by rw [position]; exact hp, ?_, ?_⟩
  · simp only [Zone.ground, Prod.mk.injEq] at e
    rw [e.1, mode]
    exact cls
  · rw [Zone.holdsSegment_of_ground e]
    exact inside

/-! ## A grant (03 R53) -/

/-- The record, the slot and the lapse timer of a grant are written; what follows locks the pair and
records the presence. -/
def State.grantBegun (s : State) (l : LoaderId) (c : ChairId) (i : SlotId) (m : Mode) : State :=
  (((s.modLoader l (·.granted c i m)).modSlot c i fun _ => ⟨.bound l, none, .fresh⟩).setLapse l
    m).settleRefresh l

theorem State.grant_eq (l : LoaderId) (c : ChairId) (i : SlotId) (m : Mode) :
    s.grant l c i m = (((s.grantBegun l c i m).lockPair c l).recordPresence l).updateLamps := rfl

theorem State.grantBegun_sameBut (l : LoaderId) (c : ChairId) (i : SlotId) (m : Mode) :
    s.sameBut [.loaders, .chairs] (s.grantBegun l c i m) :=
  (((s.modLoader_sameBut _ _).mono.trans (State.modSlot_sameBut _ _ _ _).mono).trans
    (State.setLapse_sameBut _ _ _).mono).trans (State.settleRefresh_sameBut _ _).mono

theorem State.grantBegun_after (l : LoaderId) (c : ChairId) (i : SlotId) (m : Mode) :
    (s.grantBegun l c i m).sameBut [.zones, .lamps, .watch, .queues, .supQueue]
      (s.grant l c i m) :=
  ((State.lockPair_sameBut _ _ _).mono.trans (State.recordPresence_sameBut _ _).mono).trans
    (State.updateLamps_sameBut _).mono

theorem State.setLapse_loader_ne {l n : LoaderId} (h : n ≠ l) (m : Mode) :
    (s.setLapse l m).loader n = s.loader n := by
  cases m
  · exact s.startLapse_loader_ne h
  · exact s.stopLapse_loader_ne h

theorem State.grant_loader_ne {l n : LoaderId} (h : n ≠ l) (c : ChairId) (i : SlotId) (m : Mode) :
    (s.grant l c i m).loader n = s.loader n := by
  have slots : ∀ (t : State) f, (t.modSlot c i f).loader n = t.loader n := fun _ _ => rfl
  rw [(s.grantBegun_after l c i m).loader, State.grantBegun, State.settleRefresh_loader_ne _ h,
    State.setLapse_loader_ne _ h, slots, State.modLoader_loader_ne _ h]

theorem State.grant_slot (l : LoaderId) (c d : ChairId) (i j : SlotId) (m : Mode) :
    (s.grant l c i m).slot d j =
      if d = c ∧ j = i then ⟨.bound l, none, .fresh⟩ else s.slot d j := by
  rw [(s.grantBegun_after l c i m).slot, State.grantBegun, (State.settleRefresh_sameBut _ _).slot,
    (State.setLapse_sameBut _ _ _).slot, State.modSlot_slot]
  rfl

theorem State.lockPair_watch (c : ChairId) (l : LoaderId) :
    (s.lockPair c l).watch = (s.watch.lock c l).1 := by
  rw [State.lockPair, (State.tellEvicted_sameBut _ _ _).watch]

theorem State.grant_watch (l : LoaderId) (c : ChairId) (i : SlotId) (m : Mode) :
    (s.grant l c i m).watch = (s.watch.lock c l).1 := by
  rw [s.grant_eq, (State.updateLamps_sameBut _).watch, (State.recordPresence_sameBut _ _).watch,
    State.lockPair_watch, (s.grantBegun_sameBut l c i m).watch]

/-- A presence sets the attention flag of a class-1 or class-3 zone (02 R29). -/
theorem State.recordPresence_zone (l : LoaderId) (z : ZoneId) :
    (s.recordPresence l).zone z =
      { s.zone z with
        attention := (s.zone z).attention || ((s.loader l).inZone z &&
          ((s.zone z).cls == .autoFlagged || (s.zone z).cls == .openFlagged)) } := by
  unfold State.recordPresence
  cases position : (s.loader l).position with
  | none => simp [Loader.zone?, Loader.inZone, position]
  | some p =>
    by_cases same : p.zone = z
    · subst same
      simp only [Loader.zone?, Loader.inZone, position, Option.map_some, Option.any_some, beq_self_eq_true,
        Bool.true_and]
      split
      · next flagged => rcases flagged with h | h <;> simp [State.raiseAttention_zone, h]
      · next plain => 
        rw [not_or] at plain
        rw [beq_eq_false_iff_ne.2 plain.1, beq_eq_false_iff_ne.2 plain.2, Bool.or_false,
          Bool.or_false]
    · simp only [Loader.zone?, Loader.inZone, position, Option.map_some, Option.any_some,
        beq_eq_false_iff_ne.2 same, Bool.false_and, Bool.or_false]
      split
      · simp [State.raiseAttention_zone, same]
      · rfl

theorem State.grant_zone (l : LoaderId) (c : ChairId) (i : SlotId) (m : Mode) (z : ZoneId) :
    (s.grant l c i m).zone z =
      { s.zone z with
        attention := (s.zone z).attention || ((s.loader l).inZone z &&
          ((s.zone z).cls == .autoFlagged || (s.zone z).cls == .openFlagged)) } := by
  have position : ((s.grantBegun l c i m).loader l).position = (s.loader l).position := by
    rw [← (s.grantBegun_after l c i m).loader l, s.grant_loader]
    rfl
  have frame := ((s.grantBegun_sameBut l c i m).mono (qs := [.loaders, .chairs, .watch, .queues,
    .supQueue])).trans ((s.grantBegun l c i m).lockPair_sameBut c l).mono
  rw [s.grant_eq, (State.updateLamps_sameBut _).zone, State.recordPresence_zone, frame.zone z,
    ((s.grantBegun l c i m).lockPair_sameBut c l).loader l, Loader.inZone, position]
  rfl

theorem State.grant_ground (l : LoaderId) (c : ChairId) (i : SlotId) (m : Mode) (z : ZoneId) :
    ((s.grant l c i m).zone z).ground = (s.zone z).ground := by rw [s.grant_zone]; rfl

theorem State.grant_core (l : LoaderId) (c : ChairId) (i : SlotId) (m : Mode) :
    ((s.grant l c i m).loader l).core =
      ⟨m.heldState, some ⟨c, i, m⟩, none, none, (s.loader l).position⟩ := by
  rw [s.grant_loader]; rfl

theorem State.setLapse_keeps (l : LoaderId) (m : Mode) : s.keeps (s.setLapse l m) := by
  cases m
  · exact s.startLapse_keeps l
  · exact s.stopLapse_keeps l

theorem State.grant_keepsLimits (l : LoaderId) (c : ChairId) (i : SlotId) (m : Mode) :
    s.keepsLimits (s.grant l c i m) :=
  ((((((s.modLoader_keepsLimits l _).trans (State.modSlot_keepsLimits _ c i _)).trans
    (State.setLapse_keeps _ l m).limits).trans (State.settleRefresh_keeps _ l).limits).trans
    (State.lockPair_keeps _ c l).limits).trans (State.recordPresence_keeps _ l).limits).trans
    (State.updateLamps_keepsLimits _)

/-- A loader that is held in a mode stands soundly outside TRANSFER. -/
theorem Loader.sound.of_held {r : Loader} {y : Holding} {prior : Option LoaderState}
    {context : Option CtxId} {p : Option Position}
    (core : r.core = ⟨y.mode.heldState, some y, prior, context, p⟩) : r.sound := by
  obtain ⟨state, holder, -, -, -⟩ := Loader.core_eq core
  constructor <;> cases m : y.mode <;> simp_all [Mode.heldState]

theorem State.judgedMode_of_core {l : LoaderId} {y : Holding} {prior : Option LoaderState}
    {context : Option CtxId} {p : Option Position}
    (core : (s.loader l).core = ⟨y.mode.heldState, some y, prior, context, p⟩) :
    s.judgedMode l = y.mode := by
  obtain ⟨state, -⟩ := Loader.core_eq core
  unfold State.judgedMode
  cases m : y.mode <;> simp [state, m, Mode.heldState]

theorem Mode.heldState_ne_transfer (m : Mode) : m.heldState ≠ .transfer := by cases m <;> decide

theorem State.grant_keeps (l : LoaderId) (c : ChairId) (i : SlotId) (m : Mode)
    (out : s.flightLaws → (s.loader l).state ≠ .transfer) (running : s.stopAll = false)
    (admits : s.admitsMode l m = true) : s.keeps (s.grant l c i m) := by
  have frame := s.grant_sameBut l c i m
  have core := s.grant_core l c i m
  have others : s.otherLoaders l (s.grant l c i m) := fun n ne => s.grant_loader_ne ne c i m
  exact ⟨s.grant_keepsLimits l c i m, .of_loader frame.mono (s.grant_ground l c i m) others
    (fun _ k => .inl (frame.handover k)) (fun _ => (State.updateLamps_shown _).lampLaw)
    (fun laws => laws.linked.of_out others (fun k => frame.handover k) (out laws)
      (by rw [(Loader.core_eq core).1]; exact m.heldState_ne_transfer))
    (fun _ => .of_held (y := ⟨c, i, m⟩) core)
    (fun _ _ => .of_admitsMode admits (Loader.core_eq core).2.2.2.2 (s.grant_ground l c i m)
      (State.judgedMode_of_core (y := ⟨c, i, m⟩) _ core))
    fun on => absurd on (by simp [running])⟩

/-! ## A commit (04 R79) -/

/-- The commit until its notices. -/
def State.commitBegun (s : State) (h : Handover) (i : SlotId) : State :=
  (s.vacate h.loader).grant h.loader h.taking i h.target

theorem State.commit_after {s : State} {k : CtxId} {h : Handover} {i : SlotId}
    (used : s.handover k = some h) (slot : h.slot = some i) :
    (s.commitBegun h i).sameBut [.queues, .supQueue, .handovers] (s.commit k) := by
  simp only [State.commit, used, slot]
  refine .trans ?_ (State.setHandover_sameBut _ _ _).mono
  refine .trans ?_ (State.tellSup_sameBut _ _).mono
  split
  · exact (State.tellChair_sameBut _ _ _).mono.trans (State.tellChair_sameBut _ _ _).mono
  · exact (State.tellChair_sameBut _ _ _).mono

theorem State.commit_handover {s : State} {k : CtxId} {h : Handover} {i : SlotId}
    (used : s.handover k = some h) (slot : h.slot = some i) (n : CtxId) :
    (s.commit k).handover n = if n = k then none else s.handover n := by
  have begun : (s.commitBegun h i).handover n = s.handover n :=
    ((State.grant_sameBut _ _ _ _ _).handover n).trans ((s.vacate_sameBut h.loader).handover n)
  simp only [State.commit, used, slot]
  by_cases same : n = k
  · rw [if_pos same, same, State.setHandover_handover_self]
  · rw [if_neg same, State.setHandover_handover_ne _ same, (State.tellSup_sameBut _ _).handover n]
    split
    · exact (((State.tellChair_sameBut _ _ _).handover n).trans
        ((State.tellChair_sameBut _ _ _).handover n)).trans begun
    · exact ((State.tellChair_sameBut _ _ _).handover n).trans begun

theorem State.commit_loader_ne {s : State} {k : CtxId} {h : Handover} {i : SlotId}
    (used : s.handover k = some h) (slot : h.slot = some i) {n : LoaderId} (ne : n ≠ h.loader) :
    (s.commit k).loader n = s.loader n := by
  rw [(State.commit_after used slot).loader n, State.commitBegun, State.grant_loader_ne _ ne,
    s.vacate_loader]

theorem State.commit_core {s : State} {k : CtxId} {h : Handover} {i : SlotId}
    (used : s.handover k = some h) (slot : h.slot = some i) :
    ((s.commit k).loader h.loader).core =
      ⟨h.target.heldState, some ⟨h.taking, i, h.target⟩, none, none,
        (s.loader h.loader).position⟩ := by
  rw [(State.commit_after used slot).loader, State.commitBegun, State.grant_core, s.vacate_loader]

theorem State.commit_zone {s : State} {k : CtxId} {h : Handover} {i : SlotId}
    (used : s.handover k = some h) (slot : h.slot = some i) (z : ZoneId) :
    (s.commit k).zone z =
      { s.zone z with
        attention := (s.zone z).attention || ((s.loader h.loader).inZone z &&
          ((s.zone z).cls == .autoFlagged || (s.zone z).cls == .openFlagged)) } := by
  rw [(State.commit_after used slot).zone, State.commitBegun, State.grant_zone,
    (s.vacate_sameBut h.loader).zone, s.vacate_loader]

theorem State.commit_keepsLimits (k : CtxId) : s.keepsLimits (s.commit k) := by
  unfold State.commit
  split
  · exact .refl s
  · next h _ =>
    split
    · exact .refl s
    · next i _ =>
      refine .trans ?_ (State.setHandover_keepsLimits _ _ _)
      refine .trans ?_ (State.tellSup_keepsLimits _ _)
      have begun := (s.vacate_keeps h.loader).limits.trans
        (State.grant_keepsLimits _ h.loader h.taking i h.target)
      split
      · exact (begun.trans (State.tellChair_keepsLimits _ _ _)).trans
          (State.tellChair_keepsLimits _ _ _)
      · exact begun.trans (State.tellChair_keepsLimits _ _ _)

/-- The handovers whose loaders are others name them as before where one is freed with its loader. -/
theorem State.linked.of_freed {s t : State} {k : CtxId} {h : Handover} (linked : s.linked)
    (used : s.handover k = some h) (others : s.otherLoaders h.loader t)
    (handovers : ∀ n, t.handover n = if n = k then none else s.handover n)
    (out : (t.loader h.loader).state ≠ .transfer) : t.linked := by
  obtain ⟨-, context⟩ := linked.used k h used
  constructor
  · intro n x hx
    rw [handovers] at hx
    split at hx
    · cases hx
    · next ne =>
      obtain ⟨state, named⟩ := linked.used n x hx
      have other : x.loader ≠ h.loader := by
        intro same
        rw [same, context] at named
        exact ne (Option.some.inj named).symm
      rw [others _ other]
      exact ⟨state, named⟩
  · intro l hl
    have other : l ≠ h.loader := by rintro rfl; exact out hl
    rw [others _ other] at hl ⊢
    obtain ⟨n, x, named, hx, same⟩ := linked.named l hl
    refine ⟨n, x, named, ?_, same⟩
    rw [handovers, if_neg, hx]
    rintro rfl
    rw [used] at hx
    cases hx
    exact other same.symm

theorem State.commit_keeps (k : CtxId)
    (admits : ∀ h, s.handover k = some h → s.admitsMode h.loader h.target = true) :
    s.keeps (s.commit k) := by
  cases used : s.handover k with
  | none => simp only [State.commit, used]; exact .refl s
  | some h =>
    cases slot : h.slot with
    | none => simp only [State.commit, used, slot]; exact .refl s
    | some i =>
      have frame := s.commit_sameBut k
      have core := State.commit_core used slot
      have ground : ∀ z, ((s.commit k).zone z).ground = (s.zone z).ground := fun z => by
        rw [State.commit_zone used slot]; rfl
      have others : s.otherLoaders h.loader (s.commit k) := fun n ne =>
        State.commit_loader_ne used slot ne
      have lamps : (s.commit k).lampsShown := by
        have after := State.commit_after used slot
        have shown : (s.commitBegun h i).lampsShown := State.updateLamps_shown _
        unfold State.lampsShown State.lampDue at shown ⊢
        simp only [after.lamps, after.loader]
        exact shown
      refine ⟨s.commit_keepsLimits k, .of_loader (l := h.loader) frame.mono ground others
        (fun _ n => ?_) (fun _ => lamps.lampLaw)
        (fun laws => laws.linked.of_freed used others (State.commit_handover used slot) ?_)
        (fun _ => .of_held (y := ⟨h.taking, i, h.target⟩) core)
        (fun _ _ => .of_admitsMode (admits h used) (Loader.core_eq core).2.2.2.2 ground
          (State.judgedMode_of_core (y := ⟨h.taking, i, h.target⟩) _ core))
        fun _ calm => absurd (calm.handovers k) (by simp [used])⟩
      · rw [State.commit_handover used slot]
        split
        · next same => exact .inr (.inr ⟨h, same ▸ used, rfl⟩)
        · exact .inl rfl
      · rw [(Loader.core_eq core).1]
        exact h.target.heldState_ne_transfer

/-! ## The creation of a handover (04 R66) -/

/-- The context that a new handover writes (04 R66). -/
def State.newHandover (s : State) (x : Start) (phase : Phase) (ms : Nat) : Handover where
  loader := x.loader
  kind := x.kind
  releasing := (s.loader x.loader).releasing
  taking := x.taking
  slot := x.slot
  target := x.target
  phase := phase
  timer := Timer.start ms
  suspended := false
  watchdog := Timer.start s.params.watchdogMs
  held := (s.loader x.loader).halt

/-- The context and the record of a new handover are written; the slot, the lock and the lamps
follow. -/
def State.handoverBegun (s : State) (x : Start) (phase : Phase) (ms : Nat) : State :=
  (s.setHandover x.context (some (s.newHandover x phase ms))).modLoader x.loader fun r =>
    { r with state := .transfer, prior := some r.state, context := some x.context, halt := none }

/-- The slot that a new handover reserves. -/
def State.reserveFor (s : State) (x : Start) : State :=
  match x.slot with
  | some i => s.fillSlot x.taking i (.reserved x.loader x.context)
  | none => s

theorem State.createHandover_eq (x : Start) (phase : Phase) (ms : Nat) :
    s.createHandover x phase ms =
      (((s.handoverBegun x phase ms).reserveFor x).lockPair x.taking x.loader).updateLamps := rfl

theorem State.reserveFor_sameBut (x : Start) : s.sameBut [.chairs] (s.reserveFor x) := by
  unfold State.reserveFor
  split
  · exact s.fillSlot_sameBut _ _ _
  · exact .refl _ s

theorem State.createHandover_after (x : Start) (phase : Phase) (ms : Nat) :
    (s.handoverBegun x phase ms).sameBut [.chairs, .watch, .queues, .supQueue, .lamps]
      (s.createHandover x phase ms) :=
  ((State.reserveFor_sameBut _ x).mono.trans (State.lockPair_sameBut _ _ _).mono).trans
    (State.updateLamps_sameBut _).mono

theorem State.createHandover_loader (x : Start) (phase : Phase) (ms : Nat) :
    (s.createHandover x phase ms).loader x.loader =
      { s.loader x.loader with
        state := .transfer, prior := some (s.loader x.loader).state, context := some x.context
        halt := none } := by
  rw [(s.createHandover_after x phase ms).loader, State.handoverBegun,
    State.modLoader_loader_self, State.setHandover_loader]

theorem State.createHandover_loader_ne (x : Start) (phase : Phase) (ms : Nat) {n : LoaderId}
    (ne : n ≠ x.loader) : (s.createHandover x phase ms).loader n = s.loader n := by
  rw [(s.createHandover_after x phase ms).loader, State.handoverBegun,
    State.modLoader_loader_ne _ ne, State.setHandover_loader]

theorem State.createHandover_handover (x : Start) (phase : Phase) (ms : Nat) (n : CtxId) :
    (s.createHandover x phase ms).handover n =
      if n = x.context then some (s.newHandover x phase ms) else s.handover n := by
  rw [(s.createHandover_after x phase ms).handover, State.handoverBegun, State.modLoader_handover]
  split
  · next same => rw [same, State.setHandover_handover_self]
  · next ne => rw [State.setHandover_handover_ne _ ne]

theorem State.createHandover_slot (x : Start) (phase : Phase) (ms : Nat) (c : ChairId)
    (i : SlotId) :
    (s.createHandover x phase ms).slot c i =
      { s.slot c i with
        contents := if c = x.taking ∧ x.slot = some i then .reserved x.loader x.context
          else (s.slot c i).contents } := by
  rw [s.createHandover_eq, (State.updateLamps_sameBut _).slot, (State.lockPair_sameBut _ _ _).slot]
  have begun : (s.handoverBegun x phase ms).slot c i = s.slot c i := rfl
  unfold State.reserveFor
  cases slot : x.slot with
  | none => simp [begun]
  | some j =>
    dsimp only
    rw [State.fillSlot_slot, begun]
    simp only [Option.some.injEq, eq_comm]

theorem State.createHandover_watch (x : Start) (phase : Phase) (ms : Nat) :
    (s.createHandover x phase ms).watch = (s.watch.lock x.taking x.loader).1 := by
  rw [s.createHandover_eq, (State.updateLamps_sameBut _).watch, State.lockPair_watch,
    (State.reserveFor_sameBut _ x).watch]
  rfl

theorem State.createHandover_keepsLimits (x : Start) (phase : Phase) (ms : Nat) :
    s.keepsLimits (s.createHandover x phase ms) := by
  rw [s.createHandover_eq]
  refine .trans ?_ (State.updateLamps_keepsLimits _)
  refine .trans ?_ (State.lockPair_keeps _ _ _).limits
  have begun : s.keepsLimits (s.handoverBegun x phase ms) :=
    (s.setHandover_keepsLimits _ _).trans (State.modLoader_keepsLimits _ _ _)
  unfold State.reserveFor
  split
  · exact begun.trans (State.fillSlot_keepsLimits _ _ _ _)
  · exact begun

/-- The states from which a handover can begin (04 R68 to R70). -/
abbrev startStates : List LoaderState := [.parked, .driven, .supervised, .orphaned, .halted]

/-- A loader enters TRANSFER from a state that a handover can begin from, soundly. -/
theorem Loader.sound.begun {r r' : Loader} {k : CtxId} (sound : r.sound)
    (from_start : r.state ∈ startStates)
    (core : r'.core = ⟨.transfer, r.holder, some r.state, some k, r.position⟩) : r'.sound := by
  obtain ⟨state, holder, prior, -, -⟩ := Loader.core_eq core
  simp only [List.mem_cons, List.not_mem_nil, or_false] at from_start
  obtain ⟨-, held, mode⟩ := sound
  constructor
  · rw [prior]; intro _; rcases from_start with h | h | h | h | h <;> simp [h]
  · rw [state, holder, prior, held]
    rcases from_start with h | h | h | h | h <;> simp [h]
  · rw [state, holder, prior]
    intro y hy
    rw [mode y hy]
    rcases from_start with h | h | h | h | h <;> simp [h]

/-- What a new handover needs: a free context, a state to begin from, and, for a loader without a
holder, ground that admits the target while STOP_ALL is released. -/
structure State.canStart (s : State) (x : Start) : Prop where
  free : s.handover x.context = none
  start : (s.loader x.loader).state ∈ startStates
  ground : (s.loader x.loader).hasAuthority = true ∨
    (s.stopAll = false ∧ s.admitsMode x.loader x.target = true)

theorem State.linked.of_created {s t : State} {k : CtxId} {h : Handover} (linked : s.linked)
    (free : s.handover k = none) (out : (s.loader h.loader).state ≠ .transfer)
    (others : s.otherLoaders h.loader t)
    (handovers : ∀ n, t.handover n = if n = k then some h else s.handover n)
    (state : (t.loader h.loader).state = .transfer)
    (context : (t.loader h.loader).context = some k) : t.linked := by
  constructor
  · intro n x hx
    rw [handovers] at hx
    split at hx
    · next same => cases hx; rw [same]; exact ⟨state, context⟩
    · obtain ⟨transfer, named⟩ := linked.used n x hx
      have other : x.loader ≠ h.loader := by intro same; exact out (same ▸ transfer)
      rw [others _ other]
      exact ⟨transfer, named⟩
  · intro l hl
    by_cases same : l = h.loader
    · exact ⟨k, h, same ▸ context, by rw [handovers, if_pos rfl], same.symm⟩
    · rw [others _ same] at hl ⊢
      obtain ⟨n, x, named, hx, eq⟩ := linked.named l hl
      refine ⟨n, x, named, ?_, eq⟩
      rw [handovers, if_neg, hx]
      rintro rfl
      rw [free] at hx
      cases hx

/-- A loader that enters TRANSFER is judged in the mode it is held in, or in the target mode. -/
theorem State.createHandover_judgedMode {s : State} {x : Start} (phase : Phase) (ms : Nat)
    (sound : (s.loader x.loader).sound) (start : s.canStart x) :
    (s.createHandover x phase ms).judgedMode x.loader =
      if (s.loader x.loader).hasAuthority = true then s.judgedMode x.loader else x.target := by
  have record := s.createHandover_loader x phase ms
  have handover : ((s.createHandover x phase ms).handoverOf x.loader).map (·.target) =
      some x.target := by
    rw [State.handoverOf, record, Option.bind_some, State.createHandover_handover, if_pos rfl]
    rfl
  split
  · next authority =>
    have out : (s.loader x.loader).state ≠ .transfer := by
      intro e; have := start.start; rw [e] at this; simp at this
    obtain ⟨y, holder⟩ := Option.isSome_iff_exists.1 (sound.held authority out)
    rw [State.judgedMode_of_holder sound authority holder]
    simp only [State.judgedMode, record, Loader.heldMode, holder, Option.map_some]
  · next none_held =>
    have holder : (s.loader x.loader).holder = none := by
      rw [← Option.not_isSome_iff_eq_none, sound.holder]
      intro held
      have := start.start
      simp only [List.mem_cons, List.not_mem_nil, or_false] at this held
      rcases this with e | e | e | e | e <;>
        simp [e, Loader.hasAuthority, LoaderState.hasAuthority] at held none_held
    simp only [State.judgedMode, record, Loader.heldMode, holder, Option.map_none, handover,
      Option.getD_some]

theorem State.createHandover_keeps (x : Start) (phase : Phase) (ms : Nat)
    (start : s.canStart x) : s.keeps (s.createHandover x phase ms) := by
  have frame := s.createHandover_sameBut x phase ms
  have record := s.createHandover_loader x phase ms
  have others : s.otherLoaders x.loader (s.createHandover x phase ms) := fun n ne =>
    s.createHandover_loader_ne x phase ms ne
  have out : (s.loader x.loader).state ≠ .transfer := by
    intro e; have := start.start; rw [e] at this; simp at this
  have zones : ∀ z, ((s.createHandover x phase ms).zone z).ground = (s.zone z).ground :=
    fun z => by rw [frame.zone z]
  refine ⟨s.createHandover_keepsLimits x phase ms, .of_loader (l := x.loader) frame.mono zones
    others (fun _ n => ?_) (fun _ => (State.updateLamps_shown _).lampLaw)
    (fun laws => laws.linked.of_created (h := s.newHandover x phase ms) start.free out others
      (s.createHandover_handover x phase ms) (by rw [State.newHandover, record])
      (by rw [State.newHandover, record]))
    (fun laws => (laws.sound x.loader).begun start.start (by rw [record]; rfl))
    (fun laws ground => ?_) fun on calm => ?_⟩
  · rw [State.createHandover_handover]
    split
    · next same => exact .inr (.inl (same ▸ start.free))
    · exact .inl rfl
  · have mode := State.createHandover_judgedMode phase ms (laws.sound x.loader) start
    rcases start.ground with authority | ⟨-, admits⟩
    · rw [if_pos authority] at mode
      exact ground.congr (fun _ => authority) (by rw [record]) (fun _ => mode) zones
    · by_cases authority : (s.loader x.loader).hasAuthority = true
      · rw [if_pos authority] at mode
        exact ground.congr (fun _ => authority) (by rw [record]) (fun _ => mode) zones
      · rw [if_neg authority] at mode
        exact .of_admitsMode admits (by rw [record]) zones mode
  · rcases start.ground with authority | ⟨off, -⟩
    · rw [calm.loaders] at authority; cases authority
    · rw [off] at on; cases on

end Sys2Proof.Machine
end

section
/-! PROOF. What an examination that passes has tested (03 R49, R50), and the phases of a handover and
its requests keep the laws one by one (04 R71 to R84). -/

namespace Sys2Proof.Machine

-- One theorem after another, so that the compile stays within its memory.
set_option Elab.async false

/-! ## Examinations -/

theorem examine_bind_ok {α β : Type} {x : Except Reason α} {f : α → Except Reason β} {b : β} :
    (x >>= f) = .ok b ↔ ∃ a, x = .ok a ∧ f a = .ok b := by
  cases x with
  | error r => exact ⟨nofun, fun ⟨_, h, _⟩ => nomatch h⟩
  | ok a => exact ⟨fun h => ⟨a, rfl, h⟩, fun ⟨_, h, h'⟩ => by cases h; exact h'⟩

theorem ensure_ok {p : Prop} [Decidable p] {r : Reason} {u : Unit} : ensure p r = .ok u ↔ p := by
  unfold ensure
  split <;> simp_all

theorem meaning_ok {α : Type} {x : Option α} {a : α} : meaning x = .ok a ↔ x = some a := by
  cases x <;> simp [meaning]

/-- A test has only one way to pass. -/
theorem test_passes {x : Except Reason Unit} : (∃ u, x = .ok u) ↔ x = .ok () :=
  ⟨fun ⟨_, h⟩ => h, fun h => ⟨_, h⟩⟩

theorem ok_inj {α : Type} {a b : α} : (Except.ok a : Except Reason α) = .ok b ↔ a = b :=
  ⟨fun h => by cases h; rfl, fun h => h ▸ rfl⟩

variable (s : State)

theorem State.checkChair_ok {c : ChairId} {i : SlotId} {u : Unit} :
    s.checkChair c i = .ok u ↔ s.stopAll = false ∧ s.isUp c = true ∧ (s.chair c).stop = false ∧
      (s.slot c i).contents = .empty := by
  simp [State.checkChair, examine_bind_ok, ensure_ok]

theorem State.checkGround_ok {l : LoaderId} {c : ChairId} {m : Mode} {k : Option CtxId} {u : Unit} :
    s.checkGround l c m k = .ok u ↔ s.cleared c l = true ∧ s.inClosing l = false ∧
      s.admitsMode l m = true ∧ (m = .supervised → s.barrierBreached l = false) ∧
      (m = .manual → s.manualLoad c k = 0) := by
  simp [State.checkGround, examine_bind_ok, ensure_ok]

theorem State.checkReserve_ok {l : LoaderId} {c : ChairId} {i : SlotId} {m : Mode} {u : Unit} :
    s.checkReserve l c i m = .ok u ↔ s.checkChair c i = .ok () ∧ s.checkHeard l = .ok () ∧
      s.checkGround l c m = .ok () ∧ s.checkNeutral c m = .ok () := by
  simp [State.checkReserve, examine_bind_ok, test_passes]

theorem State.checkGrant_ok {l : LoaderId} {c : ChairId} {i : SlotId} {m : Mode} {u : Unit} :
    s.checkGrant l c i m = .ok u ↔ s.checkReserve l c i m = .ok () ∧
      (m = .manual → (s.loader l).stationary = true) := by
  simp [State.checkGrant, examine_bind_ok, ensure_ok, test_passes]

/-- What the checks of a grant or a reservation say to the laws. -/
theorem State.checkReserve_admits {s : State} {l : LoaderId} {c : ChairId} {i : SlotId} {m : Mode}
    {u : Unit} (h : s.checkReserve l c i m = .ok u) :
    s.stopAll = false ∧ s.admitsMode l m = true := by
  obtain ⟨chair, -, ground, -⟩ := s.checkReserve_ok.1 h
  exact ⟨(s.checkChair_ok.1 chair).1, (s.checkGround_ok.1 ground).2.2.1⟩

theorem State.needContext_ok {s : State} {k : CtxId} (h : s.needContext = .ok k) :
    s.handover k = none := by
  unfold State.needContext at h
  split at h
  · next free =>
    cases h
    simpa using List.find?_some free
  · cases h

end Sys2Proof.Machine
end

section
/-! PROOF. The requests of Chapters 3 and 4 keep the laws one by one (03 R53 to R63, 06 R131, 04 R66 to
R84). -/

namespace Sys2Proof.Machine

-- One theorem after another, so that the compile stays within its memory.
set_option Elab.async false

variable (s : State)

/-! ## Requests that take, keep or clear authority (Chapter 3) -/

theorem State.sameBut.admitsMode {ps : List Part} {s t : State} (h : s.sameBut ps t)
    (l : LoaderId) (m : Mode) (n : Part.loaders ∉ ps := by decide)
    (n' : Part.zones ∉ ps := by decide) : t.admitsMode l m = s.admitsMode l m := by
  simp only [State.admitsMode, h.loader l n, h.zone _ n']

theorem State.examineGrant_ok {h : Header} {loader slot mode : Byte}
    {check2 : ChairId → Loader → Bool} {x : GrantArgs} :
    s.examineGrant h loader slot mode check2 = .ok x ↔
      h.fromChair = .ok x.chair ∧ loaderOf loader = some x.loader ∧ slotOf slot = some x.slot ∧
        modeOf mode = some x.mode ∧ (s.loader x.loader).state ≠ .unenrolled ∧
        check2 x.chair (s.loader x.loader) = true ∧
        s.checkGrant x.loader x.chair x.slot x.mode = .ok () := by
  obtain ⟨c, l, i, m⟩ := x
  simp only [State.examineGrant, examine_bind_ok, meaning_ok, ensure_ok, State.enrolled,
    exists_const, exists_and_right, test_passes, ok_inj, GrantArgs.mk.injEq]
  constructor
  · rintro ⟨c, hc, l, hl, i, hi, m, hm, e, ch, ck, rfl, rfl, rfl, rfl⟩
    exact ⟨hc, hl, hi, hm, e, ch, ck⟩
  · rintro ⟨hc, hl, hi, hm, e, ch, ck⟩
    exact ⟨c, hc, l, hl, i, hi, m, hm, e, ch, ck, rfl, rfl, rfl, rfl⟩

theorem State.grantAnswered_keeps (h : Header) (k : ReqKind) {x : GrantArgs}
    (state : (s.loader x.loader).state ≠ .transfer)
    (checks : s.checkGrant x.loader x.chair x.slot x.mode = .ok ()) :
    s.keeps (s.grantAnswered h k x) := by
  have answered := s.ok_sameBut h k (.grant x.loader x.slot x.mode ((s.loader x.loader).epoch + 1))
  obtain ⟨running, admits⟩ := State.checkReserve_admits (s.checkGrant_ok.1 checks).1
  refine (s.ok_keeps h k _).trans (State.grant_keeps _ _ _ _ _ (fun _ => ?_) ?_ ?_)
  · rw [answered.loader]; exact state
  · rw [answered.stopAll]; exact running
  · rw [answered.admitsMode]; exact admits

theorem State.takeClaim_keeps (h : Header) (loader slot mode : Byte) :
    s.keeps (s.takeClaim h loader slot mode) := by
  refine s.examined_keeps h _ _ _ fun x hx => ?_
  obtain ⟨-, -, -, -, -, parked, checks⟩ := s.examineGrant_ok.1 hx
  refine s.grantAnswered_keeps h _ ?_ checks
  rw [beq_iff_eq.1 parked]
  decide

theorem State.takeReclaim_keeps (h : Header) (loader slot mode : Byte) :
    s.keeps (s.takeReclaim h loader slot mode) := by
  refine s.examined_keeps h _ _ _ fun x hx => ?_
  obtain ⟨-, -, -, -, -, halted, checks⟩ := s.examineGrant_ok.1 hx
  refine s.grantAnswered_keeps h _ ?_ checks
  rw [beq_iff_eq.1 (Bool.and_eq_true_iff.1 halted).1]
  decide

/-- The states without authority. -/
abbrev idleStates : List LoaderState := [.unenrolled, .parked, .halted, .isolated]

/-- A loader that comes to stand, or stays, in nobody's hands. -/
theorem State.keepsAuthority.of_unheld {s t : State} {l : LoaderId}
    (frame : s.sameBut (.loaders :: .lamps :: plainParts) t) (others : s.otherLoaders l t)
    (lamps : s.lampLaw → t.lampLaw) (out : s.flightLaws → (s.loader l).state ≠ .transfer)
    (state : (t.loader l).state ∈ idleStates)
    (holder : s.flightLaws → (t.loader l).holder = none) : s.keepsAuthority t :=
  .of_loader frame.mono (fun z => by rw [frame.zone z]) others (fun _ k => .inl (frame.handover k))
    lamps (fun laws => laws.linked.of_out others (fun k => frame.handover k) (out laws) (by
      intro e; rw [e] at state; simp at state))
    (fun laws => .of_unheld state (holder laws)) (fun _ _ => .of_noAuthority (Loader.noAuthority state))
    fun _ calm => calm.of_loader others (fun k => frame.handover k) fun _ => Loader.noAuthority state

/-- Lamps stay right where no loader with authority is written. -/
theorem State.lampLaw.of_idle {s t : State} {l : LoaderId} (lamps : t.lamps = s.lamps)
    (inReset : t.inReset = s.inReset) (others : s.otherLoaders l t)
    (before : (s.loader l).hasAuthority = false) (after : (t.loader l).hasAuthority = false)
    (h : s.lampLaw) : t.lampLaw := by
  intro run n
  rw [lamps, h (inReset ▸ run) n]
  refine exists_congr fun m => ?_
  by_cases same : m = l
  · subst same; simp [before, after]
  · rw [others m same]

theorem State.examineHolder_ok {l : LoaderId} {c : ChairId} {x : Holding} :
    s.examineHolder l c = .ok x ↔
      (s.loader l).holder = some x ∧ x.chair = c ∧ (s.loader l).state ≠ .transfer := by
  unfold State.examineHolder
  cases holder : (s.loader l).holder with
  | none => exact ⟨nofun, fun h => nomatch h.1⟩
  | some y =>
    simp only [examine_bind_ok, ensure_ok, ok_inj]
    constructor
    · rintro ⟨-, mine, -, out, rfl⟩; exact ⟨rfl, mine, out⟩
    · rintro ⟨e, mine, out⟩; cases e; exact ⟨⟨⟩, mine, ⟨⟩, out, rfl⟩

/-- The record of a loader that its holder released, or that the supervisor parked or isolated, is
written, and a HOLD and the lamps follow. -/
theorem State.unheldAfter_keeps (l : LoaderId) (f : Loader → Loader)
    (range : (s.loader l).inRange → (f (s.loader l)).inRange)
    (out : s.flightLaws → (s.loader l).state ≠ .transfer)
    (state : (f (s.loader l)).state ∈ idleStates) (holder : (f (s.loader l)).holder = none) :
    s.keeps ((((s.vacate l).modLoader l f).emitHold l).updateLamps) := by
  have frame : s.sameBut [.loaders, .chairs, .watch, .fleet, .lamps]
      ((((s.vacate l).modLoader l f).emitHold l).updateLamps) :=
    (((s.vacate_sameBut l).mono.trans (State.modLoader_sameBut _ l f).mono).trans
      (State.emitHold_sameBut _ l).mono).trans (State.updateLamps_sameBut _).mono
  have record : (((((s.vacate l).modLoader l f).emitHold l).updateLamps).loader l) =
      { f (s.loader l) with
        holdRefresh := if ((s.vacate l).modLoader l f).holdCondition l then some ⟨500, 0⟩
          else (f (s.loader l)).holdRefresh } := by
    rw [State.updateLamps_loader, State.emitHold_loader, State.modLoader_loader_self,
      s.vacate_loader]
  refine ⟨?_, .of_unheld (l := l) frame.mono (fun n ne => ?_)
    (fun _ => (State.updateLamps_shown _).lampLaw) out (by rw [record]; exact state)
    fun _ => by rw [record]; exact holder⟩
  · refine .trans ?_ (State.updateLamps_keepsLimits _)
    refine .trans ?_ (State.emitHold_keeps _ l).limits
    exact (s.vacate_keeps l).limits.trans (State.modLoader_keepsLimits _ l f (by
      rw [s.vacate_loader]; exact range))
  · rw [State.updateLamps_loader, State.emitHold_loader_ne _ ne, State.modLoader_loader_ne _ ne,
      s.vacate_loader]

theorem State.releaseLoader_keeps (l : LoaderId)
    (out : s.flightLaws → (s.loader l).state ≠ .transfer) : s.keeps (s.releaseLoader l) :=
  (s.unheldAfter_keeps l Loader.parked id out (by simp [Loader.parked]) rfl).trans
    (State.checkZoneOf_keeps _ l)

theorem State.examineChair_ok {h : Header} {loader : Byte} {c : ChairId} {l : LoaderId} :
    s.examineChair h loader = .ok (c, l) ↔ h.fromChair = .ok c ∧ loaderOf loader = some l ∧
      (s.loader l).state ≠ .unenrolled := by
  simp only [State.examineChair, examine_bind_ok, meaning_ok, State.enrolled, ensure_ok, ok_inj,
    Prod.mk.injEq]
  constructor
  · rintro ⟨c, hc, l, hl, -, e, rfl, rfl⟩; exact ⟨hc, hl, e⟩
  · rintro ⟨hc, hl, e⟩; exact ⟨c, hc, l, hl, ⟨⟩, e, rfl, rfl⟩

theorem State.examineRelease_ok {h : Header} {loader : Byte} {l : LoaderId} {x : Holding} :
    s.examineRelease h loader = .ok (l, x) ↔ ∃ c, s.examineChair h loader = .ok (c, l) ∧
      s.examineHolder l c = .ok x := by
  simp only [State.examineRelease, examine_bind_ok, Prod.exists]
  constructor
  · rintro ⟨c, l, hc, x, hx, e⟩; cases e; exact ⟨c, hc, hx⟩
  · rintro ⟨c, hc, hx⟩; exact ⟨c, l, hc, x, hx, rfl⟩

theorem State.takeRelease_keeps (h : Header) (loader : Byte) :
    s.keeps (s.takeRelease h loader) := by
  refine s.examined_keeps h _ _ _ fun ⟨l, x⟩ hx => ?_
  obtain ⟨c, -, held⟩ := s.examineRelease_ok.1 hx
  refine (s.ok_keeps h _ _).trans (State.releaseLoader_keeps _ l fun _ => ?_)
  rw [(s.ok_sameBut h _ _).loader]
  exact (s.examineHolder_ok.1 held).2.2

/-- A loader changes from one mode that it is held in to another, on ground that admits it. -/
theorem State.keepsAuthority.of_held {s t : State} {l : LoaderId} {y : Holding}
    (frame : s.sameBut (.loaders :: plainParts) t) (others : s.otherLoaders l t)
    (before : (s.loader l).state ∈ [LoaderState.driven, .supervised])
    {prior : Option LoaderState} {context : Option CtxId}
    (core : (t.loader l).core =
      ⟨y.mode.heldState, some y, prior, context, (s.loader l).position⟩)
    (admits : s.admitsMode l y.mode = true) : s.keepsAuthority t := by
  simp only [List.mem_cons, List.not_mem_nil, or_false] at before
  obtain ⟨state, -, -, -, position⟩ := Loader.core_eq core
  have had : (s.loader l).hasAuthority = true := by
    rcases before with b | b <;> simp [Loader.hasAuthority, b, LoaderState.hasAuthority]
  have has : (t.loader l).hasAuthority = true := by
    cases m : y.mode <;>
      simp [Loader.hasAuthority, state, m, Mode.heldState, LoaderState.hasAuthority]
  refine .of_loader frame.mono (fun z => by rw [frame.zone z]) others
    (fun _ k => .inl (frame.handover k)) (State.lampLaw.congr frame.lamps frame.inReset fun n => ?_)
    (fun laws => laws.linked.of_out others (fun k => frame.handover k)
      (by rcases before with b | b <;> simp [b])
      (by rw [state]; exact y.mode.heldState_ne_transfer))
    (fun _ => .of_held core)
    (fun _ _ => .of_admitsMode admits position (fun z => by rw [frame.zone z])
      (State.judgedMode_of_core _ core))
    fun _ calm => absurd (calm.loaders l) (by simp [had])
  by_cases same : n = l
  · subst same; exact ⟨has.trans had.symm, position⟩
  · rw [others n same]; exact ⟨rfl, rfl⟩

theorem State.toSupervised_keeps (l : LoaderId) (x : Holding)
    (driven : (s.loader l).state = .driven) (admits : s.admitsMode l .supervised = true) :
    s.keeps (s.toSupervised l x) := by
  have frame : s.sameBut [.loaders, .fleet] (s.toSupervised l x) :=
    (((s.modLoader_sameBut l _).mono.trans (State.stopLapse_sameBut _ l).mono).trans
      (State.settleRefresh_sameBut _ l).mono).trans (State.emitHold_sameBut _ l).mono
  refine ⟨?_, .of_held (l := l) (y := { x with mode := .supervised }) frame.mono
    (fun n ne => ?_) (by simp [driven]) (prior := (s.loader l).prior)
    (context := (s.loader l).context) ?_ admits⟩
  · refine .trans ?_ (State.emitHold_keeps _ l).limits
    refine .trans ?_ (State.settleRefresh_keeps _ l).limits
    exact (s.modLoader_keepsLimits l _).trans (State.stopLapse_keeps _ l).limits
  · rw [State.toSupervised, State.emitHold_loader_ne _ ne, State.settleRefresh_loader_ne _ ne,
      State.stopLapse_loader_ne _ ne, State.modLoader_loader_ne _ ne]
  · rw [State.toSupervised, State.emitHold_loader, State.settleRefresh_loader,
      State.stopLapse_loader, State.modLoader_loader_self]
    rfl

theorem State.toManual_keeps (l : LoaderId) (x : Holding)
    (supervised : (s.loader l).state = .supervised) (admits : s.admitsMode l .manual = true) :
    s.keeps (s.toManual l x) := by
  have frame : s.sameBut [.loaders, .chairs, .fleet] (s.toManual l x) :=
    (((s.modLoader_sameBut l _).mono.trans (State.modSlot_sameBut _ _ _ _).mono).trans
      (State.startLapse_sameBut _ l).mono).trans (State.order_sameBut _ l _).mono
  refine ⟨?_, .of_held (l := l) (y := { x with mode := .manual }) frame.mono
    (fun n ne => ?_) (by simp [supervised]) (prior := (s.loader l).prior)
    (context := (s.loader l).context) ?_ admits⟩
  · refine .trans ?_ (State.order_keeps _ l _).limits
    refine .trans ?_ (State.startLapse_keeps _ l).limits
    exact (s.modLoader_keepsLimits l _).trans (State.modSlot_keepsLimits _ _ _ _)
  · rw [State.toManual, (State.order_sameBut _ l _).loader, State.startLapse_loader_ne _ ne,
      (State.modSlot_sameBut _ _ _ _).loader, State.modLoader_loader_ne _ ne]
  · rw [State.toManual, (State.order_sameBut _ l _).loader, State.startLapse_loader,
      (State.modSlot_sameBut _ _ _ _).loader, State.modLoader_loader_self]
    rfl

theorem State.testSupervised_ok {l : LoaderId} {u : Unit} :
    s.testSupervised l = .ok u ↔ (s.loader l).state = .driven ∧
      s.admitsMode l .supervised = true ∧ s.barrierBreached l = false := by
  simp [State.testSupervised, examine_bind_ok, ensure_ok]

theorem State.testManual_ok {l : LoaderId} {c : ChairId} {u : Unit} :
    s.testManual l c = .ok u ↔ (s.loader l).state = .supervised ∧
      s.admitsMode l .manual = true ∧ s.manualLoad c = 0 ∧ (s.chair c).neutral = true ∧
      (s.loader l).stationary = true := by
  simp [State.testManual, examine_bind_ok, ensure_ok]

theorem State.takeMode_keeps (h : Header) (loader mode : Byte) :
    s.keeps (s.takeMode h loader mode) := by
  refine s.examined_keeps h _ _ _ fun ⟨l, x, m⟩ _ => ?_
  have answered := s.ok_sameBut h .mode (.mode l m)
  have ok := s.ok_keeps h .mode (.mode l m)
  dsimp only
  split
  · exact ok
  · cases m
    · refine s.examined_keeps h _ _ _ fun _ tests => ok.trans ?_
      obtain ⟨state, admits, -⟩ := s.testManual_ok.1 tests
      exact State.toManual_keeps _ l x (by rw [answered.loader, state])
        (by rw [answered.admitsMode, admits])
    · refine s.examined_keeps h _ _ _ fun _ tests => ok.trans ?_
      obtain ⟨state, admits, -⟩ := s.testSupervised_ok.1 tests
      exact State.toSupervised_keeps _ l x (by rw [answered.loader, state])
        (by rw [answered.admitsMode, admits])

theorem State.takeMission_keeps (h : Header) (loader route : Byte) :
    s.keeps (s.takeMission h loader route) :=
  s.examined_keeps h _ _ _ fun _ _ => (s.ok_keeps h _ _).trans (State.order_keeps _ _ _)

theorem State.examineSup_ok {h : Header} {loader : Byte} {l : LoaderId} :
    s.examineSup h loader = .ok l ↔ h.fromSup = .ok () ∧ loaderOf loader = some l ∧
      (s.loader l).state ≠ .unenrolled := by
  simp only [State.examineSup, examine_bind_ok, meaning_ok, State.enrolled, ensure_ok, ok_inj]
  constructor
  · rintro ⟨⟨⟩, hs, l, hl, -, e, rfl⟩; exact ⟨hs, hl, e⟩
  · rintro ⟨hs, hl, e⟩; exact ⟨⟨⟩, hs, l, hl, ⟨⟩, e, rfl⟩

theorem State.examineState_ok {h : Header} {loader : Byte} {want : LoaderState} {l : LoaderId} :
    s.examineState h loader want = .ok l ↔
      s.examineSup h loader = .ok l ∧ (s.loader l).state = want := by
  simp only [State.examineState, examine_bind_ok, ensure_ok, ok_inj]
  constructor
  · rintro ⟨l, hs, -, e, rfl⟩; exact ⟨hs, e⟩
  · rintro ⟨hs, e⟩; exact ⟨l, hs, ⟨⟩, e, rfl⟩

/-- A loader without authority has no holder. -/
theorem Loader.sound.unheld {r : Loader} (sound : r.sound) (state : r.state ∈ idleStates) :
    r.holder = none := by
  rw [← Option.not_isSome_iff_eq_none, sound.holder]
  simp only [List.mem_cons, List.not_mem_nil, or_false] at state
  rcases state with e | e | e | e <;> simp [e]

theorem State.parkLoader_keeps (l : LoaderId) (state : (s.loader l).state ∈ idleStates) :
    s.keeps (s.parkLoader l) := by
  have frame : s.sameBut [.loaders, .fleet] (s.parkLoader l) :=
    (s.modLoader_sameBut l _).mono.trans (State.emitHold_sameBut _ l).mono
  have others : s.otherLoaders l (s.parkLoader l) := fun n ne => by
    rw [State.parkLoader, State.emitHold_loader_ne _ ne, State.modLoader_loader_ne _ ne]
  have record : ((s.parkLoader l).loader l).state = .parked ∧
      ((s.parkLoader l).loader l).holder = (s.loader l).holder := by
    rw [State.parkLoader, State.emitHold_loader, State.modLoader_loader_self]
    exact ⟨rfl, rfl⟩
  have idle : ((s.parkLoader l).loader l).state ∈ idleStates := by simp [record.1]
  exact ⟨(s.modLoader_keepsLimits l _).trans (State.emitHold_keeps _ l).limits,
    .of_unheld (l := l) frame.mono others (State.lampLaw.of_idle frame.lamps frame.inReset others
      (Loader.noAuthority state) (Loader.noAuthority idle))
      (fun _ e => by rw [e] at state; simp at state) idle
      fun laws => record.2.trans ((laws.sound l).unheld state)⟩

theorem State.takePark_keeps (h : Header) (loader : Byte) : s.keeps (s.takePark h loader) := by
  refine s.examined_keeps h _ _ _ fun l hl => (s.ok_keeps h _ _).trans
    (State.parkLoader_keeps _ l ?_)
  rw [(s.ok_sameBut h _ _).loader, (s.examineState_ok.1 hl).2]
  decide

theorem State.takeRestore_keeps (h : Header) (loader : Byte) :
    s.keeps (s.takeRestore h loader) := by
  refine s.examined_keeps h _ _ _ fun l hl => (s.ok_keeps h _ _).trans
    (State.parkLoader_keeps _ l ?_)
  rw [(s.ok_sameBut h _ _).loader, (s.examineState_ok.1 hl).2]
  decide

theorem State.isolateAbort_keeps (l : LoaderId) : s.keeps (s.isolateAbort l) := by
  unfold State.isolateAbort
  split
  · exact s.abort_keeps _ _
  · exact .refl s

/-- Once its handover is aborted a loader is not in TRANSFER (04 R88). -/
theorem State.isolateAbort_out (l : LoaderId) (laws : s.flightLaws) :
    ((s.isolateAbort l).loader l).state ≠ .transfer := by
  unfold State.isolateAbort
  split
  · next k transfer context =>
    obtain ⟨n, x, named, used, mine⟩ := laws.linked.named l transfer
    rw [context] at named
    cases named
    exact mine ▸ State.abort_state_ne_transfer used .isolated laws
  · next other =>
    intro transfer
    obtain ⟨n, x, named, -⟩ := laws.linked.named l transfer
    exact other n transfer named

/-- Steps 2 to 4 of an isolation and its notice; the HOLD and the lamps follow (03 R62). -/
def State.isolateBegun (s : State) (l : LoaderId) : State :=
  match (s.loader l).holder with
  | some x => ((s.vacate l).modLoader l Loader.isolated).tellChair x.chair (.isolated l x.slot)
  | none => (s.vacate l).modLoader l Loader.isolated

theorem State.isolateRest_eq (l : LoaderId) :
    s.isolateRest l = (((s.isolateBegun l).emitHold l).updateLamps).checkZoneOf l := by
  unfold State.isolateRest State.isolateBegun
  cases (s.loader l).holder <;> rfl

theorem State.isolateBegun_after (l : LoaderId) :
    ((s.vacate l).modLoader l Loader.isolated).sameBut [.queues, .supQueue] (s.isolateBegun l) := by
  unfold State.isolateBegun
  split
  · exact State.tellChair_sameBut _ _ _
  · exact .refl _ _

theorem State.isolateBegun_keepsLimits (l : LoaderId) : s.keepsLimits (s.isolateBegun l) := by
  have begun := (s.vacate_keeps l).limits.trans (State.modLoader_keepsLimits _ l Loader.isolated)
  unfold State.isolateBegun
  split
  · exact begun.trans (State.tellChair_keepsLimits _ _ _)
  · exact begun

theorem State.isolateBegun_loader (l : LoaderId) :
    (s.isolateBegun l).loader l = (s.loader l).isolated := by
  rw [(s.isolateBegun_after l).loader, State.modLoader_loader_self, s.vacate_loader]

theorem State.isolateBegun_loader_ne {l n : LoaderId} (ne : n ≠ l) :
    (s.isolateBegun l).loader n = s.loader n := by
  rw [(s.isolateBegun_after l).loader, State.modLoader_loader_ne _ ne, s.vacate_loader]

/-- What the rest of an isolation keeps whatever the loader's state, and what it keeps of a loader
outside TRANSFER. -/
theorem State.isolateRest_keeps (l : LoaderId) :
    s.keepsLimits (s.isolateRest l) ∧ (s.isolateRest l).lampLaw ∧
      (s.stopLaw → (s.isolateRest l).stopLaw) ∧
      ((s.flightLaws → (s.loader l).state ≠ .transfer) → s.keeps (s.isolateRest l)) := by
  rw [s.isolateRest_eq]
  generalize after : ((s.isolateBegun l).emitHold l).updateLamps = t
  have frame : s.sameBut [.loaders, .chairs, .watch, .queues, .supQueue, .fleet, .lamps] t :=
    after ▸ ((((s.vacate_sameBut l).mono.trans (State.modLoader_sameBut _ l _).mono).trans
      (s.isolateBegun_after l).mono).trans (State.emitHold_sameBut _ l).mono).trans
      (State.updateLamps_sameBut _).mono
  have record : (t.loader l).state = .isolated ∧ (t.loader l).holder = none := by
    rw [← after, State.updateLamps_loader, State.emitHold_loader, s.isolateBegun_loader]
    exact ⟨rfl, rfl⟩
  have others : s.otherLoaders l t := fun n ne => by
    rw [← after, State.updateLamps_loader, State.emitHold_loader_ne _ ne,
      s.isolateBegun_loader_ne ne]
  have limits : s.keepsLimits t :=
    after ▸ ((s.isolateBegun_keepsLimits l).trans (State.emitHold_keeps _ l).limits).trans
      (State.updateLamps_keepsLimits _)
  have lamps : t.lampLaw := after ▸ (State.updateLamps_shown _).lampLaw
  have idle : (t.loader l).state ∈ idleStates := by simp [record.1]
  have rest := t.checkZoneOf_keeps l
  refine ⟨limits.trans rest.limits, rest.authority.lamps lamps, fun law => rest.authority.stop ?_,
    fun out => .trans ⟨limits, .of_unheld frame.mono others (fun _ => lamps) out idle
      fun _ => record.2⟩ rest⟩
  rw [State.stopLaw_iff] at law ⊢
  rw [frame.stopAll]
  exact fun on => (law on).of_loader others (fun k => frame.handover k)
    fun _ => Loader.noAuthority idle

theorem State.isolate_keeps (l : LoaderId) : s.keeps ((s.isolateAbort l).isolateRest l) := by
  have begun := s.isolateAbort_keeps l
  obtain ⟨limits, lamps, stop, rest⟩ := (s.isolateAbort l).isolateRest_keeps l
  exact .of_laws (begun.limits.trans limits) (fun _ => lamps) (stop ∘ begun.authority.stop)
    fun laws => begun.trans (rest fun _ => s.isolateAbort_out l laws)

theorem State.takeIsolate_keeps (h : Header) (loader : Byte) :
    s.keeps (s.takeIsolate h loader) := by
  refine s.examined_keeps h _ _ _ fun l _ => ?_
  have ok := s.ok_keeps h .isolate (.loader l)
  dsimp only
  split
  · exact ok
  · exact ok.trans (State.isolate_keeps _ l)

theorem State.takeSetClearance_keeps (h : Header) (chair levels : Byte) :
    s.keeps (s.takeSetClearance h chair levels) :=
  s.examined_keeps h _ _ _ fun _ _ => (s.ok_keeps h _ _).trans (State.modChair_keeps _ _ _)

theorem State.takeWithdraw_keeps (h : Header) (scope number filter : Byte) :
    s.keeps (s.takeWithdraw h scope number filter) :=
  s.examined_keeps h _ _ _ fun _ _ => (((s.ok_keeps h _ _).trans
    (State.takeAuthority_keeps _ _ _)).trans (State.checkClosures_keeps _ _)).trans
    (State.furtherAll_keeps _ _ _)

/-! ## Handovers (Chapter 4) -/

theorem State.sameBut.canStart {ps : List Part} {s t : State} (h : s.sameBut ps t) {x : Start}
    (start : s.canStart x) (loaders : Part.loaders ∉ ps := by decide)
    (zones : Part.zones ∉ ps := by decide) (handovers : Part.handovers ∉ ps := by decide)
    (stop : Part.stopAll ∉ ps := by decide) : t.canStart x := by
  obtain ⟨free, first, ground⟩ := start
  refine ⟨by rw [h.handover _ handovers]; exact free, by rw [h.loader _ loaders]; exact first, ?_⟩
  rw [h.loader _ loaders, h.stopAll stop, h.admitsMode _ _ loaders zones]
  exact ground

theorem State.tellOffered_keeps (k : CtxId) : s.keeps (s.tellOffered k) := by
  unfold State.tellOffered
  split
  · split
    · exact s.tellChair_keeps _ _
    · exact .refl s
  · exact .refl s

theorem State.tellRequested_keeps (k : CtxId) : s.keeps (s.tellRequested k) := by
  unfold State.tellRequested
  split
  · exact s.tellChair?_keeps _ _
  · exact .refl s

theorem State.tellForcedParties_keeps (k : CtxId) : s.keeps (s.tellForcedParties k) := by
  unfold State.tellForcedParties
  split
  · exact .refl s
  · exact (s.tellChair_keeps _ _).trans (State.tellChair?_keeps _ _ _)

theorem State.enterSettling_keeps (k : CtxId) : s.keeps (s.enterSettling k) := by
  unfold State.enterSettling
  split
  · exact .refl s
  · next h used =>
    exact ((s.setHandover_keeps k used).trans (State.emitHold_keeps _ _)).trans
      (State.tellParties_keeps _ _ _)

theorem State.enterConfirming_keeps (k : CtxId) : s.keeps (s.enterConfirming k) := by
  unfold State.enterConfirming
  split
  · exact .refl s
  · next h used =>
    refine .trans ?_ (State.tellChair?_keeps _ _ _)
    refine .trans ?_ (State.tellChair_keeps _ _ _)
    refine .trans ?_ (State.emitHold_keeps _ _)
    have entered := s.setHandover_keeps k used
      (h' := { h with phase := .confirming, timer := Timer.start s.params.confirmMs })
    split
    · exact entered.trans (State.stopLapse_keeps _ _)
    · exact entered

theorem State.returnToSettling_keeps (k : CtxId) : s.keeps (s.returnToSettling k) := by
  unfold State.returnToSettling
  split
  · exact .refl s
  · refine .trans ?_ (State.enterSettling_keeps _ _)
    split
    · exact s.startLapse_keeps _
    · exact .refl s

theorem State.decidePhase_keeps (k : CtxId) : s.keeps (s.decidePhase k) := by
  unfold State.decidePhase
  split
  · exact .refl s
  · split
    · exact s.enterConfirming_keeps k
    · exact s.enterSettling_keeps k

theorem State.examineOffer_ok {h : Header} {loader taking target : Byte} {x : Start} :
    s.examineOffer h loader taking target = .ok x ↔ ∃ c, h.fromChair = .ok c ∧
      loaderOf loader = some x.loader ∧ chairOf taking = some x.taking ∧
      modeOf target = some x.target ∧ (s.loader x.loader).state ≠ .unenrolled ∧ x.taking ≠ c ∧
      (s.loader x.loader).state ≠ .transfer ∧
      ((s.loader x.loader).state = .driven ∨ (s.loader x.loader).state = .supervised) ∧
      (s.loader x.loader).heldBy c = true ∧ s.isUp x.taking = true ∧
      s.needContext = .ok x.context ∧ x.kind = .offer ∧ x.slot = none := by
  obtain ⟨l, kind, t, slot, m, k⟩ := x
  simp only [State.examineOffer, examine_bind_ok, meaning_ok, ensure_ok, State.enrolled,
    State.notInTransfer, exists_const, ok_inj, Start.mk.injEq]
  constructor
  · rintro ⟨c, hc, l, hl, t, ht, m, hm, e, ne, out, held, by_c, up, k, hk,
      rfl, rfl, rfl, rfl, rfl, rfl⟩
    exact ⟨c, hc, hl, ht, hm, e, ne, out, held, by_c, up, hk, rfl, rfl⟩
  · rintro ⟨c, hc, hl, ht, hm, e, ne, out, held, by_c, up, hk, rfl, rfl⟩
    exact ⟨c, hc, l, hl, t, ht, m, hm, e, ne, out, held, by_c, up, k, hk,
      rfl, rfl, rfl, rfl, rfl, rfl⟩

theorem Loader.startStates_of_held {r : Loader}
    (held : r.state = .driven ∨ r.state = .supervised) :
    r.state ∈ startStates ∧ r.hasAuthority = true := by
  rcases held with e | e <;> simp [Loader.hasAuthority, e, LoaderState.hasAuthority]

theorem State.takeOffer_keeps (h : Header) (loader taking target : Byte) :
    s.keeps (s.takeOffer h loader taking target) := by
  refine s.examined_keeps h _ _ _ fun x hx => ?_
  obtain ⟨c, -, -, -, -, -, -, -, held, -, -, context, -, -⟩ := s.examineOffer_ok.1 hx
  obtain ⟨start, authority⟩ := Loader.startStates_of_held held
  have can : s.canStart x := ⟨State.needContext_ok context, start, .inl authority⟩
  exact ((s.ok_keeps h _ _).trans (State.createHandover_keeps _ x _ _
    ((s.ok_sameBut h _ _).canStart can))).trans (State.tellOffered_keeps _ _)

theorem State.examineRequest_ok {h : Header} {loader slot target : Byte} {x : Start} :
    s.examineRequest h loader slot target = .ok x ↔ h.fromChair = .ok x.taking ∧
      loaderOf loader = some x.loader ∧ modeOf target = some x.target ∧
      (s.loader x.loader).state ≠ .unenrolled ∧ (s.loader x.loader).state ≠ .transfer ∧
      (((s.loader x.loader).state = .driven ∨ (s.loader x.loader).state = .supervised) ∧
        (s.loader x.loader).heldBy x.taking = false) ∧
      s.needContext = .ok x.context ∧ x.kind = .request ∧ ∃ i, slotOf slot = some i ∧
      s.checkReserve x.loader x.taking i x.target = .ok () ∧ x.slot = some i := by
  obtain ⟨l, kind, t, slot, m, k⟩ := x
  simp only [State.examineRequest, examine_bind_ok, meaning_ok, ensure_ok, State.enrolled,
    State.notInTransfer, exists_const, exists_and_right, test_passes, ok_inj, Start.mk.injEq]
  constructor
  · rintro ⟨c, hc, l, hl, i, hi, m, hm, e, out, held, ck, k, hk,
      rfl, rfl, rfl, rfl, rfl, rfl⟩
    exact ⟨hc, hl, hm, e, out, held, hk, rfl, i, hi, ck, rfl⟩
  · rintro ⟨hc, hl, hm, e, out, held, hk, rfl, i, hi, ck, rfl⟩
    exact ⟨t, hc, l, hl, i, hi, m, hm, e, out, held, ck, k, hk,
      rfl, rfl, rfl, rfl, rfl, rfl⟩

theorem State.takeRequestStart_keeps (h : Header) (loader slot target : Byte) :
    s.keeps (s.takeRequestStart h loader slot target) := by
  refine s.examined_keeps h _ _ _ fun x hx => ?_
  obtain ⟨-, -, -, -, -, ⟨held, -⟩, context, -⟩ := s.examineRequest_ok.1 hx
  obtain ⟨start, authority⟩ := Loader.startStates_of_held held
  have can : s.canStart x := ⟨State.needContext_ok context, start, .inl authority⟩
  exact ((s.ok_keeps h _ _).trans (State.createHandover_keeps _ x _ _
    ((s.ok_sameBut h _ _).canStart can))).trans (State.tellRequested_keeps _ _)

theorem State.examineForce_ok {h : Header} {loader taking slot target : Byte} {x : Start} :
    s.examineForce h loader taking slot target = .ok x ↔ h.fromSup = .ok () ∧
      loaderOf loader = some x.loader ∧ chairOf taking = some x.taking ∧
      modeOf target = some x.target ∧ (s.loader x.loader).state ≠ .unenrolled ∧
      (s.loader x.loader).state ≠ .transfer ∧ (s.loader x.loader).heldBy x.taking = false ∧
      forcible (s.loader x.loader) = true ∧ s.needContext = .ok x.context ∧ x.kind = .force ∧
      ∃ i, slotOf slot = some i ∧ s.checkReserve x.loader x.taking i x.target = .ok () ∧
        x.slot = some i := by
  obtain ⟨l, kind, t, slot, m, k⟩ := x
  simp only [State.examineForce, examine_bind_ok, meaning_ok, ensure_ok, State.enrolled,
    State.notInTransfer, exists_const, exists_and_right, test_passes, ok_inj, Start.mk.injEq]
  constructor
  · rintro ⟨hs, l, hl, t, ht, i, hi, m, hm, e, out, other, may, ck, k, hk,
      rfl, rfl, rfl, rfl, rfl, rfl⟩
    exact ⟨hs, hl, ht, hm, e, out, other, may, hk, rfl, i, hi, ck, rfl⟩
  · rintro ⟨hs, hl, ht, hm, e, out, other, may, hk, rfl, i, hi, ck, rfl⟩
    exact ⟨hs, l, hl, t, ht, i, hi, m, hm, e, out, other, may, ck, k, hk,
      rfl, rfl, rfl, rfl, rfl, rfl⟩

theorem forcible_iff (r : Loader) : forcible r = true ↔ r.state ∈ startStates := by
  cases e : r.state <;> simp [forcible, e]

theorem State.takeForce_keeps (h : Header) (loader taking slot target : Byte) :
    s.keeps (s.takeForce h loader taking slot target) := by
  refine s.examined_keeps h _ _ _ fun x hx => ?_
  obtain ⟨-, -, -, -, -, -, -, may, context, -, i, -, checks, -⟩ := s.examineForce_ok.1 hx
  have can : s.canStart x :=
    ⟨State.needContext_ok context, (forcible_iff _).1 may, .inr (State.checkReserve_admits checks)⟩
  exact (((s.ok_keeps h _ _).trans (State.createHandover_keeps _ x _ _
    ((s.ok_sameBut h _ _).canStart can))).trans (State.tellForcedParties_keeps _ _)).trans
    (State.decidePhase_keeps _ _)

theorem State.namedHandover_ok {loader context : Byte} {k : CtxId} {x : Handover} :
    s.namedHandover loader context = .ok (k, x) ↔ ∃ l, loaderOf loader = some l ∧
      ctxOf context = some k ∧ (s.loader l).state ≠ .unenrolled ∧
      (s.loader l).state = .transfer ∧ (s.loader l).context = some k ∧
      s.handover k = some x := by
  simp only [State.namedHandover, examine_bind_ok, meaning_ok, ensure_ok, State.enrolled]
  constructor
  · rintro ⟨l, hl, n, hn, -, e, -, ⟨transfer, named⟩, found⟩
    split at found
    · next y used => cases found; exact ⟨l, hl, hn, e, transfer, named, used⟩
    · cases found
  · rintro ⟨l, hl, hk, e, transfer, named, used⟩
    exact ⟨l, hl, k, hk, ⟨⟩, e, ⟨⟩, ⟨transfer, named⟩, by rw [used]⟩

theorem State.examineAccept_ok {h : Header} {loader context slot : Byte} {k : CtxId} {x : Handover}
    {i : SlotId} :
    s.examineAccept h loader context slot = .ok (k, x, i) ↔ ∃ c, h.fromChair = .ok c ∧
      slotOf slot = some i ∧ s.namedHandover loader context = .ok (k, x) ∧
      (x.kind = .offer ∧ x.taking = c) ∧ x.phase = .offered ∧ x.suspended = false ∧
      s.checkReserve x.loader c i x.target = .ok () := by
  simp only [State.examineAccept, examine_bind_ok, meaning_ok, ensure_ok, exists_const,
    exists_and_right, test_passes, ok_inj, Prod.exists, Prod.mk.injEq]
  constructor
  · rintro ⟨c, hc, -, -, i, hi, k, x, named, mine, phase, runs, ck, rfl, rfl, rfl⟩
    exact ⟨c, hc, hi, named, mine, phase, runs, ck⟩
  · rintro ⟨c, hc, hi, named, mine, phase, runs, ck⟩
    obtain ⟨l, hl, hk, -⟩ := s.namedHandover_ok.1 named
    exact ⟨c, hc, ⟨l, hl⟩, ⟨k, hk⟩, i, hi, k, x, named, mine, phase, runs, ck, rfl, rfl, rfl⟩

theorem State.namedHandover_used {s : State} {loader context : Byte} {k : CtxId} {x : Handover}
    (h : s.namedHandover loader context = .ok (k, x)) : s.handover k = some x := by
  obtain ⟨l, -, -, -, -, -, used⟩ := s.namedHandover_ok.1 h
  exact used

theorem State.reserve_keeps (k : CtxId) (x : Handover) (i : SlotId)
    (used : s.handover k = some x) : s.keeps (s.reserve k x i) :=
  (s.fillSlot_keeps _ _ _).trans (State.setHandover_keeps _ k (h := x) used)

theorem State.takeAccept_keeps (h : Header) (loader context slot : Byte) :
    s.keeps (s.takeAccept h loader context slot) := by
  refine s.examined_keeps h _ _ _ fun ⟨k, x, i⟩ hx => ?_
  obtain ⟨c, -, -, named, -⟩ := s.examineAccept_ok.1 hx
  exact ((s.ok_keeps h _ _).trans (State.reserve_keeps _ k x i (by
    rw [(s.ok_sameBut h _ _).handover]; exact State.namedHandover_used named))).trans
    (State.decidePhase_keeps _ _)

theorem State.takeYield_keeps (h : Header) (loader context : Byte) :
    s.keeps (s.takeYield h loader context) :=
  s.examined_keeps h _ _ _ fun _ _ => (s.ok_keeps h _ _).trans (State.decidePhase_keeps _ _)

theorem State.takeDecline_keeps (h : Header) (loader context : Byte) :
    s.keeps (s.takeDecline h loader context) :=
  s.examined_keeps h _ _ _ fun _ _ => (s.ok_keeps h _ _).trans (State.abortAlone_keeps _ _ _)

theorem State.takeRefuse_keeps (h : Header) (loader context : Byte) :
    s.keeps (s.takeRefuse h loader context) :=
  s.examined_keeps h _ _ _ fun _ _ => (s.ok_keeps h _ _).trans (State.abortAlone_keeps _ _ _)

theorem State.examineConfirm_ok {h : Header} {loader context : Byte} {k : CtxId} {x : Handover} :
    s.examineConfirm h loader context = .ok (k, x) ↔ ∃ c, h.fromChair = .ok c ∧
      s.namedHandover loader context = .ok (k, x) ∧ x.taking = c ∧ x.phase = .confirming ∧
      s.checkNeutral c x.target = .ok () := by
  simp only [State.examineConfirm, examine_bind_ok, ensure_ok, exists_const, exists_and_right,
    test_passes, ok_inj, Prod.exists, Prod.mk.injEq]
  constructor
  · rintro ⟨c, hc, k, x, named, mine, phase, ck, rfl, rfl⟩
    exact ⟨c, hc, named, mine, phase, ck⟩
  · rintro ⟨c, hc, named, mine, phase, ck⟩
    exact ⟨c, hc, k, x, named, mine, phase, ck, rfl, rfl⟩

theorem State.takeConfirm_keeps (h : Header) (loader context : Byte) :
    s.keeps (s.takeConfirm h loader context) := by
  refine s.examined_keeps h _ _ _ fun ⟨k, x⟩ hx => ?_
  obtain ⟨c, -, named, -⟩ := s.examineConfirm_ok.1 hx
  have used := State.namedHandover_used named
  dsimp only
  split
  · exact (s.answer_keeps h _ _).trans (State.abortAlone_keeps _ _ _)
  · next checks =>
    have answered := s.ok_sameBut h .confirm (.context k)
    refine (s.ok_keeps h _ _).trans (State.commit_keeps _ k fun y hy => ?_)
    rw [answered.handover, used] at hy
    cases hy
    rw [answered.admitsMode]
    exact (s.checkGround_ok.1 checks).2.2.1

theorem State.takeCancel_keeps (h : Header) (loader context : Byte) :
    s.keeps (s.takeCancel h loader context) :=
  s.examined_keeps h _ _ _ fun _ _ => (s.ok_keeps h _ _).trans (State.abortAlone_keeps _ _ _)

theorem State.examineSuspend_ok {h : Header} {loader context : Byte} {k : CtxId} {x : Handover} :
    s.examineSuspend h loader context = .ok (k, x) ↔ h.fromSup = .ok () ∧
      s.namedHandover loader context = .ok (k, x) ∧ x.phase ≠ .confirming ∧
      x.suspended = false := by
  simp only [State.examineSuspend, examine_bind_ok, ensure_ok, exists_const, exists_and_right,
    test_passes, ok_inj, Prod.exists, Prod.mk.injEq]
  constructor
  · rintro ⟨hs, k, x, named, phase, runs, rfl, rfl⟩; exact ⟨hs, named, phase, runs⟩
  · rintro ⟨hs, named, phase, runs⟩
    exact ⟨hs, k, x, named, phase, runs, rfl, rfl⟩

theorem State.suspendHandover_keeps (k : CtxId) (x : Handover) (used : s.handover k = some x) :
    s.keeps (s.suspendHandover k x) :=
  ((s.setHandover_keeps k used).trans (State.settleRefresh_keeps _ _)).trans
    (State.tellParties_keeps _ _ _)

theorem State.takeSuspend_keeps (h : Header) (loader context : Byte) :
    s.keeps (s.takeSuspend h loader context) := by
  refine s.examined_keeps h _ _ _ fun ⟨k, x⟩ hx => ?_
  obtain ⟨-, named, -⟩ := s.examineSuspend_ok.1 hx
  exact (s.ok_keeps h _ _).trans (State.suspendHandover_keeps _ k x (by
    rw [(s.ok_sameBut h _ _).handover]; exact State.namedHandover_used named))

theorem State.examineResume_ok {h : Header} {loader context : Byte} {k : CtxId} {x : Handover} :
    s.examineResume h loader context = .ok (k, x) ↔ h.fromSup = .ok () ∧
      s.namedHandover loader context = .ok (k, x) ∧ x.suspended = true := by
  simp only [State.examineResume, examine_bind_ok, ensure_ok, exists_const, exists_and_right,
    test_passes, ok_inj, Prod.exists, Prod.mk.injEq]
  constructor
  · rintro ⟨hs, k, x, named, still, rfl, rfl⟩; exact ⟨hs, named, still⟩
  · rintro ⟨hs, named, still⟩; exact ⟨hs, k, x, named, still, rfl, rfl⟩

theorem State.resumeHandover_keeps (k : CtxId) (x : Handover) (used : s.handover k = some x) :
    s.keeps (s.resumeHandover k x) := by
  unfold State.resumeHandover
  refine .trans ?_ (State.tellParties_keeps _ _ _)
  have runs := fun timer => s.setHandover_keeps k used
    (h' := { x with suspended := false, timer := timer })
  split
  · exact (runs _).trans (State.emitHold_keeps _ _)
  · exact runs _

theorem State.takeResume_keeps (h : Header) (loader context : Byte) :
    s.keeps (s.takeResume h loader context) := by
  refine s.examined_keeps h _ _ _ fun ⟨k, x⟩ hx => ?_
  obtain ⟨-, named, -⟩ := s.examineResume_ok.1 hx
  exact (s.ok_keeps h _ _).trans (State.resumeHandover_keeps _ k x (by
    rw [(s.ok_sameBut h _ _).handover]; exact State.namedHandover_used named))

end Sys2Proof.Machine
end

section
/-! PROOF. Records, zones, settings, watches, queries, drive frames, links and timers keep the laws one
by one (Chapters 1, 2, 5, 7, 8 and 9). -/

namespace Sys2Proof.Machine

-- One theorem after another, so that the compile stays within its memory.
set_option Elab.async false

variable (s : State)

/-! ## The radio address map (01 1-3) -/

theorem State.setAddress_sameBut (l : LoaderId) (a : Option Word16) :
    s.sameBut [.radioMap] (s.setAddress l a) := by
  intro p hp
  cases p
  case radioMap => simp at hp
  all_goals rfl

theorem State.setAddress_radioMap (l n : LoaderId) (a : Option Word16) :
    (s.setAddress l a).radioMap[n] = if n = l then a else s.radioMap[n] := by
  by_cases same : n = l
  · subst same; simp [State.setAddress]
  · simp [State.setAddress, Fin.val_ne_of_ne (Ne.symm same), same]

/-- A step that changes only the map, and what no limit speaks of, keeps the limits where the map
keeps its law. -/
theorem State.keepsLimits.of_addresses {s t : State}
    (h : s.sameBut (.radioMap :: unlimitedParts) t) (addresses : s.addressLaw → t.addressLaw) :
    s.keepsLimits t where
  params := by unfold State.paramLaw; rw [h.params]; exact id
  chairLinks c := by rw [h.link c]; exact id
  supLink := by rw [h.supLink]; exact id
  fleetLink := by rw [h.fleet]; exact id
  addresses := addresses
  loaders l := by rw [h.loader l]; exact id
  zones z := by rw [h.zone z]; exact id
  chairs c := by rw [h.chair c]; exact id
  queues p := by rw [h.queue p]; exact id
  orders := by rw [h.fleet]; exact id
  closures := State.closureLaw_congr (fun z => by rw [h.zone z]) fun k => by rw [h.closure k]
  pending := h .pending (by decide)
  line := h .line (by decide)

theorem State.setAddress_keeps (l : LoaderId) (a : Option Word16)
    (sound : ∀ x ∈ a, x ≠ 0 ∧ x ≠ 65535) (fresh : ∀ x ∈ a, ∀ n : LoaderId, s.radioMap[n] ≠ some x) :
    s.keeps (s.setAddress l a) := by
  have frame := s.setAddress_sameBut l a
  refine (State.keepsLimits.of_addresses frame.mono ?_).plain frame.mono
  rintro ⟨each, once⟩
  constructor
  · intro n x hx
    rw [State.setAddress_radioMap] at hx
    split at hx
    · exact sound x hx
    · exact each n x hx
  · intro n m filled same
    rw [State.setAddress_radioMap] at filled
    simp only [State.setAddress_radioMap] at same
    by_cases hn : n = l <;> by_cases hm : m = l
    · rw [hn, hm]
    · rw [if_pos hn] at filled same
      rw [if_neg hm] at same
      obtain ⟨x, rfl⟩ := Option.isSome_iff_exists.1 filled
      exact absurd same.symm (fresh x rfl m)
    · rw [if_neg hn] at filled same
      rw [if_pos hm] at same
      obtain ⟨x, hx⟩ := Option.isSome_iff_exists.1 filled
      exact absurd hx (fresh x (same.symm.trans hx) n)
    · rw [if_neg hn] at filled same
      rw [if_neg hm] at same
      exact once n m filled same

/-! ## ENROL and RETIRE (01 R4, R5) -/

/-- A record without authority is written over another one. -/
theorem State.setLoader_keeps_of_idle (l : LoaderId) (r : Loader)
    (range : (s.loader l).inRange → r.inRange) (before : (s.loader l).state ∈ idleStates)
    (after : r.state ∈ idleStates) (holder : r.holder = none) : s.keeps (s.setLoader l r) := by
  have frame := s.setLoader_sameBut l r
  have others : s.otherLoaders l (s.setLoader l r) := fun n ne => State.setLoader_loader_ne _ ne _
  have record := State.setLoader_loader_self s l r
  exact ⟨s.setLoader_keepsLimits l r range, .of_unheld (l := l) frame.mono others
    (State.lampLaw.of_idle frame.lamps frame.inReset others (Loader.noAuthority before)
      (by rw [record]; exact Loader.noAuthority after))
    (fun _ e => by rw [e] at before; simp at before) (by rw [record]; exact after)
    fun _ => by rw [record]; exact holder⟩

theorem Loader.blank_inRange (r : Loader) (position : r.position = none)
    (reported : r.lastReported = none) (age : r.age = 65535) : r.inRange := by
  simp [Loader.inRange, position, reported, age]

theorem State.examineEnrol_ok {h : Header} {loader : Byte} {address : Word16} {l : LoaderId} :
    s.examineEnrol h loader address = .ok l ↔ h.fromSup = .ok () ∧ loaderOf loader = some l ∧
      (s.loader l).state = .unenrolled ∧ (address ≠ 0 ∧ address ≠ 65535) ∧
      ∀ n : LoaderId, s.radioMap[n] ≠ some address := by
  have absent : (¬ s.radioMap.contains (some address) = true) ↔
      ∀ n : LoaderId, s.radioMap[n] ≠ some address := by
    rw [Vector.contains_iff_mem, Vector.mem_iff_getElem]
    constructor
    · exact fun h n e => h ⟨n.1, n.2, e⟩
    · rintro h ⟨i, hi, e⟩; exact h ⟨i, hi⟩ e
  simp only [State.examineEnrol, examine_bind_ok, meaning_ok, ensure_ok, exists_const,
    exists_and_right, test_passes, ok_inj, absent]
  constructor
  · rintro ⟨hs, l, hl, e, ha, free, rfl⟩; exact ⟨hs, hl, e, ha, free⟩
  · rintro ⟨hs, hl, e, ha, free⟩; exact ⟨hs, l, hl, e, ha, free, rfl⟩

theorem State.takeEnrol_keeps (h : Header) (loader : Byte) (address : Word16) :
    s.keeps (s.takeEnrol h loader address) := by
  refine s.examined_keeps h _ _ _ fun l hl => ?_
  obtain ⟨-, -, state, sound, fresh⟩ := s.examineEnrol_ok.1 hl
  have answered := s.ok_sameBut h .enrol (.loader l)
  refine .trans ?_ (State.emitHold_keeps _ l)
  refine ((s.ok_keeps h _ _).trans (State.setAddress_keeps _ l (some address) ?_ ?_)).trans
    (State.setLoader_keeps_of_idle _ l _ (fun _ => Loader.blank_inRange _ rfl rfl rfl) ?_
      (by simp [Loader.enrolled]) rfl)
  · rintro x ⟨⟩; exact sound
  · rintro x ⟨⟩ n; rw [answered.radioMap]; exact fresh n
  · rw [(State.setAddress_sameBut _ l _).loader, answered.loader, state]; decide

theorem State.examineRetire_ok {h : Header} {loader : Byte} {l : LoaderId} :
    s.examineRetire h loader = .ok l ↔ s.examineSup h loader = .ok l ∧
      ((s.loader l).state = .parked ∨ (s.loader l).state = .halted ∨
        (s.loader l).state = .isolated) := by
  simp only [State.examineRetire, examine_bind_ok, ensure_ok, exists_const, ok_inj]
  constructor
  · rintro ⟨l, hs, e, rfl⟩; exact ⟨hs, e⟩
  · rintro ⟨hs, e⟩; exact ⟨l, hs, e, rfl⟩

theorem State.removeReports_queue (l : LoaderId) (p : Port) :
    (s.removeReports l).queue p = (s.queue p).withoutReports l := by
  cases p <;> simp [State.removeReports, State.queue]

theorem State.removeReports_sameBut (l : LoaderId) :
    s.sameBut [.queues, .supQueue] (s.removeReports l) := by
  intro p hp
  cases p
  case queues => simp at hp
  case supQueue => simp at hp
  all_goals rfl

theorem State.removeReports_keeps (l : LoaderId) : s.keeps (s.removeReports l) := by
  have frame := s.removeReports_sameBut l
  refine (State.keepsLimits.of_queues frame fun p law => ?_).plain frame.mono
  rw [s.removeReports_queue]
  exact law.of_sublist List.filter_sublist id

theorem State.updateLamps_keeps : s.keeps s.updateLamps := by
  refine ⟨s.updateLamps_keepsLimits, fun _ => s.updateLamps_shown.lampLaw, fun h =>
    ⟨⟨h.linked.used, h.linked.named⟩, h.sound⟩, fun _ _ h => h, fun h => h⟩

theorem State.retireLoader_keeps (l : LoaderId) (state : (s.loader l).state ∈ idleStates) :
    s.keeps (s.retireLoader l) := by
  refine .trans ?_ (State.updateLamps_keeps _)
  refine (((s.setAddress_keeps l none (by simp) (by simp)).trans (State.setWatch_keeps _ _)).trans
    (State.removeReports_keeps _ l)).trans
    (State.setLoader_keeps_of_idle _ l _ (fun _ => Loader.blank_inRange _ rfl rfl rfl) ?_
      (by simp [Loader.blank]) rfl)
  exact state

theorem State.takeRetire_keeps (h : Header) (loader : Byte) :
    s.keeps (s.takeRetire h loader) := by
  refine s.examined_keeps h _ _ _ fun l hl => (s.ok_keeps h _ _).trans
    (State.retireLoader_keeps _ l ?_)
  rw [(s.ok_sameBut h _ _).loader]
  rcases (s.examineRetire_ok.1 hl).2 with e | e | e <;> simp [e]

/-! ## The verdict and its consequences (01 R12, 02 R26) -/

/-- The tests that a verdict has passed when it does not name their cause. -/
theorem State.verdict_ground {l : LoaderId} {before : Option ZoneId} {p : Position}
    (position : (s.loader l).position = some p)
    (passes : s.verdict l before ∈ [Verdict.permissible, .closing, .barrier]) :
    (s.zone p.zone).cls.open (s.judgedMode l) = true ∧ (s.zone p.zone).holdsSegment p = true := by
  rw [← Zone.within_eq_holdsSegment]
  simp only [State.verdict, position] at passes
  split at passes
  · simp at passes
  · next opened =>
    split at passes
    · simp at passes
    · next inside =>
      split at passes
      · simp at passes
      · next mode =>
        refine ⟨?_, by simpa using inside⟩
        cases m : s.judgedMode l <;> cases c : (s.zone p.zone).cls <;>
          simp_all [ZoneClass.open]

/-- An abort for a halting event leaves its loader without authority. -/
theorem State.haltLoader_noAuthority {l : LoaderId} {cause : Cause} {e : AbortEvent}
    (halts : ∀ held grace, ∃ c, e.fate held grace = .halt c) (laws : s.flightLaws) :
    ((s.haltLoader l cause e).loader l).hasAuthority = false := by
  have halted : ((s.enterHalted l cause).loader l).hasAuthority = false :=
    Loader.noAuthority (by simp [State.enterHalted, s.enterHaltedWith_state])
  unfold State.haltLoader
  split
  · next transfer =>
    obtain ⟨k, x, named, used, mine⟩ := laws.linked.named l transfer
    rw [named]
    have core := State.abort_core used e
    obtain ⟨c, fate⟩ := halts (s.loader x.loader).heldMode s.params.orphanGrace
    rw [State.fateOf, fate, mine] at core
    exact Loader.noAuthority (by rw [(Loader.core_eq core).1]; decide)
  · exact halted
  · exact halted
  · exact halted
  · next a b c d =>
    cases state : (s.loader l).state <;>
      simp_all [Loader.hasAuthority, LoaderState.hasAuthority]

theorem State.present_keeps (l : LoaderId) (onReport : Bool) :
    s.keeps (s.present l onReport) := by
  unfold State.present
  refine .trans ?_ (State.recordPresence_keeps _ l)
  split
  · split
    · exact s.markEntered_keeps _
    · exact .refl s
  · exact .refl s

theorem State.judgeOnce_keeps (l : LoaderId) (before : Option ZoneId) (onReport : Bool) :
    s.keeps (s.judgeOnce l before onReport) := by
  unfold State.judgeOnce
  split
  · exact s.present_keeps l onReport
  · exact s.haltLoader_keeps l _ _

/-- Once judged, a loader that keeps its authority stands on ground that admits it. -/
theorem State.judgeOnce_grounds {l : LoaderId} (before : Option ZoneId) (onReport : Bool)
    (laws : s.flightLaws)
    (located : (s.loader l).hasAuthority = true → (s.loader l).position.isSome = true) :
    (s.judgeOnce l before onReport).groundedAt l := by
  have keeps := (s.judgeOnce_keeps l before onReport).authority.ground laws l
  have standing : s.verdict l before ∈ [Verdict.permissible, .closing, .barrier] →
      s.groundedAt l := fun passes has => by
    obtain ⟨p, position⟩ := Option.isSome_iff_exists.1 (located has)
    exact ⟨p, position, s.verdict_ground position passes⟩
  cases verdict : s.verdict l before
  case permissible => exact keeps (standing (by simp [verdict]))
  case closing => exact keeps (standing (by simp [verdict]))
  case barrier => exact keeps (standing (by simp [verdict]))
  all_goals
    refine .of_noAuthority ?_
    simp only [State.judgeOnce, verdict, Verdict.asks]
    exact s.haltLoader_noAuthority (fun _ _ => ⟨_, rfl⟩) laws

theorem State.judge_keeps (l : LoaderId) (before : Option ZoneId) (onReport : Bool) :
    s.keeps (s.judge l before onReport) := by
  unfold State.judge
  split
  · have once := s.judgeOnce_keeps l before onReport
    dsimp only
    split
    · exact once.trans (State.judgeOnce_keeps _ l before onReport)
    · exact once
  · exact .refl s

theorem State.judge_grounds {l : LoaderId} (before : Option ZoneId) (onReport : Bool)
    (laws : s.flightLaws)
    (located : (s.loader l).hasAuthority = true → (s.loader l).position.isSome = true) :
    (s.judge l before onReport).groundedAt l := by
  unfold State.judge
  split
  · have once := s.judgeOnce_grounds before onReport laws located
    dsimp only
    split
    · exact (State.judgeOnce_keeps _ l before onReport).authority.ground
        ((s.judgeOnce_keeps l before onReport).authority.laws laws) l once
    · exact once
  · next none_held => exact .of_noAuthority (by simpa using none_held)

theorem State.checkMoved_keeps (l : LoaderId) (before : Option ZoneId) :
    s.keeps (s.checkMoved l before) :=
  (s.checkClosure?_keeps before).trans (State.checkZoneOf_keeps _ l)

/-- A loader is given a position; the lamps follow. -/
theorem State.relocated_keeps (l : LoaderId) (f : Loader → Loader)
    (range : (s.loader l).inRange → (f (s.loader l)).inRange) (p : Option Position)
    (core : (f (s.loader l)).core = ⟨(s.loader l).state, (s.loader l).holder, (s.loader l).prior,
      (s.loader l).context, p⟩) :
    s.keepsLimits (s.modLoader l f).updateLamps ∧ (s.modLoader l f).updateLamps.lampLaw ∧
      (s.flightLaws → (s.modLoader l f).updateLamps.flightLaws) ∧
      (s.flightLaws → ∀ n, n ≠ l → s.groundedAt n → (s.modLoader l f).updateLamps.groundedAt n) ∧
      (s.stopLaw → (s.modLoader l f).updateLamps.stopLaw) := by
  generalize moved : (s.modLoader l f).updateLamps = t
  have record : (t.loader l).core = ⟨(s.loader l).state, (s.loader l).holder, (s.loader l).prior,
      (s.loader l).context, p⟩ := by
    rw [← moved, State.updateLamps_loader, State.modLoader_loader_self, core]
  have others : s.otherLoaders l t := fun n ne => by
    rw [← moved, State.updateLamps_loader, State.modLoader_loader_ne _ ne]
  have frame : s.sameBut [.loaders, .lamps] t :=
    moved ▸ (s.modLoader_sameBut l f).mono.trans (State.updateLamps_sameBut _).mono
  obtain ⟨state, holder, prior, context, -⟩ := Loader.core_eq record
  have states : ∀ n, (t.loader n).state = (s.loader n).state ∧
      (t.loader n).context = (s.loader n).context := fun n => by
    by_cases same : n = l
    · subst same; exact ⟨state, context⟩
    · rw [others n same]; exact ⟨rfl, rfl⟩
  refine ⟨?_, moved ▸ (State.updateLamps_shown _).lampLaw, fun laws => ⟨laws.linked.congr states
    fun k => by rw [frame.handover k], fun n => ?_⟩, fun _ n ne ground => ?_, fun law => ?_⟩
  · exact moved ▸ (s.modLoader_keepsLimits l f range).trans (State.updateLamps_keepsLimits _)
  · by_cases same : n = l
    · subst same
      obtain ⟨a, b, c⟩ := laws.sound n
      exact ⟨by rw [state, prior]; exact a, by rw [state, holder, prior]; exact b,
        by rw [state, holder, prior]; exact c⟩
    · rw [others n same]; exact laws.sound n
  · refine ground.congr (by rw [others n ne]; exact id) (by rw [others n ne]) (fun _ => ?_)
      fun z => by rw [frame.zone z]
    exact State.judgedMode_congr (by rw [others n ne]) (by rw [others n ne])
      (State.handoverOf_target_congr (by rw [others n ne]) fun k => by rw [frame.handover k])
  · rw [State.stopLaw_iff] at law ⊢
    rw [frame.stopAll]
    exact fun on => (law on).of_loader others (fun k => frame.handover k) (by
      rw [Loader.hasAuthority, Loader.hasAuthority, state]; exact id)

/-- A loader is given a position and is judged by a change that keeps the laws and leaves it on
ground that admits it. -/
theorem State.relocated_judged_keeps {l : LoaderId} {f : Loader → Loader}
    (range : (s.loader l).inRange → (f (s.loader l)).inRange) {p : Option Position}
    (core : (f (s.loader l)).core = ⟨(s.loader l).state, (s.loader l).holder, (s.loader l).prior,
      (s.loader l).context, p⟩) {t : State}
    (keeps : (s.modLoader l f).updateLamps.keeps t)
    (grounds : (s.modLoader l f).updateLamps.flightLaws → s.groundedAt l → t.groundedAt l) :
    s.keeps t := by
  obtain ⟨limits, lamps, laws, ground, stop⟩ := s.relocated_keeps l f range p core
  refine ⟨limits.trans keeps.limits, fun _ => keeps.authority.lamps lamps,
    keeps.authority.laws ∘ laws, fun h n grounded => ?_, keeps.authority.stop ∘ stop⟩
  by_cases same : n = l
  · subst same; exact grounds (laws h) grounded
  · exact keeps.authority.ground (laws h) n (ground h n same grounded)

/-! ## STATUS_REPORT (01 R7 to R13) -/

theorem chainageOf_le (w : Word16) : chainageOf w ≤ 5119 := Nat.min_le_left _ _

theorem readReport_position {f : StatusFields} {l : LoaderId} {x : Report}
    (read : readReport f l = some x) : x.position.law := by
  simp only [readReport, Option.bind_eq_bind, Option.bind_eq_some_iff] at read
  obtain ⟨_, -, _, -, _, -, read⟩ := read
  cases read
  exact chainageOf_le _

theorem State.judgeLocal_keeps (l : LoaderId) (x : Report) : s.keeps (s.judgeLocal l x) := by
  unfold State.judgeLocal
  split
  · exact s.haltLoader_keeps l _ _
  · exact .refl s

theorem State.settleReport_keeps (l : LoaderId) (stationary : Bool) :
    s.keeps (s.settleReport l stationary) := by
  unfold State.settleReport
  split
  · split
    · split
      · exact s.enterConfirming_keeps _
      · split
        · exact s.returnToSettling_keeps _
        · exact .refl s
    · exact .refl s
  · exact .refl s

theorem State.fanOutTo_keeps (x : Report) (c : ChairId) : s.keeps (s.fanOutTo x c) := by
  unfold State.fanOutTo
  split
  · exact (s.setWatch_keeps _).trans (State.toChair_keeps _ _ _)
  · exact .refl s

theorem State.fanOut_keeps (x : Report) : s.keeps (s.fanOut x) := by
  unfold State.fanOut
  have chairs := State.keeps.foldl (f := fun s c => s.fanOutTo x c)
    (fun s c => s.fanOutTo_keeps x c) (List.finRange 12) s
  dsimp only
  split
  · exact chairs.trans (State.join_keeps _ _ _)
  · exact chairs

theorem State.intake_keeps (l : LoaderId) (x : Report) (law : x.position.law) :
    s.keeps (s.intake l x) := by
  have range : (s.loader l).inRange → ((s.loader l).reported x s.params).inRange := by
    rintro ⟨position, -, -⟩
    refine ⟨?_, fun p hp => by cases hp; exact law, Nat.zero_le _⟩
    dsimp only [Loader.reported]
    split
    · rintro p ⟨⟩; exact law
    · exact position
  refine s.relocated_judged_keeps (f := (·.reported x s.params)) range
    (p := if (s.loader l).source = .reported then some x.position else (s.loader l).position) rfl
    ?_ fun laws grounded => ?_
  · unfold State.intake
    generalize (s.modLoader l (·.reported x s.params)).updateLamps = t
    exact ((((t.judgeLocal_keeps l x).trans (State.judge_keeps _ l _ true)).trans
      (State.checkMoved_keeps _ l _)).trans (State.settleReport_keeps _ l _)).trans
      (State.fanOut_keeps _ x)
  · unfold State.intake
    have located : (((s.modLoader l (·.reported x s.params)).updateLamps).loader l).hasAuthority =
        true → ((((s.modLoader l (·.reported x s.params)).updateLamps).loader l).position.isSome =
        true) := by
      rw [State.updateLamps_loader, State.modLoader_loader_self]
      intro has
      obtain ⟨p, hp, -⟩ := grounded has
      dsimp only [Loader.reported]
      split
      · rfl
      · rw [Option.mem_def.1 hp]; rfl
    generalize (s.modLoader l (·.reported x s.params)).updateLamps = t at laws located ⊢
    have local_laws := (t.judgeLocal_keeps l x).authority.laws laws
    have judged : ((t.judgeLocal l x).judge l (s.loader l).zone? true).groundedAt l := by
      refine State.judge_grounds _ _ _ local_laws ?_
      unfold State.judgeLocal
      split
      · rw [t.haltLoader_noAuthority (fun _ _ => ⟨_, rfl⟩) laws]; exact nofun
      · exact located
    have judged_laws := (State.judge_keeps (t.judgeLocal l x) l (s.loader l).zone?
      true).authority.laws local_laws
    exact (((State.checkMoved_keeps _ l _).trans (State.settleReport_keeps _ l _)).trans
      (State.fanOut_keeps _ x)).authority.ground judged_laws l judged

theorem State.setFleet_keeps (f : FleetLink)
    (fleetLink : s.fleet.badFrames ≤ 65535 ∧ s.fleet.unknown ≤ 65535 →
      f.badFrames ≤ 65535 ∧ f.unknown ≤ 65535)
    (orders : s.fleet.orders.length ≤ 64 ∧ s.fleet.dropped ≤ 65535 →
      f.orders.length ≤ 64 ∧ f.dropped ≤ 65535) : s.keeps { s with fleet := f } :=
  (s.setFleet_keepsLimits f fleetLink orders).plain (s.setFleet_sameBut f).mono

theorem State.takeReport_keeps (f : StatusFields) : s.keeps (s.takeReport f) := by
  unfold State.takeReport
  split
  · exact s.setFleet_keeps _ (fun h => ⟨h.1, gain_le _ _⟩) id
  · split
    · exact s.setFleet_keeps _ (fun h => ⟨gain_le _ _, h.2⟩) id
    · next x read =>
      split
      · exact s.intake_keeps _ x (readReport_position read)
      · exact .refl s

/-! ## The position source (01 R15, R16) -/

theorem State.examineFix_ok {h : Header} {loader zone : Byte} {chainage : Word16} {front : Byte}
    {l : LoaderId} {p : Position} :
    s.examineFix h loader zone chainage front = .ok (l, p) ↔ h.fromSup = .ok () ∧
      loaderOf loader = some l ∧ (s.loader l).state ≠ .unenrolled ∧
      p.zone = zoneOf zone ∧ p.chainage = chainageOf chainage ∧ frontOf front = some p.front := by
  obtain ⟨z, ch, d⟩ := p
  simp only [State.examineFix, examine_bind_ok, meaning_ok, ensure_ok, State.enrolled,
    exists_const, exists_and_right, test_passes, ok_inj, Prod.mk.injEq, Position.mk.injEq]
  constructor
  · rintro ⟨hs, l, hl, d, hd, e, rfl, rfl, rfl, rfl⟩; exact ⟨hs, hl, e, rfl, rfl, hd⟩
  · rintro ⟨hs, hl, e, rfl, rfl, hd⟩; exact ⟨hs, l, hl, d, hd, e, rfl, rfl, rfl, rfl⟩

theorem State.fixLoader_keeps (l : LoaderId) (p : Position) (law : p.law) :
    s.keeps (s.fixLoader l p) := by
  refine s.relocated_judged_keeps (p := some p) (f := fun r =>
    { r with source := .fixed, position := some p, age := 0 }) ?_ rfl
    ((State.judge_keeps _ l _ _).trans (State.checkMoved_keeps _ l _)) fun laws _ => ?_
  · rintro ⟨-, reported, -⟩
    exact ⟨fun q hq => by cases hq; exact law, reported, Nat.zero_le _⟩
  · refine (State.checkMoved_keeps _ l _).authority.ground
      ((State.judge_keeps _ l _ false).authority.laws laws) l
      (State.judge_grounds _ _ _ laws fun _ => ?_)
    rw [State.updateLamps_loader, State.modLoader_loader_self]
    rfl

theorem State.takeFix_keeps (h : Header) (loader zone : Byte) (chainage : Word16) (front : Byte) :
    s.keeps (s.takeFix h loader zone chainage front) := by
  refine s.examined_keeps h _ _ _ fun ⟨l, p⟩ hx => (s.ok_keeps h _ _).trans
    (State.fixLoader_keeps _ l p ?_)
  obtain ⟨-, -, -, -, chainage, -⟩ := s.examineFix_ok.1 hx
  rw [Position.law, chainage]
  exact chainageOf_le _

theorem State.takeFree_keeps (h : Header) (loader : Byte) : s.keeps (s.takeFree h loader) := by
  refine s.examined_keeps h _ _ _ fun l _ => (s.ok_keeps h _ _).trans
    (State.modLoader_keeps_of_core _ l _ ?_ ?_)
  · unfold Loader.freed; split <;> rfl
  · rintro ⟨position, reported, age⟩
    unfold Loader.freed
    split
    · exact ⟨position, reported, le_refl _⟩
    · exact ⟨position, reported, age⟩

end Sys2Proof.Machine
end

section
/-! PROOF. Zones, settings, the clock, watches, queries, drive frames, links and timers keep the laws
one by one (Chapters 2, 5, 7, 8 and 9). -/

namespace Sys2Proof.Machine

-- One theorem after another, so that the compile stays within its memory.
set_option Elab.async false

variable (s : State)

/-! ## Zones (Chapter 2) -/

theorem State.examineSetZone_ok {h : Header} {zone cls openLength measuredFrom cap : Byte}
    {x : Zone} :
    s.examineSetZone h zone cls openLength measuredFrom cap = .ok x ↔ h.fromSup = .ok () ∧
      ∃ c m, classOf cls = some c ∧ measuredFromOf measuredFrom = some m ∧
        (s.zone (zoneOf zone)).closing = none ∧ x = newZone c openLength m cap ∧
        ((s.authorityIn (zoneOf zone)).any fun l => s.strands x l) = false := by
  simp only [State.examineSetZone, examine_bind_ok, meaning_ok, ensure_ok,
    exists_const, exists_and_right, test_passes, ok_inj]
  constructor
  · rintro ⟨hs, c, hc, m, hm, open_, free, rfl⟩; exact ⟨hs, c, m, hc, hm, open_, rfl, free⟩
  · rintro ⟨hs, c, m, hc, hm, open_, rfl, free⟩; exact ⟨hs, c, hc, m, hm, open_, free, rfl⟩

theorem newZone_inRange (c : ZoneClass) (openLength : Byte) (m : MeasuredFrom) (cap : Byte) :
    (newZone c openLength m cap).inRange := by
  simp only [Zone.inRange, newZone, saturate]
  omega

/-- A loader that a descriptor does not strand may stand on its ground. -/
theorem State.not_strands {x : Zone} {l : LoaderId} {p : Position}
    (position : (s.loader l).position = some p) (safe : s.strands x l = false) :
    x.cls.open (s.judgedMode l) = true ∧ x.holdsSegment p = true := by
  rw [← Zone.within_eq_holdsSegment]
  simp only [State.strands, position, Option.any_some, Bool.or_eq_false_iff] at safe
  obtain ⟨⟨opened, inside⟩, mode⟩ := safe
  refine ⟨?_, by simpa using inside⟩
  cases m : s.judgedMode l <;> cases c : x.cls <;>
    simp_all [ZoneClass.open, ZoneClass.autoClass]

theorem State.authorityIn_iff {z : ZoneId} {l : LoaderId} :
    l ∈ s.authorityIn z ↔ (s.loader l).hasAuthority = true ∧ ∃ p, (s.loader l).position = some p ∧
      p.zone = z := by
  simp [State.authorityIn, State.mem_loadersWhere, Loader.inZone, Option.any_eq_true]

theorem State.takeSetZone_keeps (h : Header) (zone cls openLength measuredFrom cap : Byte) :
    s.keeps (s.takeSetZone h zone cls openLength measuredFrom cap) := by
  refine s.examined_keeps h _ _ _ fun x hx => ?_
  obtain ⟨-, c, m, -, -, unclosed, new, safe⟩ := s.examineSetZone_ok.1 hx
  have answered := s.ok_sameBut h .setZone
    (.zone (zoneOf zone) x.cls x.openLength x.measuredFrom x.cap)
  refine (s.ok_keeps h .setZone _).trans ⟨State.modZone_keepsLimits _ _ _
    (fun _ => new ▸ newZone_inRange _ _ _ _) ?_,
    State.modZone_keepsAuthority _ _ _ fun _ l has p position zone _ => ?_⟩
  · rw [answered.zone, unclosed, new]
    rfl
  · rw [answered.loader] at has position
    have stays : s.strands x l = false := by
      simpa using List.any_eq_false.1 safe l (s.authorityIn_iff.2 ⟨has, p, position, zone⟩)
    rw [State.judgedMode_congr (s := s) (by rw [answered.loader]) (by rw [answered.loader])
      (by rw [answered.handoverOf])]
    exact s.not_strands position stays

/-- A change of a zone that leaves its ground. -/
theorem State.modZone_keepsAuthority_of_ground (z : ZoneId) (f : Zone → Zone)
    (ground : (f (s.zone z)).ground = (s.zone z).ground) : s.keepsAuthority (s.modZone z f) :=
  (State.sameAuthority.of_parts (s.modZone_sameBut z f).mono (fun _ => rfl) (fun _ => rfl) fun y => by
    by_cases same : y = z
    · subst same; rw [State.modZone_zone_self]; exact ground
    · rw [State.modZone_zone_ne _ same]).keepsAuthority

theorem State.setClosure_keepsAuthority (k : ClosureId) (x : Option Closure) :
    s.keepsAuthority (s.setClosure k x) :=
  (State.sameAuthority.of_plain (s.setClosure_sameBut k x).mono).keepsAuthority

theorem State.tellEvacuate_keeps (z : ZoneId) (time : Nat) (l : LoaderId) :
    s.keeps (s.tellEvacuate z time l) := s.tellChair?_keeps _ _

theorem State.beginClosure_keeps (z : ZoneId) (k : ClosureId) (time : Nat)
    (free : s.closure k = none) (unclosed : (s.zone z).closing = none) :
    s.keeps (s.beginClosure z k time) := by
  have begun : s.keeps ((s.setClosure k
      (some ⟨z, time, Timer.start (Machine.seconds time), s.seconds⟩)).modZone z
        fun x => { x with closing := some k }) :=
    ⟨s.setClosing_keepsLimits z k _ _ id
      (s.beginClosing_closureLaw k ⟨z, time, Timer.start (Machine.seconds time), s.seconds⟩ _ rfl
        free unclosed),
      (s.setClosure_keepsAuthority k _).trans (State.modZone_keepsAuthority_of_ground _ z _ rfl)⟩
  exact ((begun.trans (State.abortAll_keeps _ _ _)).trans
    (.foldl (fun s l => s.tellEvacuate_keeps z time l) _ _)).trans (State.checkClosure_keeps _ _ _)

theorem State.examineClose_ok {h : Header} {zone : Byte} {k : ClosureId} :
    s.examineClose h zone = .ok k ↔ h.fromSup = .ok () ∧
      (s.zone (zoneOf zone)).closing = none ∧ s.freeClosure = some k := by
  simp only [State.examineClose, examine_bind_ok, ensure_ok, exists_const, exists_and_right,
    test_passes]
  refine and_congr_right fun _ => and_congr_right fun _ => ?_
  cases s.freeClosure with
  | none => exact ⟨nofun, nofun⟩
  | some n => simp

theorem State.freeClosure_free {s : State} {k : ClosureId} (h : s.freeClosure = some k) :
    s.closure k = none := by simpa using List.find?_some h

theorem State.takeClose_keeps (h : Header) (zone : Byte) (time : Word16) :
    s.keeps (s.takeClose h zone time) := by
  refine s.examined_keeps h _ _ _ fun k hk => ?_
  obtain ⟨-, unclosed, free⟩ := s.examineClose_ok.1 hk
  have answered := s.ok_sameBut h .closeZone (.closure k (saturate 10 600 time.toNat))
  exact (s.ok_keeps h _ _).trans (State.beginClosure_keeps _ _ k _
    (by rw [answered.closure]; exact State.freeClosure_free free)
    (by rw [answered.zone]; exact unclosed))

theorem State.examineCancelClosure_ok {h : Header} {zone : Byte} {k : ClosureId} :
    s.examineCancelClosure h zone = .ok k ↔ h.fromSup = .ok () ∧
      (s.zone (zoneOf zone)).closing = some k := by
  simp only [State.examineCancelClosure, examine_bind_ok, exists_and_right, test_passes]
  refine and_congr_right fun _ => ?_
  cases (s.zone (zoneOf zone)).closing with
  | none => exact ⟨nofun, nofun⟩
  | some n => simp

theorem State.takeCancelClosure_keeps (h : Header) (zone : Byte) :
    s.keeps (s.takeCancelClosure h zone) := by
  refine s.examined_keeps h _ _ _ fun k hk => ?_
  have closing := (s.examineCancelClosure_ok.1 hk).2
  have answered := s.ok_sameBut h .cancelClosure (.zoneOnly (zoneOf zone))
  exact (s.ok_keeps h .cancelClosure _).trans ⟨State.setClosing_keepsLimits _ _ k none _ id (State.endClosing_closureLaw _ _ k _ rfl
      (.inl (by rw [answered.zone]; exact closing))),
    (State.setClosure_keepsAuthority _ k none).trans (State.modZone_keepsAuthority_of_ground _ _ _ rfl)⟩

theorem State.expireClosure_keeps (k : ClosureId) : s.keeps (s.expireClosure k) := by
  unfold State.expireClosure
  split
  · exact .refl s
  · exact (s.takeAuthority_keeps _ _).trans (State.checkClosure_keeps _ _ _)

/-- A change of the barriers, the inputs or the clocks of the module. -/
theorem State.keeps.of_unlimited {s t : State}
    (h : s.sameBut [.barriers, .watchAll, .seconds, .millis, .inputs, .receivers] t) : s.keeps t :=
  (State.keepsLimits.of_unlimited h.mono).plain h.mono

theorem State.setBarrierInput_keeps (n : LevelId) (x : Bool) :
    s.keeps (s.setBarrierInput n x) :=
  .of_unlimited fun p hp => by
    cases p
    case inputs => simp at hp
    all_goals rfl

theorem State.setBarrier_keeps (n : LevelId) (x : Bool) : s.keeps (s.setBarrier n x) :=
  .of_unlimited fun p hp => by
    cases p
    case barriers => simp at hp
    all_goals rfl

theorem State.breach_keeps (n : LevelId) : s.keeps (s.breach n) := by
  unfold State.breach
  dsimp only
  refine .trans ?_ (State.tellSup_keeps _ _)
  refine .trans ?_ (State.checkClosures_keeps _ _)
  refine ((s.setBarrier_keeps n true).trans (State.abortAll_keeps _ _ _)).trans
    (State.haltAll_keeps _ _ _ fun _ l hl => ?_)
  have := (State.mem_loadersWhere _).1 hl
  simp only [Bool.and_eq_true, Bool.or_eq_true, beq_iff_eq] at this
  rcases this.1 with e | e <;> simp [e]

theorem State.assertBarrier_keeps (n : LevelId) : s.keeps (s.assertBarrier n) := by
  unfold State.assertBarrier
  dsimp only
  refine (s.setBarrierInput_keeps n true).trans (State.running_keeps _ _ ?_)
  split
  · exact State.breach_keeps _ n
  · exact .refl _

theorem State.releaseBarrier_keeps (n : LevelId) : s.keeps (s.releaseBarrier n) := by
  unfold State.releaseBarrier
  dsimp only
  refine (s.setBarrierInput_keeps n false).trans (State.running_keeps _ _ ?_)
  split
  · exact (State.setBarrier_keeps _ n false).trans (State.tellSup_keeps _ _)
  · exact .refl _

/-! ## Settings (Chapter 9) -/

theorem Params.get_put (ps : Params) (p q : Param) (v : Nat) :
    (ps.put p v).get q = if q = p then v else ps.get q := by
  cases p <;> cases q <;> rfl

theorem Param.range_le (p : Param) : p.range.1 ≤ p.range.2 := by cases p <;> decide

theorem saturate_range (p : Param) (n : Nat) :
    p.range.1 ≤ saturate p.range.1 p.range.2 n ∧ saturate p.range.1 p.range.2 n ≤ p.range.2 := by
  have := Param.range_le p
  unfold saturate
  omega

theorem examineParam_ok {h : Header} {code : Byte} {value : Word16} {p : Param} {v : Nat} :
    Header.examineParam h code value = .ok (p, v) ↔ h.fromSup = .ok () ∧
      paramOf code = some p ∧ (p = .attention → value.toNat ≤ 1) ∧
      v = saturate p.range.1 p.range.2 value.toNat := by
  simp only [Header.examineParam, examine_bind_ok, meaning_ok, ensure_ok, exists_const,
    exists_and_right, test_passes, ok_inj, Prod.mk.injEq]
  constructor
  · rintro ⟨hs, p, hp, code, rfl, rfl⟩; exact ⟨hs, hp, code, rfl⟩
  · rintro ⟨hs, hp, code, rfl⟩; exact ⟨hs, p, hp, code, rfl, rfl⟩

theorem State.setParams_sameBut (ps : Params) : s.sameBut [.params] { s with params := ps } := by
  intro p hp
  cases p
  case params => simp at hp
  all_goals rfl

theorem State.setParams_keeps (ps : Params)
    (law : s.paramLaw → State.paramLaw { s with params := ps }) :
    s.keeps { s with params := ps } :=
  State.keepsLimits.plain
    { State.keepsLimits.refl s with
      params := law
      queues := fun p => by rw [(s.setParams_sameBut ps).queue p]; exact id }
    (s.setParams_sameBut ps).mono

theorem State.takeSetParam_keeps (h : Header) (code : Byte) (value : Word16) :
    s.keeps (s.takeSetParam h code value) := by
  refine s.examined_keeps h _ _ _ fun ⟨p, v⟩ hx => (s.ok_keeps h _ _).trans
    (State.setParams_keeps _ _ fun law q hq => ?_)
  obtain ⟨-, -, -, rfl⟩ := examineParam_ok.1 hx
  rw [Params.get_put]
  split
  · next same => rw [same]; exact saturate_range p _
  · exact law q hq

theorem State.takeWatchAll_keeps (h : Header) (setting : Byte) :
    s.keeps (s.takeWatchAll h setting) :=
  s.examined_keeps h _ _ _ fun _ _ => (s.ok_keeps h _ _).trans (.of_unlimited fun p hp => by
    cases p
    case watchAll => simp at hp
    all_goals rfl)

/-! ## Taking all authority (06 R127, R132) -/

theorem State.haltAll_noAuthority (ls : List LoaderId) (cause : Cause) (l : LoaderId)
    (h : l ∈ ls ∨ (s.loader l).hasAuthority = false) :
    ((s.haltAll ls cause).loader l).hasAuthority = false := by
  induction ls generalizing s with
  | nil => exact h.resolve_left (by simp)
  | cons n ls ih =>
    refine ih (s.enterHalted n cause) ?_
    by_cases same : l = n
    · subst same
      exact .inr (Loader.noAuthority (by simp [State.enterHalted, s.enterHaltedWith_state]))
    · rw [s.enterHalted_loader_ne cause same]
      simpa [same] using h

theorem State.furtherCause_loader (l n : LoaderId) (cause : Cause) :
    ((s.furtherCause l cause).loader n).core = (s.loader n).core := by
  by_cases same : n = l
  · subst same; rw [State.furtherCause, State.modLoader_loader_self]; rfl
  · rw [State.furtherCause, State.modLoader_loader_ne _ same]

theorem State.furtherAll_core (ls : List LoaderId) (cause : Cause) (n : LoaderId) :
    ((s.furtherAll ls cause).loader n).core = (s.loader n).core := by
  induction ls generalizing s with
  | nil => rfl
  | cons l ls ih => exact (ih (s.furtherCause l cause)).trans (s.furtherCause_loader l n cause)

/-- Once all authority is taken, no loader has any and no handover is in flight. -/
theorem State.takeAllAuthority_calm (e : AbortEvent) : (s.takeAllAuthority e).calm := by
  constructor
  · intro l
    unfold State.takeAllAuthority
    rw [Loader.hasAuthority_of_core (State.furtherAll_core _ _ _ l)]
    refine State.haltAll_noAuthority _ _ _ l ?_
    by_cases has : ((s.abortAll (s.contextsWhere fun h => (List.finRange 32).contains h.loader)
        fun _ => e).loader l).hasAuthority = true
    · exact .inl (List.mem_filter.2 ⟨List.mem_finRange l, has⟩)
    · exact .inr (by simpa using has)
  · intro k
    have frame := (State.haltAll_sameBut (s.abortAll (s.contextsWhere fun h =>
      (List.finRange 32).contains h.loader) fun _ => e) ((s.abortAll (s.contextsWhere fun h =>
        (List.finRange 32).contains h.loader) fun _ => e).withAuthority (List.finRange 32))
      e.cause).mono.trans (State.furtherAll_sameBut _ s.haltedLoaders e.cause).mono (ps := [.loaders,
        .chairs, .watch, .queues, .supQueue, .fleet, .lamps])
    refine (frame.handover k).trans ?_
    rw [State.abortAll_handover]
    split
    · rfl
    · next out =>
      cases used : s.handover k with
      | none => rfl
      | some x => exact absurd (s.mem_contextsWhere.2 ⟨x, used, by simp⟩) out

theorem State.takeAllAuthority_keeps (e : AbortEvent) : s.keeps (s.takeAllAuthority e) :=
  (s.takeAuthority_keeps _ e).trans (State.furtherAll_keeps _ _ _)

/-! ## RESTART (09 R169) -/

theorem State.completeAll_keeps (calm : ∀ l, (s.loader l).hasAuthority = false) :
    s.keeps s.completeAll := by
  unfold State.completeAll
  generalize List.finRange 4 = ks
  induction ks generalizing s with
  | nil => exact .refl s
  | cons k ks ih =>
    rw [List.foldl_cons]
    cases used : s.closure k with
    | none => exact ih s calm
    | some x =>
      have empty : (s.authorityIn x.zone).isEmpty = true := by
        rw [List.isEmpty_iff, List.eq_nil_iff_forall_not_mem]
        intro l hl
        rw [s.authorityIn_iff, calm l] at hl
        exact absurd hl.1 (by simp)
      exact (s.completeClosure_keeps x.zone k 0 (.inr ⟨x, used, rfl⟩) empty).trans
        (ih _ fun l => by
          rw [(s.completeClosure_sameBut x.zone k 0).loader]; exact calm l)

theorem State.restartLoaders_keeps : s.keeps { s with loaders := s.loaders.map Loader.restarted } := by
  have frame : s.sameBut [.loaders] { s with loaders := s.loaders.map Loader.restarted } := by
    intro p hp
    cases p
    case loaders => simp at hp
    all_goals rfl
  have record : ∀ l, State.loader { s with loaders := s.loaders.map Loader.restarted } l =
      (s.loader l).restarted := fun l => Vector.getElem_map _ _
  refine ⟨.of_loaders frame.mono fun l => ?_, (State.sameAuthority.of_parts frame.mono (fun l => ?_)
    (fun _ => rfl) fun _ => rfl).keepsAuthority⟩
  · rintro ⟨position, reported, age⟩
    rw [record]
    unfold Loader.restarted
    split
    · exact ⟨position, reported, age⟩
    · exact ⟨position, reported, le_refl _⟩
  · rw [record]
    unfold Loader.restarted
    split <;> rfl

/-- The chairs and the links are written anew, with counters and link fields within their limits. -/
theorem State.setChairsLinks_keeps (chairs : Vector Chair 12) (links : Vector ChairLink 12)
    (counters : ∀ c : ChairId, (chairs[c]).counters.law)
    (law : ∀ c : ChairId, (s.link c).law → (links[c]).law) :
    s.keeps { s with
      chairs := chairs, links := links, supLink := { s.supLink with errors := 0, tally := 0 } } := by
  have frame : s.sameBut [.chairs, .links, .supLink] { s with
      chairs := chairs, links := links, supLink := { s.supLink with errors := 0, tally := 0 } } := by
    intro p hp
    cases p
    case chairs => simp at hp
    case links => simp at hp
    case supLink => simp at hp
    all_goals rfl
  exact (State.keepsLimits.of_sameBut frame.mono (fun _ => id) (fun c _ => counters c)
    (fun p => by rw [frame.queue p]; exact id) law
    (fun h => ⟨Nat.zero_le _, Nat.zero_le _, h.2.2⟩) id id).plain frame.mono

theorem ChairLink.law.restarted {k : ChairLink} (law : k.law) (ps : Params) :
    (k.restarted ps).law := by
  obtain ⟨errors, tally, run, bad, silence, down⟩ := law
  unfold ChairLink.restarted
  dsimp only
  split
  · next d => exact ⟨Nat.zero_le _, Nat.zero_le _, run, bad, silence, fun _ => ⟨rfl, rfl, (down d).2.2⟩⟩
  · next up =>
    exact ⟨Nat.zero_le _, Nat.zero_le _, run, bad,
      ⟨fun e => by simp [ChairLink.restartSilence] at e, fun e => absurd e up⟩,
      fun e => absurd e up⟩

theorem State.restartBlocks_keeps (calm : ∀ l, (s.loader l).hasAuthority = false) :
    s.keeps s.restartBlocks := by
  have loaders := s.restartLoaders_keeps
  have zones := State.completeAll_keeps { s with loaders := s.loaders.map Loader.restarted } fun l => by
    have record : State.loader { s with loaders := s.loaders.map Loader.restarted } l =
      (s.loader l).restarted := Vector.getElem_map _ _
    rw [record]
    unfold Loader.restarted
    split <;> exact calm l
  refine (loaders.trans zones).trans (State.setChairsLinks_keeps _ _ _ (fun c => ?_) fun c law => ?_)
  · rw [Fin.getElem_fin, Vector.getElem_map]
    simp [Chair.restarted, DriveCounters.law, DriveCounters.zero]
  · rw [Fin.getElem_fin, Vector.getElem_map]
    exact ChairLink.law.restarted law _

theorem State.emptyQueues_keeps : s.keeps s.emptyQueues := by
  have frame : s.sameBut [.watch, .queues, .supQueue] s.emptyQueues := by
    intro p hp
    cases p
    case watch => simp at hp
    case queues => simp at hp
    case supQueue => simp at hp
    all_goals rfl
  have queue : ∀ p, s.emptyQueues.queue p = (s.queue p).emptied := by
    rintro (c | _)
    · exact Vector.getElem_map _ _
    · rfl
  exact (State.keepsLimits.of_sameBut frame.mono (fun _ => id) (fun _ => id)
    (fun p law => by rw [queue]; exact law.emptied) (fun _ => id) id id id).plain frame.mono

theorem State.takeRestart_keeps (h : Header) : s.keeps (s.takeRestart h) :=
  s.examined_keeps h _ _ _ fun _ _ => (((s.takeAllAuthority_keeps .restart).trans
    (State.restartBlocks_keeps _ (s.takeAllAuthority_calm .restart).loaders)).trans
    (State.emptyQueues_keeps _)).trans (State.ok_keeps _ h _ _)

/-! ## STOP_ALL (06 6-5) -/

theorem State.setStopAll_sameBut (x : Bool) : s.sameBut [.stopAll] { s with stopAll := x } := by
  intro p hp
  cases p
  case stopAll => simp at hp
  all_goals rfl

/-- The STOP_ALL state changes; where it is asserted, all authority has to go. -/
theorem State.setStopAll_keeps_then {x : Bool} {t : State}
    (keeps : State.keeps { s with stopAll := x } t)
    (calm : (s.stopLaw → State.stopLaw { s with stopAll := x }) ∨ t.calm) : s.keeps t := by
  have frame := s.setStopAll_sameBut x
  refine ⟨(State.keepsLimits.of_unlimited frame.mono).trans keeps.limits, keeps.authority.lamps,
    fun laws => keeps.authority.laws ⟨⟨laws.linked.used, laws.linked.named⟩, laws.sound⟩,
    fun laws => keeps.authority.ground ⟨⟨laws.linked.used, laws.linked.named⟩, laws.sound⟩, ?_⟩
  rcases calm with law | calm
  · exact keeps.authority.stop ∘ law
  · exact fun _ => t.stopLaw_iff.2 fun _ => calm

theorem State.calm.of_frame {s t : State} (calm : s.calm) (loaders : ∀ l, t.loader l = s.loader l)
    (handovers : ∀ k, t.handover k = s.handover k) : t.calm :=
  ⟨fun l => by rw [loaders]; exact calm.loaders l, fun k => by rw [handovers]; exact calm.handovers k⟩

theorem State.stopEverything_keeps : s.keeps s.stopEverything := by
  refine s.setStopAll_keeps_then (x := true) (((State.takeAllAuthority_keeps _ .stopAll).trans
    (State.checkClosures_keeps _ _)).trans (State.tellSup_keeps _ _)) (.inr ?_)
  have frame := ((State.checkClosures_sameBut (State.takeAllAuthority { s with stopAll := true }
    .stopAll) fun _ => true).mono (qs := [.zones, .closures, .queues, .supQueue])).trans
      (State.tellSup_sameBut _ (.stopChange true (State.checkClosures (State.takeAllAuthority
        { s with stopAll := true } .stopAll)).seconds s.toHalt.length s.toMark.length)).mono
  exact (State.takeAllAuthority_calm { s with stopAll := true } .stopAll).of_frame
    (fun l => frame.loader l) fun k => frame.handover k

theorem State.setStopInput_keeps (x : Bool) : s.keeps (s.setStopInput x) :=
  .of_unlimited fun p hp => by
    cases p
    case inputs => simp at hp
    all_goals rfl

theorem State.assertStop_keeps : s.keeps s.assertStop := by
  unfold State.assertStop
  dsimp only
  refine (s.setStopInput_keeps true).trans (State.running_keeps _ _ ?_)
  split
  · exact State.stopEverything_keeps _
  · exact .refl _

theorem State.releaseStop_keeps : s.keeps s.releaseStop := by
  unfold State.releaseStop
  dsimp only
  refine (s.setStopInput_keeps false).trans (State.running_keeps _ _ ?_)
  split
  · exact State.setStopAll_keeps_then _ (State.tellSup_keeps _ _) (.inl fun _ => nofun)
  · exact .refl _

/-! ## RESET and power-on (08 R161) -/

theorem State.assertReset_keeps : s.keeps s.assertReset := by
  have frame : s.sameBut [.inReset, .receivers, .queues, .supQueue, .fleet, .lamps]
      s.assertReset := by
    intro p hp
    cases p
    case inReset => simp at hp
    case receivers => simp at hp
    case queues => simp at hp
    case supQueue => simp at hp
    case fleet => simp at hp
    case lamps => simp at hp
    all_goals rfl
  have queue : ∀ p, s.assertReset.queue p = (s.queue p).cutOff := by
    rintro (c | _)
    · exact Vector.getElem_map _ _
    · rfl
  refine ⟨.of_sameBut frame.mono (fun _ => id) (fun _ => id) (fun p law => ?_) (fun _ => id) id id
    fun h => ⟨Nat.zero_le _, h.2⟩, fun _ run => absurd run (by simp [State.assertReset]),
    fun h => ⟨⟨h.linked.used, h.linked.named⟩, h.sound⟩, fun _ _ h => h, fun h => h⟩
  rw [queue]
  exact law.of_sublist (List.nil_sublist _) id

theorem OutQueue.law.blank : OutQueue.blank.law := by
  simp [OutQueue.law, OutQueue.blank]

theorem State.powerOn_loader (inputs : Inputs) (line : List (Link × LineByte)) (is : List Instr)
    (l : LoaderId) : (State.powerOn inputs line is).loader l = Loader.blank :=
  Vector.getElem_replicate _

theorem State.powerOn_handover (inputs : Inputs) (line : List (Link × LineByte)) (is : List Instr)
    (k : CtxId) : (State.powerOn inputs line is).handover k = none := Vector.getElem_replicate _

theorem State.powerOn_calm (inputs : Inputs) (line : List (Link × LineByte)) (is : List Instr) :
    (State.powerOn inputs line is).calm :=
  ⟨fun l => by rw [State.powerOn_loader]; rfl, State.powerOn_handover _ _ _⟩

theorem State.powerOn_zone (inputs : Inputs) (line : List (Link × LineByte)) (is : List Instr)
    (z : ZoneId) : (State.powerOn inputs line is).zone z = Zone.blank := Vector.getElem_replicate _

theorem State.powerOn_queue (inputs : Inputs) (line : List (Link × LineByte)) (is : List Instr)
    (p : Port) : (State.powerOn inputs line is).queue p = OutQueue.blank := by
  rcases p with c | _
  · exact Vector.getElem_replicate _
  · rfl

theorem State.powerOn_chair (inputs : Inputs) (line : List (Link × LineByte)) (is : List Instr)
    (c : ChairId) : (State.powerOn inputs line is).chair c = Chair.blank := Vector.getElem_replicate _

theorem State.powerOn_link (inputs : Inputs) (line : List (Link × LineByte)) (is : List Instr)
    (c : ChairId) : (State.powerOn inputs line is).link c = ChairLink.blank :=
  Vector.getElem_replicate _

theorem State.powerOn_closure (inputs : Inputs) (line : List (Link × LineByte)) (is : List Instr)
    (k : ClosureId) : (State.powerOn inputs line is).closure k = none := Vector.getElem_replicate _

theorem State.powerOn_radioMap (inputs : Inputs) (line : List (Link × LineByte)) (is : List Instr)
    (l : LoaderId) : (State.powerOn inputs line is).radioMap[l] = none := Vector.getElem_replicate _

theorem Params.defaults_law : ∀ p : Param, p.range.1 ≤ Params.defaults.get p ∧
    Params.defaults.get p ≤ p.range.2 := by
  intro p; cases p <;> decide

theorem ChairLink.law.blank : ChairLink.blank.law := by simp [ChairLink.law, ChairLink.blank]

theorem State.powerOn_limits (inputs : Inputs) :
    s.keepsLimits (State.powerOn inputs s.line s.pending) where
  params _ p _ := Params.defaults_law p
  chairLinks c _ := by rw [State.powerOn_link]; exact .blank
  supLink _ := ⟨Nat.zero_le _, Nat.zero_le _, Nat.zero_le _⟩
  fleetLink _ := ⟨Nat.zero_le _, Nat.zero_le _⟩
  addresses _ := by
    refine ⟨fun l x hx => ?_, fun l n filled _ => ?_⟩
    · rw [State.powerOn_radioMap] at hx; cases hx
    · rw [State.powerOn_radioMap] at filled; cases filled
  loaders l _ := by rw [State.powerOn_loader]; exact Loader.blank_inRange _ rfl rfl rfl
  zones z _ := by rw [State.powerOn_zone]; exact ⟨Nat.zero_le _, Nat.zero_le _⟩
  chairs c _ := by rw [State.powerOn_chair]; simp [DriveCounters.law, Chair.blank, DriveCounters.zero]
  queues p _ := by rw [State.powerOn_queue]; exact .blank
  orders _ := ⟨Nat.zero_le _, Nat.zero_le _⟩
  closures _ := by
    refine ⟨fun k x hx => ?_, fun z k hk => ?_⟩
    · rw [State.powerOn_closure] at hx; cases hx
    · rw [State.powerOn_zone] at hk; cases hk
  pending := rfl
  line := rfl

theorem State.powerOn_lampLaw (inputs : Inputs) (line : List (Link × LineByte)) (is : List Instr) :
    (State.powerOn inputs line is).lampLaw := by
  intro _ n
  constructor
  · intro lit
    have dark : (State.powerOn inputs line is).lamps[n] = false := Vector.getElem_replicate _
    rw [dark] at lit
    cases lit
  · rintro ⟨l, has, -⟩
    rw [(State.powerOn_calm inputs line is).loaders l] at has
    cases has

theorem State.powerOn_flightLaws (inputs : Inputs) (line : List (Link × LineByte))
    (is : List Instr) : (State.powerOn inputs line is).flightLaws := by
  refine ⟨⟨fun k x hx => ?_, fun l hl => ?_⟩, fun l => ?_⟩
  · rw [State.powerOn_handover] at hx; cases hx
  · rw [State.powerOn_loader] at hl; cases hl
  · rw [State.powerOn_loader]; exact .of_unheld (by simp [Loader.blank]) rfl

theorem State.powerOn_keeps (inputs : Inputs) :
    s.keeps (State.powerOn inputs s.line s.pending) :=
  ⟨s.powerOn_limits inputs, fun _ => State.powerOn_lampLaw _ _ _,
    fun _ => State.powerOn_flightLaws _ _ _,
    fun _ l _ => .of_noAuthority ((State.powerOn_calm _ _ _).loaders l),
    fun _ => (State.stopLaw_iff _).2 fun _ => State.powerOn_calm _ _ _⟩

end Sys2Proof.Machine
end

section
/-! PROOF. Drive frames, links, timers and the clock keep the laws one by one (Chapters 5 and 8), every
command does, and so every step keeps the lamps, the ground, STOP_ALL and the limits. -/

namespace Sys2Proof.Machine

-- One theorem after another, so that the compile stays within its memory.
set_option Elab.async false

variable (s : State)

/-! ## Drive frames (Chapter 5) -/

theorem State.modCounters_keeps (c : ChairId) (f : DriveCounters → DriveCounters)
    (law : (s.chair c).counters.law → (f (s.chair c).counters).law) :
    s.keeps (s.modCounters c f) := s.modChair_keeps c _ law

theorem DriveCounters.law.addRefused {x : DriveCounters} (law : x.law) : x.addRefused.law := by
  obtain ⟨accepted, clamped, duplicate, stale, gap, -⟩ := law
  exact ⟨accepted, clamped, duplicate, stale, gap, gain_le _ _⟩

theorem DriveCounters.law.forward {x : DriveCounters} (law : x.law) (clamped : Bool) (n : Nat) :
    (x.forward clamped n).law := by
  obtain ⟨accepted, lowered, duplicate, stale, -, refused⟩ := law
  cases clamped
  · exact ⟨gain_le _ _, lowered, duplicate, stale, gain_le _ _, refused⟩
  · exact ⟨accepted, gain_le _ _, duplicate, stale, gain_le _ _, refused⟩

theorem State.refuseFrame_keeps (c : ChairId) (i : SlotId) (r : Reason) (count : Byte) :
    s.keeps (s.refuseFrame c i r count) := by
  unfold State.refuseFrame
  refine .trans ?_ (State.modSlot_keeps _ _ _ _)
  have counted := s.modCounters_keeps c (·.addRefused) fun law => law.addRefused
  split
  · exact counted
  · exact counted.trans (State.tellChair_keeps _ _ _)

theorem State.noteEntry_keeps (z : ZoneId) (speed : Int) : s.keeps (s.noteEntry z speed) := by
  unfold State.noteEntry
  split
  · exact .refl s
  · exact s.markEntered_keeps z

theorem State.notifyDrive_keeps (l : LoaderId) (speed : Int) :
    s.keeps (s.notifyDrive l speed) := by
  cases position : (s.loader l).position with
  | none => rw [s.notifyDrive_of_none speed position]; exact .refl s
  | some p =>
    rw [s.notifyDrive_of_some speed position]
    split
    · exact (s.noteEntry_keeps _ _).trans (State.raiseAttention_keeps _ _ _)
    · exact s.noteEntry_keeps _ _

theorem State.forwardFrame_keeps (c : ChairId) (i : SlotId) (l : LoaderId) (f : DriveFields)
    (horn : Bool) (missing : Nat) : s.keeps (s.forwardFrame c i l f horn missing) := by
  unfold State.forwardFrame
  dsimp only
  exact (((((s.modSlot_keeps c i _).trans (State.modCounters_keeps _ c _ fun law =>
    law.forward _ _)).trans (State.order_keeps _ l _)).trans
    (State.notifyDrive_keeps _ l _)).trans (State.startLapse_keeps _ l)).trans
    (State.settleRefresh_keeps _ l)

theorem State.takeDrive_keeps (c : ChairId) (f : DriveFields) : s.keeps (s.takeDrive c f) := by
  unfold State.takeDrive
  split
  · exact s.modCounters_keeps c _ fun law => law.addRefused
  · split
    · exact s.refuseFrame_keeps c _ _ _
    · unfold State.sequenceFrame
      split
      · exact s.modCounters_keeps c _ fun ⟨a, b, _, d, e, g⟩ => ⟨a, b, gain_le _ _, d, e, g⟩
      · exact s.modCounters_keeps c _ fun ⟨a, b, d, _, e, g⟩ => ⟨a, b, d, gain_le _ _, e, g⟩
      · exact s.forwardFrame_keeps c _ _ f _ _

/-! ## Links (Chapter 8) -/

theorem State.takePing_keeps (h : Header) (silent : Bool) : s.keeps (s.takePing h silent) := by
  unfold State.takePing
  split
  · exact .refl s
  · exact s.ok_keeps h _ _

theorem raiseErrors_le (n : Nat) : raiseErrors n ≤ 15 := Nat.min_le_left _ _

theorem State.badChairFrame_keeps (c : ChairId) : s.keeps (s.badChairFrame c) := by
  unfold State.badChairFrame
  have counted := s.modLink_keeps c (fun k => { k with badFrames := gain 1 k.badFrames })
    fun ⟨errors, tally, run, _, silence, down⟩ => ⟨errors, tally, run, gain_le _ _, silence, down⟩
  refine counted.trans ?_
  generalize s.modLink c _ = t
  dsimp only
  split
  · exact .refl t
  · next up =>
    have raised := t.modLink_keeps c (fun k => { k with errors := raiseErrors k.errors })
      fun ⟨_, tally, run, bad, silence, _⟩ =>
        ⟨raiseErrors_le _, tally, run, bad, silence, fun d => by rw [up] at d; cases d⟩
    split
    · exact raised.trans (State.loseLink_keeps _ c)
    · exact raised
  · next lost =>
    exact t.modLink_keeps c _ fun ⟨_, tally, _, bad, silence, _⟩ =>
      ⟨raiseErrors_le _, tally, Nat.zero_le _, bad, silence, fun d => by rw [lost] at d; cases d⟩

theorem State.takeBad_keeps (k : Link) : s.keeps (s.takeBad k) := by
  cases k with
  | chair c => exact s.badChairFrame_keeps c
  | supervisor => exact s.setSupLink_keeps _ fun h => ⟨raiseErrors_le _, h.2.1, gain_le _ _⟩
  | fleet => exact s.setFleet_keeps _ (fun h => ⟨gain_le _ _, h.2⟩) id

theorem State.takeIfLost_keeps (c : ChairId) (panel : Byte) : s.keeps (s.takeIfLost c panel) := by
  unfold State.takeIfLost
  split
  · next lost => exact s.takeLost_keeps c panel lost
  · exact .refl s

theorem OutQueue.law.transmit {q : OutQueue} (law : q.law) : q.transmit.law :=
  law.of_sublist (List.tail_sublist _) id

theorem FleetLink.transmit_length (f : FleetLink) (h : f.orders.length ≤ 64) :
    f.transmit.orders.length ≤ 64 := (List.tail_sublist _).length_le.trans h

theorem State.transmitOrder_keeps : s.keeps { s with fleet := s.fleet.transmit } :=
  s.setFleet_keeps _ id fun h => ⟨s.fleet.transmit_length h.1, h.2⟩

/-! ## Timers and the clock -/

theorem State.expireSilence_keeps (l : LoaderId) : s.keeps (s.expireSilence l) := by
  unfold State.expireSilence
  split
  · exact .refl s
  · exact ((s.modLoader_keeps_of_core l _).trans (State.haltLoader_keeps _ l _ _)).trans
      (State.checkZoneOf_keeps _ l)

theorem State.expireLapse_keeps (l : LoaderId) : s.keeps (s.expireLapse l) := by
  unfold State.expireLapse
  split
  · exact .refl s
  · exact (s.modLoader_keeps_of_core l _).trans (State.emitHold_keeps _ l)

theorem State.expireRefresh_keeps (l : LoaderId) : s.keeps (s.expireRefresh l) := by
  unfold State.expireRefresh
  split
  · exact .refl s
  · split
    · exact s.emitHold_keeps l
    · exact s.settleRefresh_keeps l

theorem State.expireGrace_keeps (l : LoaderId) : s.keeps (s.expireGrace l) := by
  unfold State.expireGrace
  split
  · exact .refl s
  · exact (s.haltLoader_keeps l _ _).trans (State.checkZoneOf_keeps _ l)

theorem State.expirePhase_keeps (k : CtxId) (ps : List Phase) (e : AbortEvent) :
    s.keeps (s.expirePhase k ps e) := by
  unfold State.expirePhase
  split
  · exact .refl s
  · split
    · exact s.abortAlone_keeps k e
    · exact .refl s

theorem State.expireLink_keeps (c : ChairId) : s.keeps (s.expireLink c) := by
  unfold State.expireLink
  split
  · exact s.loseLink_keeps c
  · next lost _ =>
    exact s.modLink_keeps c _ fun ⟨errors, tally, _, bad, _, _⟩ =>
      ⟨errors, tally, Nat.zero_le _, bad,
        ⟨fun e => by simp [ChairLink.restartSilence] at e,
          fun d => by simp [ChairLink.restartSilence, lost] at d⟩,
        fun d => by simp [ChairLink.restartSilence, lost] at d⟩
  · exact .refl s

theorem State.tickSecond_keeps : s.keeps s.tickSecond :=
  .of_unlimited fun p hp => by
    cases p
    case seconds => simp at hp
    case millis => simp at hp
    all_goals rfl

theorem State.tick_loader (l : LoaderId) : s.tick.loader l = (s.loader l).advance :=
  Vector.getElem_map _ _

theorem State.tick_handover (k : CtxId) : s.tick.handover k = (s.handover k).map Handover.advance :=
  Vector.getElem_map _ _

theorem State.tick_closure (k : ClosureId) : s.tick.closure k = (s.closure k).map Closure.advance :=
  Vector.getElem_map _ _

theorem State.tick_link (c : ChairId) : s.tick.link c = (s.link c).advance := Vector.getElem_map _ _

theorem State.tick_sameBut : s.sameBut [.loaders, .handovers, .closures, .links, .millis] s.tick := by
  intro p hp
  cases p
  case loaders => simp at hp
  case handovers => simp at hp
  case closures => simp at hp
  case links => simp at hp
  case millis => simp at hp
  all_goals rfl

theorem Loader.advance_core (r : Loader) : r.advance.core = r.core := by
  unfold Loader.advance
  split <;> rfl

theorem State.tick_keeps : s.keeps s.tick := by
  have frame := s.tick_sameBut
  refine ⟨{
    params := id
    chairLinks := fun c law => ?_
    supLink := id
    fleetLink := id
    addresses := id
    loaders := fun l => ?_
    zones := fun _ => id
    chairs := fun _ => id
    queues := fun p => by rw [frame.queue p]; exact id
    orders := id
    closures := State.closureLaw_congr (fun _ => rfl) fun k => by
      rw [s.tick_closure, Option.map_map]; rfl
    pending := rfl
    line := rfl }, (State.sameAuthority.of_parts frame.mono (fun l => ?_) (fun k => ?_)
      fun _ => rfl).keepsAuthority⟩
  · obtain ⟨errors, tally, run, bad, silence, down⟩ := law
    rw [s.tick_link]
    exact ⟨errors, tally, run, bad, by simpa [ChairLink.advance] using silence, down⟩
  · rw [s.tick_loader]
    unfold Loader.advance
    split
    · exact id
    · exact fun ⟨position, reported, _⟩ => ⟨position, reported, gain_le _ _⟩
  · rw [s.tick_loader, Loader.advance_core]
  · rw [s.tick_handover, Option.map_map]; rfl

/-! ## Watches and queries -/

theorem State.takeWatch_keeps (h : Header) (loader : Byte) : s.keeps (s.takeWatch h loader) := by
  refine s.examined_keeps h _ _ _ fun ⟨c, l⟩ _ => ?_
  have ok := s.ok_keeps h .watch (.loader l)
  dsimp only
  split
  · exact ok.trans (State.setWatch_keeps _ _)
  · exact ok.trans (State.placeWatch_keeps _ c l)

theorem State.takeUnwatch_keeps (h : Header) (loader : Byte) : s.keeps (s.takeUnwatch h loader) :=
  s.examined_keeps h _ _ _ fun _ _ => (s.ok_keeps h _ _).trans (State.setWatch_keeps _ _)

theorem State.takeQueryParam_keeps (h : Header) (code : Byte) :
    s.keeps (s.takeQueryParam h code) := by
  refine s.examined_keeps h _ _ _ fun p _ => ?_
  cases p <;> exact s.ok_keeps h _ _

/-! ## Every command -/

/-- Every command answers next, and keeps every law that it finds. -/
theorem exec_keeps (i : Instr) (s : State) : ∃ t, exec i s = .next t ∧ s.keeps t := by
  have ask := s.takeRequest_keeps
  have run := s.running_keeps
  cases i with
  | ping h => exact ⟨_, rfl, ask h _ fun s => s.takePing_keeps h _⟩
  | claim h l i m => exact ⟨_, rfl, ask h _ fun s => s.takeClaim_keeps h l i m⟩
  | reclaim h l i m => exact ⟨_, rfl, ask h _ fun s => s.takeReclaim_keeps h l i m⟩
  | release h l => exact ⟨_, rfl, ask h _ fun s => s.takeRelease_keeps h l⟩
  | modeToSupervised h l => exact ⟨_, rfl, ask h _ fun s => s.takeMode_keeps h l 1⟩
  | modeToManual h l m => exact ⟨_, rfl, ask h _ fun s => s.takeMode_keeps h l m⟩
  | mission h l r => exact ⟨_, rfl, ask h _ fun s => s.takeMission_keeps h l r⟩
  | offer h l c m => exact ⟨_, rfl, ask h _ fun s => s.takeOffer_keeps h l c m⟩
  | request h l i m => exact ⟨_, rfl, ask h _ fun s => s.takeRequestStart_keeps h l i m⟩
  | force h l c i m => exact ⟨_, rfl, ask h _ fun s => s.takeForce_keeps h l c i m⟩
  | accept h l k i => exact ⟨_, rfl, ask h _ fun s => s.takeAccept_keeps h l k i⟩
  | yield h l k => exact ⟨_, rfl, ask h _ fun s => s.takeYield_keeps h l k⟩
  | decline h l k => exact ⟨_, rfl, ask h _ fun s => s.takeDecline_keeps h l k⟩
  | refuse h l k => exact ⟨_, rfl, ask h _ fun s => s.takeRefuse_keeps h l k⟩
  | confirm h l k => exact ⟨_, rfl, ask h _ fun s => s.takeConfirm_keeps h l k⟩
  | cancel h l k => exact ⟨_, rfl, ask h _ fun s => s.takeCancel_keeps h l k⟩
  | suspend h l k => exact ⟨_, rfl, ask h _ fun s => s.takeSuspend_keeps h l k⟩
  | resume h l k => exact ⟨_, rfl, ask h _ fun s => s.takeResume_keeps h l k⟩
  | watch h l => exact ⟨_, rfl, ask h _ fun s => s.takeWatch_keeps h l⟩
  | unwatch h l => exact ⟨_, rfl, ask h _ fun s => s.takeUnwatch_keeps h l⟩
  | enrol h l a => exact ⟨_, rfl, ask h _ fun s => s.takeEnrol_keeps h l a⟩
  | retire h l => exact ⟨_, rfl, ask h _ fun s => s.takeRetire_keeps h l⟩
  | fixPosition h l z c f => exact ⟨_, rfl, ask h _ fun s => s.takeFix_keeps h l z c f⟩
  | freePosition h l => exact ⟨_, rfl, ask h _ fun s => s.takeFree_keeps h l⟩
  | setZone h z x o m c => exact ⟨_, rfl, ask h _ fun s => s.takeSetZone_keeps h z x o m c⟩
  | closeZone h z n => exact ⟨_, rfl, ask h _ fun s => s.takeClose_keeps h z n⟩
  | cancelClosure h z => exact ⟨_, rfl, ask h _ fun s => s.takeCancelClosure_keeps h z⟩
  | park h l => exact ⟨_, rfl, ask h _ fun s => s.takePark_keeps h l⟩
  | isolate h l => exact ⟨_, rfl, ask h _ fun s => s.takeIsolate_keeps h l⟩
  | restore h l => exact ⟨_, rfl, ask h _ fun s => s.takeRestore_keeps h l⟩
  | setClearance h c n => exact ⟨_, rfl, ask h _ fun s => s.takeSetClearance_keeps h c n⟩
  | withdraw h x n f => exact ⟨_, rfl, ask h _ fun s => s.takeWithdraw_keeps h x n f⟩
  | setParam h c v => exact ⟨_, rfl, ask h _ fun s => s.takeSetParam_keeps h c v⟩
  | watchAll h x => exact ⟨_, rfl, ask h _ fun s => s.takeWatchAll_keeps h x⟩
  | restart h => exact ⟨_, rfl, ask h _ fun s => s.takeRestart_keeps h⟩
  | queryLoader h l => exact ⟨_, rfl, ask h _ fun s => s.examined_keeps h _ _ _ fun _ _ => s.ok_keeps h _ _⟩
  | queryChair h c => exact ⟨_, rfl, ask h _ fun s => s.examined_keeps h _ _ _ fun _ _ => s.ok_keeps h _ _⟩
  | queryZone h z => exact ⟨_, rfl, ask h _ fun s => s.examined_keeps h _ _ _ fun _ _ => s.ok_keeps h _ _⟩
  | queryHandover h k => exact ⟨_, rfl, ask h _ fun s => s.examined_keeps h _ _ _ fun _ _ => s.ok_keeps h _ _⟩
  | queryParam h p => exact ⟨_, rfl, ask h _ fun s => s.takeQueryParam_keeps h p⟩
  | driveFrame c p n f =>
    exact ⟨_, rfl, run _ (s.takeChairFrame_keeps c p _ fun s => s.takeDrive_keeps c f)⟩
  | statusReport n f => exact ⟨_, rfl, run _ (s.takeReport_keeps f)⟩
  | badFrame k => exact ⟨_, rfl, run _ (s.takeBad_keeps k)⟩
  | lostLinkFrame c p => exact ⟨_, rfl, run _ (s.takeIfLost_keeps c p)⟩
  | silenceTimerExpiry l => exact ⟨_, rfl, run _ (s.expireSilence_keeps l)⟩
  | lapseTimerExpiry l => exact ⟨_, rfl, run _ (s.expireLapse_keeps l)⟩
  | holdRefreshExpiry l => exact ⟨_, rfl, run _ (s.expireRefresh_keeps l)⟩
  | orphanGraceExpiry l => exact ⟨_, rfl, run _ (s.expireGrace_keeps l)⟩
  | answerTimerExpiry k => exact ⟨_, rfl, run _ (s.expirePhase_keeps k _ _)⟩
  | settleTimerExpiry k => exact ⟨_, rfl, run _ (s.expirePhase_keeps k _ _)⟩
  | confirmTimerExpiry k => exact ⟨_, rfl, run _ (s.expirePhase_keeps k _ _)⟩
  | watchdogExpiry k => exact ⟨_, rfl, run _ (s.abortAlone_keeps k _)⟩
  | closureTimerExpiry k => exact ⟨_, rfl, run _ (s.expireClosure_keeps k)⟩
  | linkSilenceExpiry c => exact ⟨_, rfl, run _ (s.expireLink_keeps c)⟩
  | secondsCounterTick => exact ⟨_, rfl, run _ s.tickSecond_keeps⟩
  | stopAllAssertion => exact ⟨_, rfl, s.assertStop_keeps⟩
  | stopAllRelease => exact ⟨_, rfl, s.releaseStop_keeps⟩
  | barrierBreach n => exact ⟨_, rfl, s.assertBarrier_keeps n⟩
  | barrierRelease n => exact ⟨_, rfl, s.releaseBarrier_keeps n⟩
  | resetAssertion => exact ⟨_, rfl, s.assertReset_keeps⟩
  | resetRelease => exact ⟨_, rfl, s.powerOn_keeps s.inputs⟩
  | powerOn => exact ⟨_, rfl, s.powerOn_keeps s.inputs⟩
  | deliveryQueueTransmit p => exact ⟨_, rfl, run _ (s.modQueue_keeps p _ fun law => law.transmit)⟩
  | orderLineTransmit => exact ⟨_, rfl, run _ s.transmitOrder_keeps⟩

/-- Settles O3: what every command keeps includes the queue of commands and the line. -/
theorem everyCommandAnswersNext : Obligations.EveryCommandAnswersNext := by
  intro i s
  obtain ⟨t, eq, keeps⟩ := exec_keeps i s
  exact ⟨t, eq, keeps.limits.pending, keeps.limits.line⟩

/-! ## Every step -/

/-- The laws that every step keeps: the limits as one, and those of authority. -/
structure State.keepsLaws (s t : State) : Prop where
  params : s.paramLaw → t.paramLaw
  links : s.linkLaw → t.linkLaw
  addresses : s.addressLaw → t.addressLaw
  ranges : s.rangeLaw → t.rangeLaw
  queues : s.queueLaw → t.queueLaw
  closures : s.closureLaw → t.closureLaw
  authority : s.keepsAuthority t

theorem State.keeps.laws {s t : State} (h : s.keeps t) : s.keepsLaws t where
  params := h.limits.params
  links law := by
    obtain ⟨chairs, errors, tally, bad, fleet⟩ := law
    obtain ⟨errors', tally', bad'⟩ := h.limits.supLink ⟨errors, tally, bad⟩
    exact ⟨fun c => h.limits.chairLinks c (chairs c), errors', tally', bad', h.limits.fleetLink fleet⟩
  addresses := h.limits.addresses
  ranges law := ⟨fun l => h.limits.loaders l (law.1 l), fun z => h.limits.zones z (law.2.1 z),
    fun c => h.limits.chairs c (law.2.2 c)⟩
  queues law := by
    obtain ⟨chairs, sup, orders⟩ := law
    exact ⟨fun c => h.limits.queues (.chair c) (chairs c), h.limits.queues .supervisor sup,
      h.limits.orders orders⟩
  closures := h.limits.closures
  authority := h.authority

theorem State.keepsLaws.trans {s t u : State} (a : s.keepsLaws t) (b : t.keepsLaws u) :
    s.keepsLaws u :=
  ⟨b.params ∘ a.params, b.links ∘ a.links, b.addresses ∘ a.addresses, b.ranges ∘ a.ranges,
    b.queues ∘ a.queues, b.closures ∘ a.closures, a.authority.trans b.authority⟩

/-- No law speaks of the bytes in reception, the line or the commands that wait. -/
theorem State.keepsLaws.of_arrival {s t : State} (h : s.sameBut [.receivers, .line, .pending] t) :
    s.keepsLaws t where
  params := by unfold State.paramLaw; rw [h.params]; exact id
  links := by
    unfold State.linkLaw
    rw [h.supLink, h.fleet]
    exact fun law => ⟨fun c => by rw [h.link c]; exact law.1 c, law.2⟩
  addresses := by unfold State.addressLaw; rw [h.radioMap]; exact id
  ranges law := ⟨fun l => by rw [h.loader l]; exact law.1 l, fun z => by rw [h.zone z]; exact law.2.1 z,
    fun c => by rw [h.chair c]; exact law.2.2 c⟩
  queues := by unfold State.queueLaw; rw [h.queues, h.supQueue, h.fleet]; exact id
  closures := State.closureLaw_congr (fun z => by rw [h.zone z]) fun k => by rw [h.closure k]
  authority := (State.sameAuthority.of_plain h.mono).keepsAuthority

theorem State.setPending_sameBut (is : List Instr) : s.sameBut [.pending] { s with pending := is } := by
  intro p hp
  cases p
  case pending => simp at hp
  all_goals rfl

theorem State.setLine_sameBut (xs : List (Link × LineByte)) :
    s.sameBut [.line] { s with line := xs } := by
  intro p hp
  cases p
  case line => simp at hp
  all_goals rfl

theorem exec_keepsLaws {i : Instr} {s t : State} (h : exec i s = .next t) : s.keepsLaws t := by
  obtain ⟨u, eq, keeps⟩ := exec_keeps i s
  rw [eq] at h
  cases h
  exact keeps.laws

theorem step_keepsLaws {s t : State} (h : step s = .next t) : s.keepsLaws t := by
  rcases step_cases s h with ⟨i, rest, -, run⟩ | ⟨-, k, x, rest, -, rfl⟩ | ⟨-, -, -, rfl⟩ |
    ⟨-, -, -, ⟨i, -, run⟩ | ⟨-, rfl⟩⟩
  · exact (State.keepsLaws.of_arrival (s.setPending_sameBut rest).mono).trans (exec_keepsLaws run)
  · exact .of_arrival ((s.setLine_sameBut rest).mono.trans (State.receive_sameBut _ k x).mono)
  · exact (State.keeps.refl _).laws
  · exact exec_keepsLaws run
  · exact s.tick_keeps.laws

/-- Settles O58: the lamps by the law alone, the ground of each loader under the laws of TRANSFER and
of holders. -/
theorem stepKeepsLampLaw : Obligations.StepKeepsLampLaw := by
  intro s t h
  have keeps := (step_keepsLaws h).authority
  exact ⟨keeps.lamps, fun records positions l => keeps.ground records.flight l (positions l)⟩

/-- Settles O59: no change gives a loader authority, or begins a handover, while STOP_ALL is
asserted. -/
theorem stepKeepsStopLaw : Obligations.StepKeepsStopLaw :=
  fun _ _ law h => (step_keepsLaws h).authority.stop law

/-- Settles O60, each law by itself. -/
theorem stepKeepsRangesAndLimits : Obligations.StepKeepsRangesAndLimits := by
  rintro s t ⟨params, links, addresses, ranges, queues, closures⟩ h
  have keeps := step_keepsLaws h
  exact ⟨keeps.params params, keeps.links links, keeps.addresses addresses, keeps.ranges ranges,
    keeps.queues queues, keeps.closures closures⟩

end Sys2Proof.Machine
end

section
/-! PROOF. The machine, RESET, and how frames are taken (Chapters 0, 1, 7 and 8). -/

namespace Sys2Proof.Machine

-- One theorem after another, so that the compile stays within its memory.
set_option Elab.async false

variable (s : State)

/-! ## The machine -/

/-- Settles O1: a nonempty queue is the first case of a step. -/
theorem stepRunsFrontCommand : Obligations.StepRunsFrontCommand := by
  unfold Obligations.StepRunsFrontCommand
  intro s i rest waiting
  simp only [step, waiting]

theorem step_of_empty {s : State} (empty : s.pending = []) : step s = s.idle := by
  simp only [step, empty]

theorem State.idle_of_byte {s : State} {k : Link} {x : LineByte} {rest : List (Link × LineByte)}
    (line : s.line = (k, x) :: rest) :
    s.idle = .next (State.receive { s with line := rest } k x) := by
  simp only [State.idle, line]

theorem State.idle_in_reset {s : State} (line : s.line = []) (reset : s.inReset = true) :
    s.idle = .next s := by
  simp only [State.idle, line, reset, if_true]

theorem State.idle_of_due {s : State} {i : Instr} (line : s.line = []) (run : s.inReset = false)
    (due : s.allDue.head? = some i) : s.idle = exec i s := by
  simp [State.idle, line, run, State.firstDue, due]

theorem State.idle_of_quiet {s : State} (line : s.line = []) (run : s.inReset = false)
    (quiet : s.allDue = []) : s.idle = .next s.tick := by
  simp [State.idle, line, run, State.firstDue, quiet]

theorem Loader.advance_eq (r : Loader) :
    r.advance = if r.state = .unenrolled then r
      else
        { r with
          age := min 65535 (r.age + 1)
          silence := { r.silence with elapsed := r.silence.elapsed + 1 }
          lapseTimer := r.lapseTimer.map Timer.advance
          holdRefresh := r.holdRefresh.map Timer.advance
          grace := r.grace.map Timer.advance } := rfl

theorem State.setLine_receiver (rest : List (Link × LineByte)) (k : Link) :
    State.receiver { s with line := rest } k = s.receiver k := by
  cases k <;> rfl

/-- Settles O2: the three cases of an idle step, and what a byte and a millisecond do. -/
theorem emptyQueueLetsTimePass : Obligations.EmptyQueueLetsTimePass := by
  unfold Obligations.EmptyQueueLetsTimePass
  rintro s _ empty rfl
  rw [step_of_empty empty]
  refine ⟨fun k b rest line => ⟨fun reset => ?_, fun run => ?_⟩,
    fun line reset => s.idle_in_reset line reset,
    fun line run i due => s.idle_of_due line run due, fun line run quiet => ?_⟩
  · rw [s.idle_of_byte line, State.receive_reset { s with line := rest } k b reset]
  · have frame := State.receive_sameBut { s with line := rest } k b
    refine ⟨_, s.idle_of_byte line, ?_, ?_, frame .line (by decide), fun n ne => ?_,
      ((s.setLine_sameBut rest).mono (by simp)).trans (frame.mono (by simp))⟩
    · rw [State.receive_receiver { s with line := rest } k k b run, if_pos rfl, s.setLine_receiver]
    · rw [State.receive_pending { s with line := rest } k b run, s.setLine_receiver]
      simp [empty]
    · rw [State.receive_receiver { s with line := rest } k n b run, if_neg ne, s.setLine_receiver]
  · refine ⟨_, s.idle_of_quiet line run quiet, rfl, fun l => ?_, fun k => ?_, fun k => ?_,
      fun c => ?_, s.tick_sameBut⟩
    · rw [s.tick_loader]; exact (s.loader l).advance_eq
    · rw [s.tick_handover]
      refine congrArg (Option.map · _) (funext fun x => ?_)
      simp [Handover.advance, Timer.advance]
    · rw [s.tick_closure]; rfl
    · rw [s.tick_link]; rfl

/-! ## RESET -/

/-- Settles O4: the power-on values, block by block. -/
theorem resetReleaseGivesPowerOnValues : Obligations.ResetReleaseGivesPowerOnValues := by
  unfold Obligations.ResetReleaseGivesPowerOnValues
  intro s i input
  have next : exec i s = .next (State.powerOn s.inputs s.line s.pending) := by
    rcases List.mem_pair.mp input with rfl | rfl <;> rfl
  refine ⟨_, next, fun l => ⟨State.powerOn_loader _ _ _ l, State.powerOn_radioMap _ _ _ l⟩,
    State.powerOn_zone _ _ _, fun c => ?_, State.powerOn_handover _ _ _,
    State.powerOn_closure _ _ _, fun n => Vector.getElem_replicate _,
    fun n => Vector.getElem_replicate _, rfl, rfl, rfl, rfl, rfl, rfl, rfl,
    fun n => Vector.getElem_replicate _, rfl, rfl, rfl, rfl, fun k => ?_, rfl⟩
  · rw [State.powerOn_link, State.powerOn_chair, State.powerOn_queue]
    refine ⟨rfl, rfl, rfl, rfl, rfl, rfl, rfl, rfl, rfl, rfl, fun n => ?_, rfl, rfl⟩
    rw [State.slot, State.powerOn_chair]
    exact Vector.getElem_replicate _
  · cases k with
    | chair c => exact Vector.getElem_replicate _
    | supervisor => rfl
    | fleet => rfl

/-! ## The laws after reset -/

variable (inputs : Inputs) (line : List (Link × LineByte)) (is : List Instr)

theorem State.powerOn_slot (c : ChairId) (i : SlotId) :
    (State.powerOn inputs line is).slot c i = Slot.blank := by
  rw [State.slot, State.powerOn_chair]
  exact Vector.getElem_replicate _

theorem WatchTable.blank_pinned (n : PinnedId) : WatchTable.blank.pinned[n] = none :=
  Vector.getElem_replicate _

theorem WatchTable.blank_openSets (n : SetId) :
    WatchTable.blank.openSets[n] = ⟨none, none, false⟩ := Vector.getElem_replicate _

theorem WatchTable.blank_isLocked (c : ChairId) (l : LoaderId) :
    WatchTable.blank.isLocked c l = false := by
  simp [WatchTable.isLocked, WatchTable.blank]

theorem WatchTable.blank_pinnedOf (c : ChairId) (l : LoaderId) :
    WatchTable.blank.pinnedOf c l = none := by
  simp [WatchTable.pinnedOf, WatchTable.blank]

theorem State.powerOn_haltLaw : (State.powerOn inputs line is).haltLaw := by
  refine ⟨fun l => ?_, fun k x hx => ?_⟩
  · simp [State.powerOn_loader, Loader.blank]
  · rw [State.powerOn_handover] at hx; cases hx

theorem State.powerOn_slotLaw : (State.powerOn inputs line is).slotLaw := by
  intro c i
  simp [State.powerOn_slot, State.powerOn_loader, State.powerOn_handover, Slot.blank, Loader.blank]

theorem State.powerOn_loadLaw : (State.powerOn inputs line is).loadLaw := by
  intro c
  simp [State.countedLoad, State.powerOn_loader, State.powerOn_handover, Loader.blank]

theorem State.powerOn_watchLaw : (State.powerOn inputs line is).watchLaw := by
  have watch : (State.powerOn inputs line is).watch = WatchTable.blank := rfl
  refine ⟨fun c l m n hm => ?_, fun c l hc => ?_, fun n => ?_⟩
  · rw [watch, WatchTable.blank_pinned] at hm; cases hm
  · rw [watch, WatchTable.blank_pinnedOf] at hc; cases hc
  · rw [watch, WatchTable.blank_openSets]
    exact ⟨fun p hp => absurd hp (by simp), fun p hp => absurd hp (by simp)⟩

theorem State.powerOn_lockLaw : (State.powerOn inputs line is).lockLaw := by
  refine ⟨fun c l => ?_, fun k x hx => ?_⟩
  · simp [State.powerOn_loader, State.powerOn_handover, Loader.blank, Loader.heldBy,
      Loader.holderChair, show (State.powerOn inputs line is).watch = WatchTable.blank from rfl,
      WatchTable.blank_isLocked]
  · rw [State.powerOn_handover] at hx; cases hx

theorem State.powerOn_recordLaws : (State.powerOn inputs line is).recordLaws := by
  obtain ⟨transfer, holders⟩ := (State.flightLaws_iff _).mp (State.powerOn_flightLaws inputs line is)
  exact ⟨transfer, State.powerOn_haltLaw _ _ _, holders, State.powerOn_slotLaw _ _ _,
    State.powerOn_loadLaw _ _ _, State.powerOn_watchLaw _ _ _, State.powerOn_lockLaw _ _ _⟩

theorem State.powerOn_rangeLaw : (State.powerOn inputs line is).rangeLaw := by
  refine ⟨fun l => ?_, fun z => ?_, fun c => ?_⟩
  · rw [State.powerOn_loader]; exact Loader.blank_inRange _ rfl rfl rfl
  · rw [State.powerOn_zone]; exact ⟨Nat.zero_le _, Nat.zero_le _⟩
  · rw [State.powerOn_chair]; simp [DriveCounters.law, Chair.blank, DriveCounters.zero]

theorem State.powerOn_queueLaw : (State.powerOn inputs line is).queueLaw := by
  have queue : ∀ p, ((State.powerOn inputs line is).queue p).law := fun p => by
    rw [State.powerOn_queue]; exact .blank
  exact ⟨fun c => queue (.chair c), queue .supervisor, Nat.zero_le _, Nat.zero_le _⟩

theorem State.powerOn_linkLaw : (State.powerOn inputs line is).linkLaw := by
  refine ⟨fun c => ?_, Nat.zero_le _, Nat.zero_le _, Nat.zero_le _, Nat.zero_le _, Nat.zero_le _⟩
  rw [State.powerOn_link]; exact .blank

theorem State.powerOn_addressLaw : (State.powerOn inputs line is).addressLaw := by
  refine ⟨fun l x hx => ?_, fun l n filled _ => ?_⟩
  · rw [State.powerOn_radioMap] at hx; cases hx
  · rw [State.powerOn_radioMap] at filled; cases filled

theorem State.powerOn_closureLaw : (State.powerOn inputs line is).closureLaw := by
  refine ⟨fun k x hx => ?_, fun z k hk => ?_⟩
  · rw [State.powerOn_closure] at hx; cases hx
  · rw [State.powerOn_zone] at hk; cases hk

/-- Settles O56: nothing is enrolled, in flight, closing or locked right after reset. -/
theorem resetIsLawful : Obligations.ResetIsLawful := by
  unfold Obligations.ResetIsLawful
  have calm := State.powerOn_calm ⟨false, Vector.replicate 8 false⟩ [] []
  exact {
    lamps := State.powerOn_lampLaw _ _ _
    stop := (State.stopLaw_iff _).2 fun _ => calm
    records := State.powerOn_recordLaws _ _ _
    positions := fun l has => absurd has (by rw [State.reset, calm.loaders l]; decide)
    closures := State.powerOn_closureLaw _ _ _
    queues := State.powerOn_queueLaw _ _ _
    params := fun p _ => Params.defaults_law p
    links := State.powerOn_linkLaw _ _ _
    addresses := State.powerOn_addressLaw _ _ _
    ranges := State.powerOn_rangeLaw _ _ _ }

end Sys2Proof.Machine
end

section
/-! PROOF. How a request reaches its owner, and the frames that are only answered or counted
(Chapters 7 and 8). -/

namespace Sys2Proof.Machine

-- One theorem after another, so that the compile stays within its memory.
set_option Elab.async false

end Sys2Proof.Machine

/-! ## What the owner of a request does -/

namespace Sys2Proof

open Machine

/-- What the owner of a request makes of it, once its frame has been heard. The flag says whether the
frame newly presses the chair stop, which only a PING asks. -/
def Instr.taken (i : Instr) (stop : Bool) (s : State) : State :=
  match i with
  | .ping h => s.takePing h (stop && !Config.answersStopPing)
  | .claim h loader slot mode => s.takeClaim h loader slot mode
  | .reclaim h loader slot mode => s.takeReclaim h loader slot mode
  | .release h loader => s.takeRelease h loader
  | .modeToSupervised h loader => s.takeMode h loader 1
  | .modeToManual h loader mode => s.takeMode h loader mode
  | .mission h loader route => s.takeMission h loader route
  | .offer h loader taking target => s.takeOffer h loader taking target
  | .request h loader slot target => s.takeRequestStart h loader slot target
  | .force h loader taking slot target => s.takeForce h loader taking slot target
  | .accept h loader context slot => s.takeAccept h loader context slot
  | .yield h loader context => s.takeYield h loader context
  | .decline h loader context => s.takeDecline h loader context
  | .refuse h loader context => s.takeRefuse h loader context
  | .confirm h loader context => s.takeConfirm h loader context
  | .cancel h loader context => s.takeCancel h loader context
  | .suspend h loader context => s.takeSuspend h loader context
  | .resume h loader context => s.takeResume h loader context
  | .watch h loader => s.takeWatch h loader
  | .unwatch h loader => s.takeUnwatch h loader
  | .enrol h loader address => s.takeEnrol h loader address
  | .retire h loader => s.takeRetire h loader
  | .fixPosition h loader zone chainage front => s.takeFix h loader zone chainage front
  | .freePosition h loader => s.takeFree h loader
  | .setZone h zone cls openLength measuredFrom cap =>
    s.takeSetZone h zone cls openLength measuredFrom cap
  | .closeZone h zone time => s.takeClose h zone time
  | .cancelClosure h zone => s.takeCancelClosure h zone
  | .park h loader => s.takePark h loader
  | .isolate h loader => s.takeIsolate h loader
  | .restore h loader => s.takeRestore h loader
  | .setClearance h chair levels => s.takeSetClearance h chair levels
  | .withdraw h scope number filter => s.takeWithdraw h scope number filter
  | .setParam h code value => s.takeSetParam h code value
  | .watchAll h setting => s.takeWatchAll h setting
  | .restart h => s.takeRestart h
  | .queryLoader h loader => s.takeQueryLoader h loader
  | .queryChair h chair => s.takeQueryChair h chair
  | .queryZone h zone => s.takeQueryZone h zone
  | .queryHandover h context => s.takeQueryHandover h context
  | .queryParam h code => s.takeQueryParam h code
  | _ => s

end Sys2Proof

namespace Sys2Proof.Machine

set_option Elab.async false

variable (s : State)

/-- Every request reaches its owner by its link (08 R155, R156). -/
theorem exec_request {i : Instr} {h : Header} (header : i.header? = some h) (s : State) :
    exec i s = .next (s.takeRequest h (i.taken (s.carriesStop h.sender))) := by
  cases i <;> cases header <;> rfl

/-- A request that is ready is taken in the state that its frame leaves. -/
theorem exec_of_ready {i : Instr} {h : Header} {s a : State} (header : i.header? = some h)
    (ready : s.ready h) (heard : a = s.heard h.sender) : exec i s = .next (i.taken false a) := by
  rw [exec_request header, s.takeRequest_of_ready h _ ready, heard,
    s.carriesStop_of_hears h.sender ready.1]

/-- A request from a sender that may not send its kind is refused NOT_PARTY: the sender is the first
thing that each of them tests (03 R49). -/
theorem taken_eq {i : Instr} {h : Header} {k : ReqKind} (header : i.header? = some h)
    (kind : i.kind? = some k) (stop : Bool) (s : State) :
    i.taken stop s = if h.sender.maySend k = true then i.taken stop s
      else s.answer h k (.refused .notParty) := by
  obtain ⟨sender, tag⟩ := h
  cases sender <;> cases i <;> cases header <;> cases kind <;> rfl

/-! ## RESET -/

theorem State.setInputs_sameBut (x : Inputs) : s.sameBut [.inputs] { s with inputs := x } := by
  intro p n
  cases p <;> simp_all [Part.same]

theorem State.assertStop_in_reset (reset : s.inReset = true) :
    s.assertStop = s.setStopInput true := by
  unfold State.assertStop
  exact State.running_reset (s.setStopInput true) _ reset

theorem State.releaseStop_in_reset (reset : s.inReset = true) :
    s.releaseStop = s.setStopInput false := by
  unfold State.releaseStop
  exact State.running_reset (s.setStopInput false) _ reset

theorem State.assertBarrier_in_reset (n : LevelId) (reset : s.inReset = true) :
    s.assertBarrier n = s.setBarrierInput n true := by
  unfold State.assertBarrier
  exact State.running_reset (s.setBarrierInput n true) _ reset

theorem State.releaseBarrier_in_reset (n : LevelId) (reset : s.inReset = true) :
    s.releaseBarrier n = s.setBarrierInput n false := by
  unfold State.releaseBarrier
  exact State.running_reset (s.setBarrierInput n false) _ reset

theorem State.ping_in_reset (h : Header) (answers : Bool) (reset : s.inReset = true) :
    s.ping h answers = s := by
  unfold State.ping
  exact s.running_reset _ reset

/-- While RESET is asserted a command is not taken, but the input lines have their levels. -/
theorem exec_in_reset {s : State} (i : Instr) (reset : s.inReset = true)
    (other : i ∉ [Instr.resetAssertion, .resetRelease, .powerOn]) :
    ∃ t, exec i s = .next t ∧ s.sameBut [.inputs] t := by
  cases i with
  | resetAssertion => simp at other
  | resetRelease => simp at other
  | powerOn => simp at other
  | stopAllAssertion =>
    exact ⟨_, congrArg Host.Outcome.next (s.assertStop_in_reset reset), s.setInputs_sameBut _⟩
  | stopAllRelease =>
    exact ⟨_, congrArg Host.Outcome.next (s.releaseStop_in_reset reset), s.setInputs_sameBut _⟩
  | barrierBreach n =>
    exact ⟨_, congrArg Host.Outcome.next (s.assertBarrier_in_reset n reset), s.setInputs_sameBut _⟩
  | barrierRelease n =>
    exact ⟨_, congrArg Host.Outcome.next (s.releaseBarrier_in_reset n reset), s.setInputs_sameBut _⟩
  | ping h => exact ⟨s, congrArg Host.Outcome.next (s.ping_in_reset h _ reset), .refl _ s⟩
  | _ => exact ⟨s, congrArg Host.Outcome.next (s.running_reset _ reset), .refl _ s⟩

theorem State.assertReset_queue (p : Port) : s.assertReset.queue p = (s.queue p).cutOff := by
  cases p with
  | chair c => exact Vector.getElem_map _ _
  | supervisor => rfl

theorem State.assertReset_sameBut :
    s.sameBut [.inReset, .lamps, .queues, .supQueue, .fleet, .receivers] s.assertReset := by
  intro p n
  cases p <;> simp_all [Part.same, State.assertReset]

/-- Settles O5: the assertion block by block, and no other command is taken in RESET. -/
theorem resetAssertionStopsEverything : Obligations.ResetAssertionStopsEverything := by
  unfold Obligations.ResetAssertionStopsEverything
  intro s
  refine ⟨⟨s.assertReset, rfl, rfl, fun n => Vector.getElem_replicate _, fun p => ?_, rfl,
    fun k => ?_, s.assertReset_sameBut⟩, fun i reset other => exec_in_reset i reset other,
    fun reset k b => s.receive_reset k b reset⟩
  · rw [s.assertReset_queue]
    exact ⟨rfl, rfl, rfl⟩
  · cases k with
    | chair c => exact Vector.getElem_replicate _
    | supervisor => rfl
    | fleet => rfl

/-! ## PING and the requests that are turned away -/

/-- Settles O6: a PING that is ready passes to its link interface, which is not to meet it in
silence. -/
theorem pingIsAnswered : Obligations.PingIsAnswered := by
  unfold Obligations.PingIsAnswered
  intro s a h ready heard
  rw [exec_of_ready rfl ready heard]
  subst heard
  obtain ⟨sender, tag⟩ := h
  cases sender <;> rfl

theorem State.takeRequest_of_full (h : Header) (body : State → State) (hears : s.hears h.sender)
    (full : (s.queue h.sender.port).fullOfReplies = true) :
    s.takeRequest h body = (s.heard h.sender).modQueue h.sender.port fun q => q.drop q.frames := by
  obtain ⟨sender, tag⟩ := h
  cases sender with
  | chair c panel =>
    have queue : (s.heard (.chair c panel)).queue (.chair c) = s.queue (.chair c) := rfl
    have full' : (s.queue (.chair c)).fullOfReplies = true := full
    simp only [State.takeRequest, s.running_of _ hears.1,
      s.takeChairFrame_of_hears c panel _ hears, State.pass, queue, full', if_true]
    rfl
  | supervisor =>
    have heard : { s with supLink := s.supLink.valid } = s.heard .supervisor := by
      simp [State.heard, SupLink.valid, tallyValid_eq]
    have queue : (s.heard .supervisor).queue .supervisor = s.queue .supervisor := rfl
    have full' : (s.queue .supervisor).fullOfReplies = true := full
    simp only [State.takeRequest, s.running_of _ hears.1, heard, State.pass, queue, full', if_true]
    rfl

theorem OutQueue.fullOfReplies_iff (q : OutQueue) :
    q.fullOfReplies = true ↔ 32 ≤ q.frames.countP Frame.isReply := by
  exact decide_eq_true_iff

theorem State.ready.of_room {s : State} {h : Header} (hears : s.hears h.sender)
    (room : (s.queue h.sender.port).frames.countP Frame.isReply < 32) : s.ready h := by
  refine ⟨hears, ?_⟩
  rw [← Bool.not_eq_true, OutQueue.fullOfReplies_iff]
  omega

/-- Settles O7: the pass to the owner fails on a full queue, and the owner asks for the sender
first. -/
theorem requestsTurnedAway : Obligations.RequestsTurnedAway := by
  unfold Obligations.RequestsTurnedAway
  intro s a h i k header kind hears heard
  refine ⟨fun full => ?_, fun room denied => ?_⟩
  · rw [exec_request header, s.takeRequest_of_full h _ hears ((OutQueue.fullOfReplies_iff _).mpr full),
      heard]
    rfl
  · rw [exec_of_ready header (.of_room hears room) heard, taken_eq header kind, denied]
    rfl

/-! ## Frames on a LOST link, and bad frames -/

theorem State.takeLost_below (c : ChairId) (panel : Byte) (run : (s.link c).run < 15) :
    s.takeLost c panel = s.modLink c fun k =>
      { (k.restartSilence s.params).valid with run := k.run + 1 } := by
  have below : (s.link c).run + 1 < 16 := by omega
  simp [State.takeLost, Config.runLength, below]

theorem State.takeRequest_of_lost {h : Header} {c : ChairId} {panel : Byte} (body : State → State)
    (sender : h.sender = .chair c panel) (run : s.inReset = false)
    (lost : (s.link c).state = .lost) : s.takeRequest h body = s.takeLost c panel := by
  simp only [State.takeRequest, s.running_of _ run, sender, State.takeChairFrame, lost]

theorem State.modLink_eq (c : ChairId) (f : ChairLink → ChairLink) :
    s.modLink c f = { s with links := s.links.set c (f (s.link c)) } := rfl

theorem ChairLink.valid_eq (k : ChairLink) :
    k.valid = { k with
      errors := if k.tally < 15 then k.errors else k.errors - 1
      tally := if k.tally < 15 then k.tally + 1 else 0 } := by
  simp [ChairLink.valid, tallyValid_eq]

/-- Settles O9: whatever carries the frame, the LOST link only counts it. -/
theorem lostLinkFramesAreOnlyCounted : Obligations.LostLinkFramesAreOnlyCounted := by
  unfold Obligations.LostLinkFramesAreOnlyCounted
  intro s c panel i run lost
  refine ⟨fun frame short => ?_, fun running => ?_⟩
  · have next : exec i s = .next (s.takeLost c panel) := by
      rcases frame with rfl | ⟨tag, f, rfl⟩ | ⟨h, header, sender⟩
      · simp [exec, execLostLinkFrame, s.running_of _ run, State.takeIfLost, lost]
      · simp [exec, execDriveFrame, s.running_of _ run, State.takeChairFrame, lost]
      · rw [exec_request header, s.takeRequest_of_lost _ sender run lost]
    rw [next, s.takeLost_below c panel short, s.modLink_eq]
    simp only [ChairLink.valid_eq, ChairLink.restartSilence, Timer.start]
  · obtain ⟨x, silence⟩ := Option.isSome_iff_exists.mp running
    simp [exec, execLinkSilenceExpiry, s.running_of _ run, State.expireLink, lost, silence,
      State.modLink_eq, ChairLink.restartSilence, Timer.start]

theorem State.takeBad_of_down {c : ChairId} (down : (s.link c).state = .down) :
    s.takeBad (.chair c) = s.modLink c fun k => { k with badFrames := gain 1 k.badFrames } := by
  simp [State.takeBad, State.badChairFrame, down]

theorem State.takeBad_of_lost {c : ChairId} (lost : (s.link c).state = .lost) :
    s.takeBad (.chair c) = s.modLink c fun k =>
      { k with badFrames := gain 1 k.badFrames, errors := raiseErrors k.errors, run := 0 } := by
  simp [State.takeBad, State.badChairFrame, lost, State.modLink_modLink, Function.comp_def]

theorem State.takeBad_of_up {c : ChairId} (up : (s.link c).state = .up) :
    s.takeBad (.chair c) =
      let counted := s.modLink c fun k =>
        { k with badFrames := gain 1 k.badFrames, errors := raiseErrors k.errors }
      if s.params.linkError ≤ raiseErrors (s.link c).errors then counted.loseLink c else counted := by
  simp [State.takeBad, State.badChairFrame, up, State.modLink_modLink, Function.comp_def]

/-- Settles O11: what each link interface counts. -/
theorem badFrameIsCounted : Obligations.BadFrameIsCounted := by
  unfold Obligations.BadFrameIsCounted
  intro s run
  have next : ∀ k, exec (.badFrame k) s = .next (s.takeBad k) := fun k =>
    congrArg Host.Outcome.next (s.running_of _ run)
  refine ⟨fun c down => ?_, fun c up below => ?_, fun c lost => ?_, next .supervisor, next .fleet⟩
  · rw [next, s.takeBad_of_down down]; rfl
  · have few : ¬ s.params.linkError ≤ raiseErrors (s.link c).errors := not_le.mpr below
    rw [next, s.takeBad_of_up up]
    simp only [few, if_false]
    rfl
  · rw [next, s.takeBad_of_lost lost]; rfl

/-- Settles O50: the head leaves each kind of queue. -/
theorem transmissionTakesHead : Obligations.TransmissionTakesHead := by
  unfold Obligations.TransmissionTakesHead
  intro s run
  refine ⟨fun c => ?_, ?_, ?_⟩
  · simp [exec, execDeliveryQueueTransmit, s.running_of _ run, State.modQueue, OutQueue.transmit,
      State.queue, List.head?_eq_getElem?]
  · simp [exec, execDeliveryQueueTransmit, s.running_of _ run, State.modQueue, OutQueue.transmit,
      List.head?_eq_getElem?]
  · simp [exec, execOrderLineTransmit, s.running_of _ run, FleetLink.transmit,
      List.head?_eq_getElem?]

end Sys2Proof.Machine
end

section
/-! PROOF. The examinations of requests as the tables list them, and the requests that store a
setting or answer a record (Chapters 3 and 9). -/

namespace Sys2Proof.Machine

-- One theorem after another, so that the compile stays within its memory.
set_option Elab.async false

/-! ## Examinations as lists of checks -/

/-- The examination that a list of checks makes: the first that fails gives the reason. -/
def runChecks (xs : List Check) : Except Reason Unit :=
  match firstFailing xs with
  | some r => .error r
  | none => .ok ()

theorem runChecks_nil : runChecks [] = .ok () := rfl

theorem firstFailing_cons {α : Type} (b : Bool) (r : α) (xs : List (Bool × α)) :
    firstFailing ((b, r) :: xs) = if b = true then firstFailing xs else some r := by
  cases b <;> simp [firstFailing]

theorem firstFailing_append {α : Type} (xs ys : List (Bool × α)) :
    firstFailing (xs ++ ys) = (firstFailing xs).or (firstFailing ys) := by
  unfold firstFailing
  rw [List.find?_append]
  cases xs.find? fun x => !x.1 <;> rfl

theorem firstFailing_none {xs : List Check} (pass : allPass xs) : firstFailing xs = none := by
  simp only [firstFailing, Option.map_eq_none_iff, List.find?_eq_none]
  intro x hx
  simp [pass x hx]

theorem runChecks_cons (b : Bool) (r : Reason) (xs : List Check) :
    runChecks ((b, r) :: xs) = ensure (b = true) r >>= fun _ => runChecks xs := by
  cases b <;> rfl

theorem runChecks_append (xs ys : List Check) :
    runChecks (xs ++ ys) = runChecks xs >>= fun _ => runChecks ys := by
  unfold runChecks
  rw [firstFailing_append]
  cases firstFailing xs <;> rfl

theorem runChecks_error {xs : List Check} {r : Reason} :
    runChecks xs = .error r ↔ firstFailing xs = some r := by
  unfold runChecks
  cases firstFailing xs <;> simp

theorem runChecks_ok {xs : List Check} : runChecks xs = .ok () ↔ firstFailing xs = none := by
  unfold runChecks
  cases firstFailing xs <;> simp

theorem runChecks_of_pass {xs : List Check} (pass : allPass xs) : runChecks xs = .ok () :=
  runChecks_ok.mpr (firstFailing_none pass)

theorem ensure_of {p : Prop} [Decidable p] (h : p) (r : Reason) : ensure p r = .ok () := if_pos h

theorem ensure_of_not {p : Prop} [Decidable p] (h : ¬ p) (r : Reason) : ensure p r = .error r :=
  if_neg h

theorem meaning_some {α : Type} (a : α) : meaning (some a) = .ok a := rfl

theorem ok_bind {α β : Type} (a : α) (f : α → Except Reason β) : (Except.ok a >>= f) = f a := rfl

theorem error_bind {α β : Type} (r : Reason) (f : α → Except Reason β) :
    ((.error r : Except Reason α) >>= f) = .error r := rfl

theorem bind_ok_unit (x : Except Reason Unit) : (x >>= fun _ => .ok ()) = x := by
  cases x <;> rfl

variable (s : State)

theorem State.examined_ok {α : Type} {h : Header} {k : ReqKind} {v : Except Reason α} {x : α}
    {accept : α → State} (pass : v = .ok x) : s.examined h k v accept = accept x := by
  rw [pass]; rfl

theorem State.examined_error {α : Type} {h : Header} {k : ReqKind} {v : Except Reason α}
    {r : Reason} {accept : α → State} (fails : v = .error r) :
    s.examined h k v accept = s.answer h k (.refused r) := by
  rw [fails]; rfl

theorem State.answer_chair {h : Header} {c : ChairId} {panel : Byte}
    (sender : h.sender = .chair c panel) (k : ReqKind) (r : Reply) :
    s.answer h k r = { s with queues := s.joined c ⟨h.tag, .reply k r⟩ } := by
  simp only [State.answer, sender, Sender.port, State.modQueue, State.joined]

theorem State.answer_sup {h : Header} (sender : h.sender = .supervisor) (k : ReqKind) (r : Reply) :
    s.answer h k r = { s with supQueue := s.supQueue.join ⟨h.tag, .reply k r⟩ } := by
  simp only [State.answer, sender, Sender.port, State.modQueue]

theorem fromChair_of {h : Header} {c : ChairId} {panel : Byte} (sender : h.sender = .chair c panel) :
    h.fromChair = .ok c := by
  simp only [Header.fromChair, sender]

theorem fromSup_of {h : Header} (sender : h.sender = .supervisor) : h.fromSup = .ok () := by
  simp only [Header.fromSup, sender]

theorem State.enrolled_of {l : LoaderId} (enrolled : (s.loader l).state ≠ .unenrolled) :
    s.enrolled l = .ok () := ensure_of enrolled _

/-! ## The grant checks -/

variable (l : LoaderId) (c : ChairId) (i : SlotId) (m : Mode)

theorem State.checkChair_eq_runChecks : s.checkChair c i = runChecks
    [(!s.stopAll, .stopped), ((s.link c).state == .up, .chairDown), (!(s.chair c).stop, .stopped),
      ((s.slot c i).contents == .empty, .slotBusy)] := by
  simp only [runChecks_cons, runChecks_nil, bind_ok_unit, State.checkChair, Bool.not_eq_true',
    beq_iff_eq, State.isUp]

theorem State.checkHeard_eq_runChecks : s.checkHeard l = runChecks
    [((s.loader l).position.isSome && !(s.loader l).radioSilent, .silent),
      ((s.loader l).onboard == .remote, .atMachine)] := by
  simp only [runChecks_cons, runChecks_nil, bind_ok_unit, State.checkHeard, Bool.and_eq_true,
    Bool.not_eq_true', beq_iff_eq]

theorem Mode.supervised_or (m : Mode) (b : Bool) :
    (m == .supervised || b) = true ↔ (m = .manual → b = true) := by
  cases m <;> simp

theorem Mode.manual_or (m : Mode) (b : Bool) :
    (m == .manual || b) = true ↔ (m = .supervised → b = true) := by
  cases m <;> simp

theorem State.checkGround_eq_runChecks (without : Option CtxId) :
    s.checkGround l c m without = runChecks (s.checks9to13 l c m (s.countedLoad c without)) := by
  simp only [State.checks9to13, runChecks_cons, runChecks_nil, bind_ok_unit, State.checkGround,
    State.cleared, State.inClosing, s.admitsMode_eq, State.barrierBreached, s.manualLoad_eq,
    Mode.supervised_or, Mode.manual_or, Bool.not_eq_true', beq_iff_eq]
  rfl

theorem State.checkNeutral_eq_runChecks :
    s.checkNeutral c m = runChecks [(m == .supervised || (s.chair c).neutral, .notNeutral)] := by
  simp only [runChecks_cons, runChecks_nil, bind_ok_unit, State.checkNeutral, Mode.supervised_or]

theorem State.checks3to14_eq : s.checks3to14 l c i m =
    s.checks3to8 l c i ++ s.checks9to13 l c m (s.countedLoad c none) ++
      [(m == .supervised || (s.chair c).neutral, .notNeutral)] := rfl

theorem State.checks3to15_eq : s.checks3to15 l c i m = s.checks3to14 l c i m ++
    [(m == .supervised || (s.loader l).stationary, .notStationary)] := rfl

theorem State.checkReserve_eq_runChecks :
    s.checkReserve l c i m = runChecks (s.checks3to14 l c i m) := by
  have split : s.checks3to8 l c i =
      [(!s.stopAll, .stopped), ((s.link c).state == .up, .chairDown),
        (!(s.chair c).stop, .stopped), ((s.slot c i).contents == .empty, .slotBusy)] ++
      [((s.loader l).position.isSome && !(s.loader l).radioSilent, .silent),
        ((s.loader l).onboard == .remote, .atMachine)] := rfl
  rw [s.checks3to14_eq, split]
  simp only [runChecks_append, ← s.checkChair_eq_runChecks, ← s.checkHeard_eq_runChecks,
    ← s.checkGround_eq_runChecks l c m none, ← s.checkNeutral_eq_runChecks, bind_assoc,
    State.checkReserve]

theorem State.checkGrant_eq_runChecks :
    s.checkGrant l c i m = runChecks (s.checks3to15 l c i m) := by
  rw [s.checks3to15_eq, runChecks_append, ← s.checkReserve_eq_runChecks]
  simp only [State.checkGrant, runChecks_cons, runChecks_nil, bind_ok_unit, Mode.supervised_or]

/-- Settles O14: the grant checks are the list of the table, run in order. -/
theorem firstFailingGrantCheckGivesReason : Obligations.FirstFailingGrantCheckGivesReason := by
  unfold Obligations.FirstFailingGrantCheckGivesReason
  intro s l c i m
  exact s.checkGrant_eq_runChecks l c i m

/-! ## Settings and the clock -/

/-- Settles O51: each setting is stored as its owner examines it, and the tick as it is. -/
theorem settingsAreStored : Obligations.SettingsAreStored := by
  unfold Obligations.SettingsAreStored
  intro s a h sender ready heard
  have sup := fromSup_of sender
  refine ⟨fun code value p v named small stored => ?_, fun code value bad => ?_,
    fun setting on flag => ?_, fun chair levels c named => ?_, ?_⟩
  · have examine : Header.examineParam h code value = .ok (p, v) :=
      examineParam_ok.mpr ⟨sup, named, small, stored⟩
    refine ⟨a.params.put p v, ?_, ?_, fun n ne => ?_⟩
    · rw [exec_of_ready rfl ready heard]
      refine congrArg Host.Outcome.next ((a.examined_ok examine).trans ?_)
      simp only [State.ok, a.answer_sup sender]
    · rw [Params.get_put, if_pos rfl]
    · rw [Params.get_put, if_neg ne]
  · have examine : Header.examineParam h code value = .error .badValue := by
      simp only [Header.examineParam, sup, ok_bind]
      rcases bad with none | ⟨attention, big⟩
      · simp only [none, meaning, error_bind]
      · simp only [attention, meaning_some, ok_bind]
        rw [ensure_of_not (by simpa using big), error_bind]
    rw [exec_of_ready rfl ready heard]
    exact congrArg Host.Outcome.next ((a.examined_error examine).trans (a.answer_sup sender _ _))
  · have examine : Header.examineWatchAll h setting = .ok on := by
      simp only [Header.examineWatchAll, sup, flag, ok_bind, meaning_some]
    rw [exec_of_ready rfl ready heard]
    refine congrArg Host.Outcome.next ((a.examined_ok examine).trans ?_)
    simp only [State.ok, a.answer_sup sender]
  · have examine : Header.examineClearance h chair = .ok c := by
      simp only [Header.examineClearance, sup, named, ok_bind, meaning_some]
    rw [exec_of_ready rfl ready heard]
    refine congrArg Host.Outcome.next ((a.examined_ok examine).trans ?_)
    simp only [State.ok, a.answer_sup sender]
    rfl
  · exact congrArg Host.Outcome.next (s.running_of _ ready.1.1)

/-! ## Queries -/

theorem State.ok_eq (h : Header) (k : ReqKind) (b : OkBody) :
    s.ok h k b = s.modQueue h.sender.port (·.join ⟨h.tag, .reply k (.ok b)⟩) := rfl

theorem length_filter_finRange {n : Nat} (p : Fin n → Bool) :
    ((List.finRange n).filter p).length = (List.finRange n).countP p :=
  List.countP_eq_length_filter.symm

theorem State.contextsWhere_length (p : Handover → Bool) :
    (s.contextsWhere p).length = (List.finRange 8).countP fun k => (s.handover k).any p :=
  length_filter_finRange _

theorem State.loadersWhere_length (p : Loader → Bool) :
    (s.loadersWhere p).length = (List.finRange 32).countP fun l => p (s.loader l) :=
  length_filter_finRange _

theorem State.contextsInUse : (s.contextsWhere fun _ => true).length =
    (List.finRange 8).countP fun k => (s.handover k).isSome := by
  rw [s.contextsWhere_length]
  refine congrArg (List.countP · _) (funext fun k => ?_)
  cases s.handover k <;> rfl

theorem State.closuresInUse : ((List.finRange 4).filter fun k => (s.closure k).isSome).length =
    (List.finRange 4).countP fun k => (s.closure k).isSome := length_filter_finRange _

/-- Settles O52: each query is examined and answers the view of its record. -/
theorem queriesAnswerRecords : Obligations.QueriesAnswerRecords := by
  unfold Obligations.QueriesAnswerRecords
  rintro s a h _ ready heard rfl
  refine ⟨fun loader l named enrolled => ?_, fun chair c named allowed => ?_, ?_, ?_, ?_, ?_⟩
  · rw [exec_of_ready rfl ready heard]
    refine congrArg Host.Outcome.next (a.examined_ok (x := l) ?_)
    simp only [named, meaning_some, ok_bind, a.enrolled_of enrolled]
  · rw [exec_of_ready rfl ready heard]
    refine congrArg Host.Outcome.next ((a.examined_ok (x := c) ?_).trans ?_)
    · rcases allowed with sender | ⟨panel, sender⟩
      · simp only [Header.examineQueryChair, named, meaning_some, ok_bind, sender]
      · simp only [Header.examineQueryChair, named, meaning_some, ok_bind, sender]
        rfl
    · rw [a.ok_eq]
      simp only [State.viewChair, a.manualLoad_eq]
  · rintro zone z rfl sender
    rw [exec_of_ready rfl ready heard]
    refine congrArg Host.Outcome.next ((a.examined_ok (fromSup_of sender)).trans ?_)
    rw [a.ok_eq]
    simp only [State.viewZone, State.authorityIn, a.loadersWhere_length, zoneOf]
  · intro context k named sender
    rw [exec_of_ready rfl ready heard]
    refine congrArg Host.Outcome.next (a.examined_ok (x := k) ?_)
    simp only [Header.examineQueryHandover, fromSup_of sender, named, meaning_some, ok_bind]
  · intro code p named sender
    have one : queriedParam code = some (some p) := by
      have other : code ≠ 255 := by
        rintro rfl
        cases named
      simp only [queriedParam, if_neg other, named, Option.map_some]
    rw [exec_of_ready rfl ready heard]
    refine congrArg Host.Outcome.next (a.examined_ok (x := some p) ?_)
    simp only [Header.examineQueryParam, fromSup_of sender, one, meaning_some, ok_bind]
  · intro sender
    rw [exec_of_ready rfl ready heard]
    refine congrArg Host.Outcome.next ((a.examined_ok (x := none) ?_).trans ?_)
    · simp only [Header.examineQueryParam, fromSup_of sender, queriedParam, if_true, meaning_some,
        ok_bind]
    · rw [a.ok_eq]
      simp only [State.viewModule, a.contextsInUse, a.closuresInUse]

end Sys2Proof.Machine
end

section
/-! PROOF. What joins a delivery queue and the order line, and what leaves them full (07 7-5, 08 8-5);
how many notices each operation sends, and that none of them takes a reply from a queue. -/

namespace Sys2Proof.Machine

-- One theorem after another, so that the compile stays within its memory.
set_option Elab.async false

/-! ## A full delivery queue -/

section

variable {q : OutQueue} {f : Frame}

/-- No report of the frame's loader waits, so that the frame takes no other's place (07 R142). -/
def OutQueue.newTo (q : OutQueue) (f : Frame) : Prop :=
  ∀ l, f.reportOf = some l → ∀ g ∈ q.frames, g.reportOf ≠ some l

theorem OutQueue.newTo.not_replaced (fresh : q.newTo f) :
    (f.isReport && q.frames.any (·.reportOf == f.reportOf)) = false := by
  cases report : f.reportOf with
  | none => simp [Frame.isReport, report]
  | some l => simpa [Frame.isReport, report] using fresh l report

theorem OutQueue.newTo_of_not_report (h : f.isReport = false) : q.newTo f := by
  intro l report
  simp [Frame.isReport, report] at h

theorem OutQueue.join_of_room (fresh : q.newTo f) (room : q.frames.length < 32) :
    q.join f = { q with frames := q.frames ++ [f] } := by
  simp [OutQueue.join, fresh.not_replaced, Config.queueLimit, room]

theorem OutQueue.join_spends_report (fresh : q.newTo f) (full : 32 ≤ q.frames.length)
    (report : q.frames.any Frame.isReport = true) :
    q.join f = q.drop (q.frames.eraseP Frame.isReport ++ [f]) := by
  simp [OutQueue.join, fresh.not_replaced, Config.queueLimit, not_lt.mpr full, report]

theorem OutQueue.join_refuses_report (fresh : q.newTo f) (full : 32 ≤ q.frames.length)
    (reports : q.frames.any Frame.isReport = false) (report : f.isReport = true) :
    q.join f = q.drop q.frames := by
  rw [OutQueue.join, fresh.not_replaced]
  simp [Config.queueLimit, not_lt.mpr full, reports, report]

theorem OutQueue.join_spends_notice (full : 32 ≤ q.frames.length)
    (reports : q.frames.any Frame.isReport = false) (report : f.isReport = false)
    (notice : q.frames.any Frame.isNotice = true) :
    q.join f = q.drop (q.frames.eraseP Frame.isNotice ++ [f]) := by
  rw [OutQueue.join]
  simp [Config.queueLimit, not_lt.mpr full, reports, report, notice]

theorem OutQueue.join_refuses (full : 32 ≤ q.frames.length)
    (reports : q.frames.any Frame.isReport = false) (report : f.isReport = false)
    (notices : q.frames.any Frame.isNotice = false) : q.join f = q.drop q.frames := by
  rw [OutQueue.join]
  simp [Config.queueLimit, not_lt.mpr full, reports, report, notices]

end

theorem Frame.isReport_of_reply {f : Frame} (reply : f.isReply = true) : f.isReport = false := by
  rcases f.kind_cases with ⟨_, _, h⟩ | ⟨h, _⟩ | ⟨h, _⟩ <;> simp_all

theorem Frame.isNotice_of_reply {f : Frame} (reply : f.isReply = true) : f.isNotice = false := by
  rcases f.kind_cases with ⟨_, h, _⟩ | ⟨h, _⟩ | ⟨h, _⟩ <;> simp_all

theorem Frame.isReply_of_others {f : Frame} (report : f.isReport = false)
    (notice : f.isNotice = false) : f.isReply = true := by
  rcases f.kind_cases with ⟨h, _⟩ | ⟨_, h, _⟩ | ⟨_, _, h⟩ <;> simp_all

/-- What is taken out satisfies the test, so a filter that leaves it out does not change. -/
theorem filter_eraseP_of_disjoint {α : Type} {p r : α → Bool} (xs : List α)
    (apart : ∀ x, r x = true → p x = false) : (xs.eraseP p).filter r = xs.filter r := by
  induction xs with
  | nil => rfl
  | cons x xs ih =>
    cases out : p x with
    | true =>
      have gone : r x = false := by
        rw [← Bool.not_eq_true]
        intro h
        rw [apart x h] at out
        cases out
      simp [out, gone]
    | false => simp [out, List.filter_cons, ih]

theorem eraseP_split {α : Type} {p : α → Bool} {before after : List α} {x : α}
    (first : ∀ y ∈ before, p y = false) (out : p x = true) :
    (before ++ x :: after).eraseP p = before ++ after := by
  rw [List.eraseP_append_right _ (by simpa using first), List.eraseP_cons_of_pos out]

theorem length_eraseP_of_any {α : Type} {p : α → Bool} {xs : List α} (h : xs.any p = true) :
    (xs.eraseP p).length + 1 = xs.length := by
  obtain ⟨x, hx, px⟩ := List.any_eq_true.mp h
  have := List.length_eraseP_of_mem hx px
  have := List.length_pos_of_mem hx
  omega

theorem isReport_apart : ∀ x : Frame, x.isReply = true → x.isReport = false :=
  fun _ => Frame.isReport_of_reply

theorem isNotice_apart : ∀ x : Frame, x.isReply = true → x.isNotice = false :=
  fun _ => Frame.isNotice_of_reply

/-- What a frame that joins leaves of the replies: a reply joins them unless the queue holds 32 of
them, and any other frame leaves them (07 R143). -/
theorem OutQueue.join_replies (q : OutQueue) (f : Frame)
    (room : f.isReply = true → q.frames.countP Frame.isReply < 32) :
    (q.join f).frames.filter Frame.isReply =
      q.frames.filter Frame.isReply ++ if f.isReply = true then [f] else [] := by
  have tail : [f].filter Frame.isReply = if f.isReply = true then [f] else [] := by
    cases reply : f.isReply <;> simp [reply]
  by_cases fresh : q.newTo f
  swap
  · obtain ⟨l, report, queued⟩ : ∃ l, f.reportOf = some l ∧ ∃ g ∈ q.frames, g.reportOf = some l := by
      simpa [OutQueue.newTo] using fresh
    have reply : f.isReply = false := by
      rw [← Bool.not_eq_true]
      intro h
      simpa [Frame.isReport, report] using Frame.isReport_of_reply h
    rw [q.join_of_queuedReport report queued, reply, List.filter_map]
    simp only [Bool.false_eq_true, if_false, List.append_nil]
    have same : ((Frame.isReply) ∘ fun g => if g.reportOf = some l then f else g) = Frame.isReply := by
      funext g
      by_cases h : g.reportOf = some l
      · have : g.isReply = false := by
          rw [← Bool.not_eq_true]
          intro r
          simpa [Frame.isReport, h] using Frame.isReport_of_reply r
        simp [h, reply, this]
      · simp [h]
    rw [same]
    refine List.map_congr_left (fun g hg => ?_) |>.trans (List.map_id _)
    have r := (List.mem_filter.mp hg).2
    have : g.reportOf ≠ some l := by
      intro h
      simpa [Frame.isReport, h] using Frame.isReport_of_reply r
    simp [this]
  by_cases short : q.frames.length < 32
  · rw [OutQueue.join_of_room fresh short, List.filter_append, tail]
  have full := not_lt.mp short
  cases reports : q.frames.any Frame.isReport with
  | true =>
    rw [OutQueue.join_spends_report fresh full reports]
    simp only [OutQueue.drop, List.filter_append, filter_eraseP_of_disjoint _ isReport_apart, tail]
  | false =>
    cases report : f.isReport with
    | true =>
      have reply : f.isReply = false := by
        rw [← Bool.not_eq_true]
        intro h
        rw [Frame.isReport_of_reply h] at report
        cases report
      rw [OutQueue.join_refuses_report fresh full reports report]
      simp [OutQueue.drop, reply]
    | false =>
      cases notices : q.frames.any Frame.isNotice with
      | true =>
        rw [OutQueue.join_spends_notice full reports report notices]
        simp only [OutQueue.drop, List.filter_append,
          filter_eraseP_of_disjoint _ isNotice_apart, tail]
      | false =>
        have every : q.frames.countP Frame.isReply = q.frames.length := by
          rw [List.countP_eq_length]
          intro g hg
          exact Frame.isReply_of_others
            (by simpa using (List.any_eq_false.mp reports) g hg)
            (by simpa using (List.any_eq_false.mp notices) g hg)
        have reply : f.isReply = false := by
          rw [← Bool.not_eq_true]
          intro h
          have := room h
          omega
        rw [OutQueue.join_refuses full reports report notices]
        simp [OutQueue.drop, reply]

/-- A full queue loses one frame to any frame that joins it as a further one. -/
theorem OutQueue.join_full {q : OutQueue} {f : Frame} (fresh : q.newTo f)
    (full : q.frames.length = 32) :
    ∃ frames, q.join f = q.drop frames ∧ frames.length = 32 := by
  cases reports : q.frames.any Frame.isReport with
  | true =>
    have := length_eraseP_of_any reports
    exact ⟨_, OutQueue.join_spends_report fresh full.ge reports, by simp; omega⟩
  | false =>
    cases report : f.isReport with
    | true => exact ⟨_, OutQueue.join_refuses_report fresh full.ge reports report, full⟩
    | false =>
      cases notices : q.frames.any Frame.isNotice with
      | true =>
        have := length_eraseP_of_any notices
        exact ⟨_, OutQueue.join_spends_notice full.ge reports report notices, by simp; omega⟩
      | false => exact ⟨_, OutQueue.join_refuses full.ge reports report notices, full⟩

theorem any_eq_false {α : Type} {p : α → Bool} {xs : List α} (h : ∀ x ∈ xs, p x = false) :
    xs.any p = false := List.any_eq_false.mpr fun x hx => by simp [h x hx]

theorem countP_lt_length {α : Type} {p : α → Bool} {xs : List α} {x : α} (hx : x ∈ xs)
    (out : p x = false) : xs.countP p < xs.length := by
  refine lt_of_le_of_ne List.countP_le_length fun h => ?_
  rw [List.countP_eq_length.mp h x hx] at out
  cases out

theorem OutQueue.join_refuses_reply {q : OutQueue} {f : Frame} (full : 32 ≤ q.frames.length)
    (replies : ∀ g ∈ q.frames, g.isReply = true) (reply : f.isReply = true) :
    q.join f = q.drop q.frames :=
  OutQueue.join_refuses full (any_eq_false fun g hg => Frame.isReport_of_reply (replies g hg))
    (Frame.isReport_of_reply reply) (any_eq_false fun g hg => Frame.isNotice_of_reply (replies g hg))

theorem OutQueue.join_full_replies {q : OutQueue} {f : Frame} (full : q.frames.length = 32) :
    (q.join f).frames.filter Frame.isReply = q.frames.filter Frame.isReply ++
      if f.isReply = true ∧ ∃ g ∈ q.frames, g.isReply = false then [f] else [] := by
  by_cases other : ∃ g ∈ q.frames, g.isReply = false
  · obtain ⟨g, hg, out⟩ := id other
    rw [q.join_replies f fun _ => full ▸ countP_lt_length hg out]
    simp only [other, and_true]
  · have replies : ∀ g ∈ q.frames, g.isReply = true := by simpa using other
    cases reply : f.isReply with
    | true =>
      rw [OutQueue.join_refuses_reply full.ge replies reply]
      simp only [OutQueue.drop, other, and_false, if_false, List.append_nil]
    | false =>
      rw [q.join_replies f fun h => by rw [reply] at h; cases h]
      simp [reply]

/-! ## A full order line -/

theorem FleetLink.join_of_room {line : FleetLink} (o : Order) (room : line.orders.length < 64) :
    line.join o = { line with orders := line.orders ++ [o] } := by
  simp [FleetLink.join, Config.orderLimit, room]

theorem FleetLink.join_spends_drive {line : FleetLink} (o : Order)
    (full : line.orders.length = 64) {before after : List Order} {d : Order}
    (orders : line.orders = before ++ d :: after) (drive : d.isDrive = true)
    (first : ∀ x ∈ before, x.isDrive = false) :
    line.join o = line.drop (before ++ after ++ [o]) := by
  have some : line.orders.any Order.isDrive = true := by simp [orders, drive]
  have spent : line.orders.eraseP Order.isDrive = before ++ after := by
    rw [orders, eraseP_split first drive]
  rw [FleetLink.join]
  simp only [Config.orderLimit, full, lt_irrefl, if_false, some, if_true, spent]

theorem FleetLink.join_refuses_drive {line : FleetLink} {o : Order}
    (full : line.orders.length = 64) (drives : ∀ x ∈ line.orders, x.isDrive = false)
    (drive : o.isDrive = true) : line.join o = line.drop line.orders := by
  simp [FleetLink.join, Config.orderLimit, full, any_eq_false drives, drive]

theorem FleetLink.join_spends_overtaken {line : FleetLink} {o : Order}
    (full : line.orders.length = 64) (drives : ∀ x ∈ line.orders, x.isDrive = false)
    (drive : o.isDrive = false) : line.join o = line.drop (dropOvertaken line.orders ++ [o]) := by
  simp [FleetLink.join, Config.orderLimit, full, any_eq_false drives, drive]

/-- Among more orders than there are loaders, two are of one loader. -/
theorem overtaken_of_full {orders : List Order} (full : orders.length = 64) :
    ¬ (orders.map (·.loader)).Nodup := by
  intro distinct
  have few := distinct.length_le_card
  simp [full] at few

/-- Settles O49: what each full queue spends, by the order in which the join tests it. -/
theorem fullQueueGivesWay : Obligations.FullQueueGivesWay := by
  unfold Obligations.FullQueueGivesWay
  refine ⟨fun q f full fresh => ?_, fun line o => ⟨FleetLink.join_of_room o, fun full => ?_⟩⟩
  · obtain ⟨frames, lost, length⟩ := OutQueue.join_full fresh full
    refine ⟨by rw [lost]; rfl, by rw [lost]; exact length, OutQueue.join_full_replies full,
      fun before g after split spent => ?_, fun reports kept => ?_⟩
    · rcases spent with ⟨report, first⟩ | ⟨notice, other, first, reports⟩
      · rw [OutQueue.join_spends_report fresh full.ge (by simp [split, report]), split]
        simp only [OutQueue.drop, eraseP_split first report]
      · rw [OutQueue.join_spends_notice full.ge (any_eq_false reports) other
          (by simp [split, notice]), split]
        simp only [OutQueue.drop, eraseP_split first notice]
    · cases report : f.isReport with
      | true => rw [OutQueue.join_refuses_report fresh full.ge (any_eq_false reports) report]; rfl
      | false =>
        have notices := kept.resolve_left (by simp [report])
        rw [OutQueue.join_refuses full.ge (any_eq_false reports) report (any_eq_false notices)]
        rfl
  · refine ⟨fun before d after split drive first =>
        FleetLink.join_spends_drive o full split drive first,
      fun drives drive => FleetLink.join_refuses_drive full drives drive, fun drives drive => ?_⟩
    obtain ⟨before, d, after, split, rest, later, earliest⟩ :=
      dropOvertaken_split line.orders (overtaken_of_full full)
    refine ⟨before, d, after, split, later, earliest, ?_⟩
    rw [FleetLink.join_spends_overtaken full drives drive, rest]
    rfl

end Sys2Proof.Machine
end

section
/-! PROOF. How many notices each operation sends: a queue with room for them takes them at its tail,
and no queue loses a reply to them (02 R43, 04 R92, 07 R143). -/

namespace Sys2Proof.Machine

-- One theorem after another, so that the compile stays within its memory.
set_option Elab.async false

/-! ## Notices in one queue -/

/-- At most so many notices have joined the queue: no reply is lost, and where all have room they
stand at the tail. -/
structure OutQueue.noticed (n : Nat) (q q' : OutQueue) : Prop where
  replies : q'.frames.filter Frame.isReply = q.frames.filter Frame.isReply
  room : q.frames.length + n ≤ 32 → ∃ fs, fs.length ≤ n ∧ (∀ f ∈ fs, f.isNotice = true) ∧
    q'.frames = q.frames ++ fs
  sending : q'.sending = q.sending

theorem OutQueue.noticed.refl (n : Nat) (q : OutQueue) : q.noticed n q :=
  ⟨rfl, fun _ => ⟨[], Nat.zero_le _, by simp, by simp⟩, rfl⟩

theorem OutQueue.noticed.of_eq {q q' : OutQueue} (n : Nat) (h : q' = q) : q.noticed n q' :=
  h ▸ .refl n q

theorem OutQueue.noticed.mono {m n : Nat} {q q' : OutQueue} (h : q.noticed m q') (le : m ≤ n) :
    q.noticed n q' := by
  refine ⟨h.replies, fun fits => ?_, h.sending⟩
  obtain ⟨fs, length, notices, frames⟩ := h.room (by omega)
  exact ⟨fs, by omega, notices, frames⟩

theorem OutQueue.noticed.trans {m n : Nat} {q q' q'' : OutQueue} (a : q.noticed m q')
    (b : q'.noticed n q'') : q.noticed (m + n) q'' := by
  refine ⟨b.replies.trans a.replies, fun fits => ?_, b.sending.trans a.sending⟩
  obtain ⟨fs, length, notices, frames⟩ := a.room (by omega)
  obtain ⟨gs, length', notices', frames'⟩ := b.room (by rw [frames, List.length_append]; omega)
  refine ⟨fs ++ gs, by rw [List.length_append]; omega, ?_, ?_⟩
  · intro f hf
    rcases List.mem_append.mp hf with h | h
    · exact notices f h
    · exact notices' f h
  · rw [frames', frames, List.append_assoc]

theorem Frame.notice_isNotice (tag : Byte) (n : Notice) :
    Frame.isNotice ⟨tag, .notice n⟩ = true := rfl

theorem OutQueue.noticed.join (q : OutQueue) (n : Notice) : q.noticed 1 (q.join ⟨0, .notice n⟩) := by
  refine ⟨?_, fun fits => ⟨[⟨0, .notice n⟩], le_rfl, by simp [Frame.notice_isNotice], ?_⟩,
    q.join_sending _⟩
  · rw [q.join_replies _ fun h => by simp [Frame.isReply] at h]
    simp [Frame.isReply]
  · rw [q.join_room _ (by omega) rfl]

theorem OutQueue.noticed.mem {n : Nat} {q q' : OutQueue} (h : q.noticed n q')
    (fits : q.frames.length + n ≤ 32) {f : Frame} (hf : f ∈ q.frames) : f ∈ q'.frames := by
  obtain ⟨fs, -, -, frames⟩ := h.room fits
  rw [frames]
  exact List.mem_append_left _ hf

theorem OutQueue.noticed.mem_reply {n : Nat} {q q' : OutQueue} (h : q.noticed n q') {f : Frame}
    (hf : f ∈ q.frames) (reply : f.isReply = true) : f ∈ q'.frames := by
  have kept : f ∈ q'.frames.filter Frame.isReply := by
    rw [h.replies]
    exact List.mem_filter.mpr ⟨hf, reply⟩
  exact (List.mem_filter.mp kept).1

theorem OutQueue.noticed.length {n : Nat} {q q' : OutQueue} (h : q.noticed n q')
    (fits : q.frames.length + n ≤ 32) : q'.frames.length ≤ q.frames.length + n := by
  obtain ⟨fs, length, -, frames⟩ := h.room fits
  rw [frames, List.length_append]
  omega

theorem OutQueue.noticed.countP {n : Nat} {q q' : OutQueue} (h : q.noticed n q') :
    q'.frames.countP Frame.isReply = q.frames.countP Frame.isReply := by
  rw [List.countP_eq_length_filter, List.countP_eq_length_filter, h.replies]

/-! ## Notices in every queue -/

/-- One number for the queues of the chairs and one for that of the supervisor. -/
def noticeCount (chairs sup : Nat) : Port → Nat
  | .chair _ => chairs
  | .supervisor => sup

/-- From one state to the next at most so many notices have joined each chair's queue, and at most
so many the supervisor's. -/
def State.tells (chairs sup : Nat) (s t : State) : Prop :=
  ∀ p : Port, (s.queue p).noticed (noticeCount chairs sup p) (t.queue p)

theorem State.tells.of_frame {ps : List Part} {s t : State} (a b : Nat) (h : s.sameBut ps t)
    (chairs : Part.queues ∉ ps := by decide) (sup : Part.supQueue ∉ ps := by decide) :
    s.tells a b t := fun p => .of_eq _ (h.queue p chairs sup)

variable (s : State)

theorem State.tells.refl (a b : Nat) : s.tells a b s := fun _ => .refl _ _

theorem State.tells.mono {s t : State} {a b a' b' : Nat} (h : s.tells a b t) (ha : a ≤ a' := by omega)
    (hb : b ≤ b' := by omega) : s.tells a' b' t := fun p => by
  cases p with
  | chair c => exact (h (.chair c)).mono ha
  | supervisor => exact (h .supervisor).mono hb

theorem State.tells.trans {s t u : State} {a b a' b' : Nat} (h : s.tells a b t)
    (h' : t.tells a' b' u) : s.tells (a + a') (b + b') u := fun p => by
  cases p with
  | chair c => exact (h (.chair c)).trans (h' (.chair c))
  | supervisor => exact (h .supervisor).trans (h' .supervisor)

/-- What leaves the queues alone, before and after. -/
theorem State.tells.after {ps : List Part} {s t u : State} {a b : Nat} (h : t.tells a b u)
    (frame : s.sameBut ps t) (chairs : Part.queues ∉ ps := by decide)
    (sup : Part.supQueue ∉ ps := by decide) : s.tells a b u := fun p => by
  rw [← frame.queue p chairs sup]
  exact h p

theorem State.tells.before {ps : List Part} {s t u : State} {a b : Nat} (h : s.tells a b t)
    (frame : t.sameBut ps u) (chairs : Part.queues ∉ ps := by decide)
    (sup : Part.supQueue ∉ ps := by decide) : s.tells a b u := fun p => by
  rw [frame.queue p chairs sup]
  exact h p

theorem State.tells.foldl {α : Type} {f : State → α → State} {a b : Nat}
    (h : ∀ (s : State) (x : α), s.tells a b (f s x)) (xs : List α) (s : State) :
    s.tells (xs.length * a) (xs.length * b) (xs.foldl f s) := by
  induction xs generalizing s with
  | nil => exact .refl s _ _
  | cons x xs ih =>
    refine ((h s x).trans (ih (f s x))).mono ?_ ?_ <;>
      rw [List.length_cons, Nat.add_mul, Nat.one_mul, Nat.add_comm]

theorem State.tells.queued_reply {s t : State} {a b : Nat} {p : Port} {f : Frame}
    (h : s.tells a b t) (reply : f.isReply = true) (queued : s.queued p f) : t.queued p f :=
  (h p).mem_reply queued reply

theorem State.tells.queued {s t : State} {a b : Nat} {p : Port} {f : Frame} (h : s.tells a b t)
    (fits : (s.queue p).frames.length + noticeCount a b p ≤ 32) (queued : s.queued p f) :
    t.queued p f := (h p).mem fits queued

/-! ## Operations -/

theorem State.tellSup_tells (n : Notice) : s.tells 0 1 (s.tellSup n) := fun p => by
  cases p with
  | chair c => exact .of_eq _ (State.modQueue_queue_ne _ (by simp) _)
  | supervisor => exact .join _ _

theorem State.tellChair_tells (c : ChairId) (n : Notice) : s.tells 1 0 (s.tellChair c n) := by
  unfold State.tellChair State.toChair
  split
  · intro p
    by_cases h : p = .chair c
    · rw [h, State.modQueue_queue_self]
      exact .join _ _
    · rw [State.modQueue_queue_ne _ h]
      exact .refl _ _
  · exact .refl _ _ _

theorem State.tellChair?_tells (c : Option ChairId) (n : Notice) :
    s.tells 1 0 (s.tellChair? c n) := by
  cases c with
  | none => exact .refl _ _ _
  | some c => exact s.tellChair_tells c n

theorem State.tellParties_tells (h : Handover) (n : Notice) : s.tells 2 0 (s.tellParties h n) :=
  (s.tellChair?_tells _ n).trans (State.tellChair_tells _ _ n)

theorem State.raiseAttention_tells (z : ZoneId) (l : LoaderId) :
    s.tells 0 1 (s.raiseAttention z l) := by
  unfold State.raiseAttention
  dsimp only
  split
  · exact .refl _ _ _
  · split
    · exact .of_frame _ _ (s.modZone_sameBut z _)
    · exact (State.tellSup_tells _ _).after (s.modZone_sameBut z _)

theorem State.recordPresence_tells (l : LoaderId) : s.tells 0 1 (s.recordPresence l) := by
  unfold State.recordPresence
  split
  · exact .refl _ _ _
  · split
    · exact s.raiseAttention_tells _ _
    · exact .refl _ _ _

theorem State.completeClosure_tells (z : ZoneId) (k : ClosureId) (n : Nat) :
    s.tells 0 1 (s.completeClosure z k n) :=
  ((State.tellSup_tells _ _).after (State.modZone_sameBut _ z _)).after (s.setClosure_sameBut k none)

theorem State.checkClosure_tells (z : ZoneId) (n : Nat) : s.tells 0 1 (s.checkClosure z n) := by
  unfold State.checkClosure
  split
  · split
    · exact s.completeClosure_tells _ _ _
    · exact .refl _ _ _
  · exact .refl _ _ _

theorem State.checkClosure?_tells (z : Option ZoneId) : s.tells 0 1 (s.checkClosure? z) := by
  cases z with
  | none => exact .refl _ _ _
  | some z => exact s.checkClosure_tells z 0

theorem State.checkZoneOf_tells (l : LoaderId) : s.tells 0 1 (s.checkZoneOf l) :=
  s.checkClosure?_tells _

theorem State.checkClosures_tells (p : ZoneId → Bool) : s.tells 0 4 (s.checkClosures p) := by
  refine (State.tells.foldl (a := 0) (b := 1) (fun s k => ?_) (List.finRange 4) s).mono ?_ ?_
  · split
    · split
      · exact s.checkClosure_tells _ _
      · exact .refl _ _ _
    · exact .refl _ _ _
  · simp
  · simp

theorem State.tellEvicted_tells (p : Option (ChairId × LoaderId)) (w : WatchPart) :
    s.tells 1 0 (s.tellEvicted p w) := by
  cases p with
  | none => exact .refl _ _ _
  | some y => exact s.tellChair_tells _ _

theorem State.lockPair_tells (c : ChairId) (l : LoaderId) : s.tells 1 0 (s.lockPair c l) :=
  (State.tellEvicted_tells _ _ _).after (s.setWatch_sameBut _)

theorem State.placeWatch_tells (c : ChairId) (l : LoaderId) : s.tells 1 0 (s.placeWatch c l) :=
  (State.tellEvicted_tells _ _ _).after (s.setWatch_sameBut _)

theorem State.tellHalted_tells (l : LoaderId) (i : Option SlotId) (c : Cause) :
    s.tells 1 1 (s.tellHalted l i c) :=
  (s.tellChair?_tells _ _).trans (State.tellSup_tells _ _)

theorem State.enterHaltedWith_tells (l : LoaderId) (c : Cause) (held : Option HaltRecord) :
    s.tells 1 1 (s.enterHaltedWith l c held) := by
  rw [s.enterHaltedWith_eq]
  exact ((((State.tellHalted_tells _ l _ c).before (State.updateLamps_sameBut _)).after
    (State.emitHold_sameBut _ l)).after (State.modLoader_sameBut _ l _)).after (s.vacate_sameBut l)

theorem State.haltAll_tells (ls : List LoaderId) (c : Cause) :
    s.tells ls.length ls.length (s.haltAll ls c) :=
  (State.tells.foldl (fun s l => s.enterHaltedWith_tells l c none) ls s).mono

theorem State.grant_tells (l : LoaderId) (c : ChairId) (i : SlotId) (m : Mode) :
    s.tells 1 1 (s.grant l c i m) := by
  rw [s.grant_eq]
  exact (((State.lockPair_tells _ c l).trans (State.recordPresence_tells _ l)).before
    (State.updateLamps_sameBut _)).after (s.grantBegun_sameBut l c i m)

theorem State.createHandover_tells (x : Start) (p : Phase) (ms : Nat) :
    s.tells 1 0 (s.createHandover x p ms) := by
  rw [s.createHandover_eq]
  refine (((State.lockPair_tells _ _ _).before (State.updateLamps_sameBut _)).after
    (State.reserveFor_sameBut _ x)).after (ps := [.handovers, .loaders]) ?_
  exact ((s.setHandover_sameBut _ _).mono (by simp)).trans
    ((State.modLoader_sameBut _ _ _).mono (by simp))

theorem State.enterSettling_tells (k : CtxId) : s.tells 2 0 (s.enterSettling k) := by
  unfold State.enterSettling
  split
  · exact .refl _ _ _
  · exact ((State.tellParties_tells _ _ _).after (State.emitHold_sameBut _ _)).after
      (s.setHandover_sameBut k _)

/-- The stop of a manual holder's lapse timer at the entry to CONFIRMING (04 R77). -/
theorem State.stopLapse_if_sameBut (b : Prop) [Decidable b] (l : LoaderId) :
    s.sameBut [.loaders] (if b then s.stopLapse l else s) := by
  split
  · exact s.stopLapse_sameBut l
  · exact .refl _ s

theorem State.enterConfirming_tells (k : CtxId) : s.tells 2 0 (s.enterConfirming k) := by
  unfold State.enterConfirming
  split
  · exact .refl _ _ _
  · exact ((((State.tellChair_tells _ _ _).trans (State.tellChair?_tells _ _ _)).after
      (State.emitHold_sameBut _ _)).after (State.stopLapse_if_sameBut _ _ _)).after
      (s.setHandover_sameBut k _)

theorem State.returnToSettling_tells (k : CtxId) : s.tells 2 0 (s.returnToSettling k) := by
  unfold State.returnToSettling
  split
  · exact .refl _ _ _
  · dsimp only
    split
    · exact (State.enterSettling_tells _ k).after (s.startLapse_sameBut _)
    · exact s.enterSettling_tells k

/-! ## Ends of handovers -/

theorem State.abortBegun_tells (k : CtxId) (h : Handover) (e : AbortEvent) :
    s.tells 2 1 (s.abortBegun k h e) := by
  unfold State.abortBegun
  exact ((((State.tellParties_tells _ h _).trans (State.tellSup_tells _ _)).before
    (State.setHandover_sameBut _ k none)).after (State.leaveTransfer_sameBut _ _ _ _ _)).after
    (s.dropReservation_sameBut h)

theorem State.abort_tells (k : CtxId) (e : AbortEvent) : s.tells 3 2 (s.abort k e) := by
  cases used : s.handover k with
  | none => rw [s.abort_of_free used]; exact .refl _ _ _
  | some h =>
    rw [s.abort_eq used]
    cases s.fateOf h e with
    | halt cause => exact (s.abortBegun_tells k h e).trans (State.enterHaltedWith_tells _ _ _ _)
    | orphan => exact ((s.abortBegun_tells k h e).before (State.updateLamps_sameBut _)).mono
    | revert => exact ((s.abortBegun_tells k h e).before (State.updateLamps_sameBut _)).mono

theorem State.abortAll_tells (ks : List CtxId) (e : CtxId → AbortEvent) :
    s.tells (ks.length * 3) (ks.length * 2) (s.abortAll ks e) :=
  .foldl (fun s k => s.abort_tells k (e k)) ks s

theorem State.haltLoader_tells (l : LoaderId) (c : Cause) (e : AbortEvent) :
    s.tells 3 2 (s.haltLoader l c e) := by
  unfold State.haltLoader
  split
  · split
    · exact s.abort_tells _ e
    · exact .refl _ _ _
  · exact (s.enterHaltedWith_tells l c none).mono
  · exact (s.enterHaltedWith_tells l c none).mono
  · exact (s.enterHaltedWith_tells l c none).mono
  · exact .refl _ _ _

theorem State.takeAuthority_tells (ls : List LoaderId) (e : AbortEvent) :
    ∃ a b, s.tells a b (s.takeAuthority ls e) :=
  ⟨_, _, (s.abortAll_tells _ _).trans (State.haltAll_tells _ _ _)⟩

end Sys2Proof.Machine
end

section
/-! PROOF. The requests of Chapter 3, each by what its owner's operation leaves of the loader, the
slots, the Watch Table and the order line. -/

namespace Sys2Proof.Machine

-- One theorem after another, so that the compile stays within its memory.
set_option Elab.async false

variable {s t : State}

/-! ## A state by its parts -/

/-- A state that differs in one loader record and the order line alone. -/
theorem State.eq_of_loader {l : LoaderId} (frame : s.sameBut [.loaders, .fleet] t)
    (others : s.otherLoaders l t) :
    t = { s with loaders := s.loaders.set l (t.loader l), fleet := t.fleet } := by
  have loaders : t.loaders = s.loaders.set l (t.loader l) := by
    refine Vector.ext fun n hn => ?_
    by_cases h : n = l
    · subst h
      rw [Vector.getElem_set_self]
      rfl
    · rw [Vector.getElem_set_ne _ _ (Ne.symm h)]
      exact others ⟨n, hn⟩ fun e => h (congrArg Fin.val e)
  have parts := fun p (n : p ∉ [Part.loaders, .fleet]) => frame p n
  cases t
  simp only [State.mk.injEq]
  exact ⟨loaders, parts .radioMap (by decide), parts .chairs (by decide),
    parts .links (by decide), parts .zones (by decide), parts .closures (by decide),
    parts .barriers (by decide), parts .lamps (by decide), parts .handovers (by decide),
    parts .watch (by decide), parts .queues (by decide), parts .supQueue (by decide),
    parts .supLink (by decide), trivial, parts .params (by decide), parts .watchAll (by decide),
    parts .seconds (by decide), parts .millis (by decide), parts .stopAll (by decide),
    parts .inputs (by decide), parts .inReset (by decide), parts .receivers (by decide),
    parts .line (by decide), parts .pending (by decide)⟩

/-- The same with the record and the order line named. -/
theorem State.eq_of_loader' {l : LoaderId} {r : Loader} {f : FleetLink}
    (frame : s.sameBut [.loaders, .fleet] t) (others : s.otherLoaders l t)
    (loader : t.loader l = r) (fleet : t.fleet = f) :
    t = { s with loaders := s.loaders.set l r, fleet := f } := by
  rw [← loader, ← fleet]
  exact State.eq_of_loader frame others

variable (s) (h : Header) (k : ReqKind) (b : OkBody)

/-! ## A reply leaves everything but its queue -/

@[simp] theorem State.ok_loader (l : LoaderId) : (s.ok h k b).loader l = s.loader l :=
  (s.ok_sameBut h k b).loader l

@[simp] theorem State.ok_handover (n : CtxId) : (s.ok h k b).handover n = s.handover n :=
  (s.ok_sameBut h k b).handover n

@[simp] theorem State.ok_chair (c : ChairId) : (s.ok h k b).chair c = s.chair c :=
  (s.ok_sameBut h k b).chair c

@[simp] theorem State.ok_slot (c : ChairId) (i : SlotId) : (s.ok h k b).slot c i = s.slot c i :=
  (s.ok_sameBut h k b).slot c i

@[simp] theorem State.ok_zone (z : ZoneId) : (s.ok h k b).zone z = s.zone z :=
  (s.ok_sameBut h k b).zone z

@[simp] theorem State.ok_closure (n : ClosureId) : (s.ok h k b).closure n = s.closure n :=
  (s.ok_sameBut h k b).closure n

@[simp] theorem State.ok_link (c : ChairId) : (s.ok h k b).link c = s.link c :=
  (s.ok_sameBut h k b).link c

@[simp] theorem State.ok_watch : (s.ok h k b).watch = s.watch := (s.ok_sameBut h k b).watch

@[simp] theorem State.ok_params : (s.ok h k b).params = s.params := (s.ok_sameBut h k b).params

@[simp] theorem State.ok_seconds : (s.ok h k b).seconds = s.seconds := (s.ok_sameBut h k b).seconds

@[simp] theorem State.ok_fleet : (s.ok h k b).fleet = s.fleet := (s.ok_sameBut h k b).fleet

@[simp] theorem State.ok_ordered (l : LoaderId) (o : OrderBody) :
    (s.ok h k b).ordered l o = s.ordered l o := by
  simp only [State.ordered, s.ok_fleet h k b, (s.ok_sameBut h k b).radioMap]

theorem State.sameBut.ordered {ps : List Part} {s t : State} (frame : s.sameBut ps t)
    (l : LoaderId) (o : OrderBody) (n : Part.fleet ∉ ps := by decide)
    (n' : Part.radioMap ∉ ps := by decide) : t.ordered l o = s.ordered l o := by
  simp only [State.ordered, frame.fleet n, frame.radioMap n']

theorem State.ready_heard {s a : State} {h : Header} (ready : s.ready h)
    (heard : a = s.heard h.sender) : (a.queue h.sender.port).fullOfReplies = false := by
  obtain ⟨sender, tag⟩ := h
  rw [heard, ← ready.2]
  cases sender <;> rfl

/-- The OK reply of a request that was passed on stands in its sender's queue. -/
theorem State.ok_queued {a : State} {h : Header}
    (room : (a.queue h.sender.port).fullOfReplies = false) (k : ReqKind) (b : OkBody) :
    (a.ok h k b).queued h.sender.port ⟨h.tag, .reply k (.ok b)⟩ := by
  unfold State.queued
  rw [State.ok, State.answer_queue]
  exact OutQueue.join_reply_mem _ _ rfl room

theorem State.answer_queued {a : State} {h : Header}
    (room : (a.queue h.sender.port).fullOfReplies = false) (k : ReqKind) (r : Reply) :
    (a.answer h k r).queued h.sender.port ⟨h.tag, .reply k r⟩ := by
  unfold State.queued
  rw [State.answer_queue]
  exact OutQueue.join_reply_mem _ _ rfl room

theorem Frame.reply_isReply (tag : Byte) (k : ReqKind) (r : Reply) :
    Frame.isReply ⟨tag, .reply k r⟩ = true := rfl

/-- The state of a chair's request once its OK reply has joined. -/
theorem State.ok_chair_eq {h : Header} {c : ChairId} {panel : Byte}
    (sender : h.sender = .chair c panel) (k : ReqKind) (b : OkBody) :
    s.ok h k b = { s with queues := s.joined c ⟨h.tag, .reply k (.ok b)⟩ } :=
  s.answer_chair sender k _

theorem State.ok_sup_eq {h : Header} (sender : h.sender = .supervisor) (k : ReqKind) (b : OkBody) :
    s.ok h k b = { s with supQueue := s.supQueue.join ⟨h.tag, .reply k (.ok b)⟩ } :=
  s.answer_sup sender k _

/-! ## CLAIM and RECLAIM -/

theorem State.examineGrant_of_meanings {a : State} {h : Header} {c : ChairId} {panel : Byte}
    {loader slot mode : Byte} {l : LoaderId} {i : SlotId} {m : Mode}
    (check2 : ChairId → Loader → Bool) (sender : h.sender = .chair c panel)
    (hl : loaderOf loader = some l) (hi : slotOf slot = some i) (hm : modeOf mode = some m) :
    a.examineGrant h loader slot mode check2 =
      runChecks (((a.loader l).state != .unenrolled, Reason.unknownLoader) ::
        (check2 c (a.loader l), .loaderState) :: a.checks3to15 l c i m) >>= fun _ =>
          .ok ⟨c, l, i, m⟩ := by
  simp only [State.examineGrant, fromChair_of sender, hl, hi, hm, meaning_some, ok_bind,
    runChecks_cons, bind_assoc, a.checkGrant_eq_runChecks, State.enrolled, bne_iff_ne]

/-- Settles O16: the examination of a CLAIM is the list of its tests. -/
theorem claimRefusalChangesNothing : Obligations.ClaimRefusalChangesNothing := by
  unfold Obligations.ClaimRefusalChangesNothing
  intro s a h c panel loader slot mode r sender ready heard failing
  have examine : a.examineGrant h loader slot mode claimable = .error r := by
    cases hl : loaderOf loader with
    | none =>
      simp only [hl, Option.some.injEq] at failing
      simp only [State.examineGrant, fromChair_of sender, hl, ok_bind, meaning, error_bind, failing]
    | some l =>
      cases hi : slotOf slot with
      | none =>
        simp only [hl, hi, Option.some.injEq] at failing
        simp only [State.examineGrant, fromChair_of sender, hl, hi, ok_bind, meaning, error_bind,
          failing]
      | some i =>
        cases hm : modeOf mode with
        | none =>
          simp only [hl, hi, hm, Option.some.injEq] at failing
          simp only [State.examineGrant, fromChair_of sender, hl, hi, hm, ok_bind, meaning,
            error_bind, failing]
        | some m =>
          simp only [hl, hi, hm] at failing
          rw [State.examineGrant_of_meanings _ sender hl hi hm, claimable,
            runChecks_error.mpr failing, error_bind]
  rw [exec_of_ready rfl ready heard]
  exact congrArg Host.Outcome.next ((a.examined_error examine).trans (a.answer_chair sender _ _))

/-! ## Chair records that change in their slots alone -/

/-- Every chair record is as it was but for its slots. -/
def State.slotsOnly (s t : State) : Prop :=
  ∀ c, t.chair c = { s.chair c with slots := (t.chair c).slots }

theorem State.slotsOnly.trans {s t u : State} (a : s.slotsOnly t) (b : t.slotsOnly u) :
    s.slotsOnly u := fun c => by
  rw [b c, a c]

theorem State.slotsOnly.of_frame {ps : List Part} {s t : State} (frame : s.sameBut ps t)
    (n : Part.chairs ∉ ps := by decide) : s.slotsOnly t := fun c => by
  rw [frame.chair c n]

theorem State.modSlot_slotsOnly (c : ChairId) (i : SlotId) (f : Slot → Slot) :
    s.slotsOnly (s.modSlot c i f) := fun d => s.modSlot_chair c d i f

theorem State.fillSlot_slotsOnly (c : ChairId) (i : SlotId) (x : SlotContents) :
    s.slotsOnly (s.fillSlot c i x) := s.modSlot_slotsOnly c i _

theorem State.vacate_slotsOnly (l : LoaderId) : s.slotsOnly (s.vacate l) := by
  unfold State.vacate
  split
  · exact (s.fillSlot_slotsOnly _ _ _).trans (.of_frame (State.unlockPair_sameBut _ _ _))
  · exact .of_frame (.refl [] s)

theorem State.enterHaltedWith_slotsOnly (l : LoaderId) (c : Cause) (held : Option HaltRecord) :
    s.slotsOnly (s.enterHaltedWith l c held) :=
  (s.vacate_slotsOnly l).trans (.of_frame (s.enterHaltedWith_afterVacate l c held))

theorem State.grant_slotsOnly (l : LoaderId) (c : ChairId) (i : SlotId) (m : Mode) :
    s.slotsOnly (s.grant l c i m) := by
  refine State.slotsOnly.trans ?_ (.of_frame (s.grantBegun_after l c i m))
  exact ((State.slotsOnly.of_frame (s.modLoader_sameBut l _)).trans
    (State.modSlot_slotsOnly _ c i _)).trans
      ((State.slotsOnly.of_frame (State.setLapse_sameBut _ l m)).trans
        (.of_frame (State.settleRefresh_sameBut _ l)))

theorem State.createHandover_slotsOnly (x : Start) (p : Phase) (ms : Nat) :
    s.slotsOnly (s.createHandover x p ms) := by
  have begun : s.sameBut [.handovers, .loaders] (s.handoverBegun x p ms) :=
    ((s.setHandover_sameBut _ _).mono (by simp)).trans
      ((State.modLoader_sameBut _ _ _).mono (by simp))
  rw [s.createHandover_eq]
  refine (State.slotsOnly.of_frame begun).trans (State.slotsOnly.trans ?_
    ((State.slotsOnly.of_frame (State.lockPair_sameBut _ _ _)).trans
      (.of_frame (State.updateLamps_sameBut _))))
  unfold State.reserveFor
  split
  · exact State.fillSlot_slotsOnly _ _ _ _
  · exact .of_frame (.refl [] _)

theorem State.abortBegun_slotsOnly (k : CtxId) (h : Handover) (e : AbortEvent) :
    s.slotsOnly (s.abortBegun k h e) := fun c => s.abortBegun_chair k h e c

theorem State.abort_slotsOnly (k : CtxId) (e : AbortEvent) : s.slotsOnly (s.abort k e) := by
  cases used : s.handover k with
  | none => rw [s.abort_of_free used]; exact .of_frame (.refl [] s)
  | some h =>
    have begun := s.abortBegun_slotsOnly k h e
    rw [s.abort_eq used]
    cases s.fateOf h e with
    | halt cause => exact begun.trans (State.enterHaltedWith_slotsOnly _ _ _ _)
    | orphan => exact begun.trans (.of_frame (State.updateLamps_sameBut _))
    | revert => exact begun.trans (.of_frame (State.updateLamps_sameBut _))

theorem State.slotsOnly.otherSlots {s t : State} {xs : List (ChairId × SlotId)}
    (h : s.slotsOnly t) (slots : ∀ c i, (c, i) ∉ xs → t.slot c i = s.slot c i) :
    s.otherSlots xs t := fun c => by
  refine ⟨?_, ?_, ?_, ?_, slots c⟩ <;> rw [h c]

/-! ## The grant -/

theorem State.grant_grantedTo (l : LoaderId) (c : ChairId) (i : SlotId) (m : Mode) :
    s.grantedTo (s.grant l c i m) l c i m none := by
  refine ⟨?_, ?_, fun n ne => s.grant_loader_ne ne c i m, (s.grant_slotsOnly l c i m).otherSlots ?_,
    s.grant_zone l c i m, ?_⟩
  · rw [s.grant_loader]
    cases m <;> rfl
  · rw [s.grant_slot, if_pos ⟨rfl, rfl⟩]
  · intro d j other
    rw [s.grant_slot, if_neg]
    rintro ⟨rfl, rfl⟩
    exact other (by simp)
  · rw [s.grant_watch]
    exact s.watch.lock_lockedFor c l

/-- A reply that joins first leaves a grant as it is. -/
theorem State.grantedTo.of_queues {s t u : State} {l : LoaderId} {c : ChairId} {i : SlotId}
    {m : Mode} {former : Option Holding} (frame : s.sameBut [.queues, .supQueue] t)
    (h : t.grantedTo u l c i m former) : s.grantedTo u l c i m former := by
  have loader := fun n => frame.loader n
  have chair := fun n => frame.chair n
  have slot := fun n j => frame.slot n j
  have zone := fun n => frame.zone n
  unfold State.grantedTo State.otherLoaders State.otherSlots at *
  simpa only [loader, chair, slot, zone, frame.watch, frame.params] using h

theorem State.grantAnswered_frame (h : Header) (k : ReqKind) (x : GrantArgs) :
    s.sameBut [.loaders, .chairs, .zones, .lamps, .watch, .queues, .supQueue]
      (s.grantAnswered h k x) :=
  ((s.ok_sameBut h k _).mono (by simp)).trans (State.grant_sameBut _ _ _ _ _)

theorem State.grantAnswered_queued {a : State} {h : Header} (k : ReqKind) (x : GrantArgs)
    (room : (a.queue h.sender.port).fullOfReplies = false) :
    (a.grantAnswered h k x).queued h.sender.port ⟨h.tag, .reply k
      (.ok (.grant x.loader x.slot x.mode ((a.loader x.loader).epoch + 1)))⟩ :=
  (State.grant_tells _ _ _ _ _).queued_reply (Frame.reply_isReply _ _ _) (State.ok_queued room _ _)

theorem port_of_chair {h : Header} {c : ChairId} {panel : Byte} (sender : h.sender = .chair c panel) :
    h.sender.port = .chair c := by rw [sender]; rfl

theorem port_of_sup {h : Header} (sender : h.sender = .supervisor) :
    h.sender.port = .supervisor := by rw [sender]; rfl

/-- Settles O15: both commands pass their tests, and the reply and the grant are as they are. -/
theorem claimAndReclaimGrantLoader : Obligations.ClaimAndReclaimGrantLoader := by
  unfold Obligations.ClaimAndReclaimGrantLoader
  intro s a h c panel loader slot mode l i m cmd kind sender ready heard hl hi hm command pass
  have room := State.ready_heard ready heard
  have next : exec cmd s = .next (a.grantAnswered h kind ⟨c, l, i, m⟩) := by
    have checks := a.checkGrant_eq_runChecks l c i m ▸ runChecks_of_pass pass
    rcases command with ⟨rfl, rfl, parked⟩ | ⟨rfl, rfl, halted, last⟩
    · rw [exec_of_ready rfl ready heard]
      refine congrArg Host.Outcome.next (a.examined_ok (a.examineGrant_ok.mpr
        ⟨fromChair_of sender, hl, hi, hm, by simp [parked], by simp [claimable, parked], checks⟩))
    · rw [exec_of_ready rfl ready heard]
      refine congrArg Host.Outcome.next (a.examined_ok (a.examineGrant_ok.mpr
        ⟨fromChair_of sender, hl, hi, hm, by simp [halted], by simp [reclaimable, halted, last],
          checks⟩))
  have queued := State.grantAnswered_queued kind ⟨c, l, i, m⟩ room
  rw [port_of_chair sender] at queued
  exact ⟨_, next, .of_queues (a.ok_sameBut h kind _) (State.grant_grantedTo _ l c i m), queued,
    a.grantAnswered_frame h kind _⟩

end Sys2Proof.Machine
end

section
/-! PROOF. RELEASE, MODE, MISSION, PARK and RESTORE (03 3-10 to 3-13). -/

namespace Sys2Proof.Machine

-- One theorem after another, so that the compile stays within its memory.
set_option Elab.async false

variable (s : State)

/-! ## Completion checks touch no chair's queue -/

theorem State.completeClosure_sameBut_supQueue (z : ZoneId) (k : ClosureId) (n : Nat) :
    s.sameBut [.zones, .closures, .supQueue] (s.completeClosure z k n) :=
  (((s.setClosure_sameBut k none).mono (by simp)).trans
    ((State.modZone_sameBut _ z _).mono (by simp))).trans
    ((State.tellSup_sameBut_supQueue _ _).mono (by simp))

theorem State.checkClosure_sameBut_supQueue (z : ZoneId) (n : Nat) :
    s.sameBut [.zones, .closures, .supQueue] (s.checkClosure z n) := by
  unfold State.checkClosure
  split
  · split
    · exact s.completeClosure_sameBut_supQueue _ _ _
    · exact .refl _ _
  · exact .refl _ _

theorem State.checkClosure?_sameBut_supQueue (z : Option ZoneId) :
    s.sameBut [.zones, .closures, .supQueue] (s.checkClosure? z) := by
  cases z with
  | none => exact .refl _ _
  | some z => exact s.checkClosure_sameBut_supQueue z 0

theorem State.checkZoneOf_sameBut_supQueue (l : LoaderId) :
    s.sameBut [.zones, .closures, .supQueue] (s.checkZoneOf l) :=
  s.checkClosure?_sameBut_supQueue _

/-- A chair's reply joins its own queue. -/
theorem State.ok_sameBut_queues {h : Header} {c : ChairId} {panel : Byte}
    (sender : h.sender = .chair c panel) (k : ReqKind) (b : OkBody) :
    s.sameBut [.queues] (s.ok h k b) := by
  rw [s.ok_chair_eq sender]
  intro p n
  cases p <;> simp_all [Part.same]

theorem State.ok_sameBut_supQueue {h : Header} (sender : h.sender = .supervisor) (k : ReqKind)
    (b : OkBody) : s.sameBut [.supQueue] (s.ok h k b) := by
  rw [s.ok_sup_eq sender]
  intro p n
  cases p <;> simp_all [Part.same]

/-! ## RELEASE -/

theorem State.releaseLoader_after (l : LoaderId) :
    ((s.vacate l).modLoader l Loader.parked).sameBut
      [.loaders, .fleet, .lamps, .zones, .closures, .supQueue] (s.releaseLoader l) :=
  (((State.emitHold_sameBut _ l).mono (by simp)).trans
    ((State.updateLamps_sameBut _).mono (by simp))).trans
    ((State.checkZoneOf_sameBut_supQueue _ l).mono (by simp))

theorem State.releaseLoader_afterHold (l : LoaderId) :
    (((s.vacate l).modLoader l Loader.parked).emitHold l).sameBut
      [.lamps, .zones, .closures, .supQueue] (s.releaseLoader l) :=
  ((State.updateLamps_sameBut _).mono (by simp)).trans
    ((State.checkZoneOf_sameBut_supQueue _ l).mono (by simp))

theorem State.emitHold_loader_of_idle {l : LoaderId}
    (idle : (s.loader l).state ∈ [LoaderState.parked, .halted, .isolated]) :
    (s.emitHold l).loader l = { s.loader l with holdRefresh := some ⟨500, 0⟩ } := by
  have holds : s.holdCondition l = true := by
    unfold State.holdCondition
    simp only [List.mem_cons, List.not_mem_nil, or_false] at idle
    rcases idle with e | e | e <;> rw [e]
  rw [s.emitHold_loader, holds]
  rfl

theorem State.releaseLoader_loader (l : LoaderId) :
    (s.releaseLoader l).loader l =
      { s.loader l with
        state := .parked, holder := none, lapse := false, lapseTimer := none
        holdRefresh := some ⟨500, 0⟩ } := by
  rw [(s.releaseLoader_afterHold l).loader, State.emitHold_loader_of_idle, State.modLoader_loader_self,
    s.vacate_loader]
  · rfl
  · simp [Loader.parked]

theorem State.releaseLoader_others (l : LoaderId) : s.otherLoaders l (s.releaseLoader l) := by
  intro n ne
  rw [(s.releaseLoader_afterHold l).loader, State.emitHold_loader_ne _ ne,
    State.modLoader_loader_ne _ ne, s.vacate_loader]

theorem State.releaseLoader_slot (l : LoaderId) (c : ChairId) (i : SlotId) :
    (s.releaseLoader l).slot c i =
      { s.slot c i with
        contents := if (s.loader l).heldAt c i then .empty else (s.slot c i).contents } := by
  rw [(s.releaseLoader_after l).slot]
  exact s.vacate_slot l c i

theorem State.releaseLoader_fleet (l : LoaderId) : (s.releaseLoader l).fleet = s.ordered l .hold := by
  rw [(s.releaseLoader_afterHold l).fleet, State.emitHold_fleet]
  exact (s.vacate_sameBut l).ordered l .hold

theorem State.releaseLoader_watch (l : LoaderId) :
    (s.releaseLoader l).watch = s.watch.unlockHolder l (s.loader l).holder := by
  rw [(s.releaseLoader_after l).watch]
  exact s.vacate_watch l

theorem State.releaseLoader_sameBut (l : LoaderId) :
    s.sameBut [.loaders, .chairs, .watch, .supQueue, .fleet, .lamps, .zones, .closures]
      (s.releaseLoader l) :=
  (((s.vacate_sameBut l).mono (by simp)).trans ((State.modLoader_sameBut _ l _).mono (by simp))).trans
    ((s.releaseLoader_after l).mono (by simp))

theorem State.releaseLoader_slotsOnly (l : LoaderId) : s.slotsOnly (s.releaseLoader l) :=
  ((s.vacate_slotsOnly l).trans (.of_frame (State.modLoader_sameBut _ l _))).trans
    (.of_frame (s.releaseLoader_after l))

/-- Settles O17: the holder passes the tests of a RELEASE, and its hands are emptied. -/
theorem releaseParksLoader : Obligations.ReleaseParksLoader := by
  unfold Obligations.ReleaseParksLoader
  intro s a h c panel loader l x sender ready heard named enrolled out holder chair
  have examine : a.examineRelease h loader = .ok (l, x) :=
    a.examineRelease_ok.mpr ⟨c, a.examineChair_ok.mpr ⟨fromChair_of sender, named, enrolled⟩,
      a.examineHolder_ok.mpr ⟨holder, chair, out⟩⟩
  have next : exec (.release h loader) s =
      .next ((a.ok h .release (.loaderSlot l x.slot)).releaseLoader l) := by
    have taken : a.takeRelease h loader =
        (a.ok h .release (.loaderSlot l x.slot)).releaseLoader l := by
      simp only [State.takeRelease, State.examined, examine]
    rw [exec_of_ready rfl ready heard, ← taken]
    rfl
  have heldAt : ∀ d j, (a.loader l).heldAt d j = true ↔ d = c ∧ j = x.slot := fun d j => by
    rw [Loader.heldAt_iff, holder]
    simp [chair, eq_comm]
  refine ⟨_, next, ?_, ?_, fun n ne => ?_, ?_, ?_, ?_, ?_,
    ((a.ok_sameBut h _ _).mono (by simp)).trans ((State.releaseLoader_sameBut _ l).mono (by simp))⟩
  · rw [State.releaseLoader_loader, a.ok_loader]
  · rw [State.releaseLoader_slot, a.ok_slot, a.ok_loader, if_pos ((heldAt _ _).mpr ⟨rfl, rfl⟩)]
  · rw [State.releaseLoader_others _ l n ne, a.ok_loader]
  · refine ((State.slotsOnly.of_frame (a.ok_sameBut h _ _)).trans
      (State.releaseLoader_slotsOnly _ l)).otherSlots fun d j other => ?_
    have away : ¬ (a.loader l).heldAt d j = true := by
      rw [heldAt]
      rintro ⟨rfl, rfl⟩
      simp at other
    rw [State.releaseLoader_slot, a.ok_slot, a.ok_loader, if_neg away]
  · rw [State.releaseLoader_fleet, a.ok_ordered]
  · rw [State.releaseLoader_watch, a.ok_watch, a.ok_loader, holder, ← chair]
    rfl
  · rw [(State.releaseLoader_sameBut _ l).queues, a.ok_chair_eq sender]

/-! ## The tests that RELEASE, MODE and MISSION share -/

theorem State.examineHolder_error {l : LoaderId} {c : ChairId} {r : Reason}
    (fails : ((s.loader l).holder = none ∧ r = .loaderState) ∨
      ((∃ x ∈ (s.loader l).holder, x.chair ≠ c) ∧ r = .notParty) ∨
      ((∃ x ∈ (s.loader l).holder, x.chair = c) ∧ (s.loader l).state = .transfer ∧ r = .busy)) :
    s.examineHolder l c = .error r := by
  unfold State.examineHolder
  rcases fails with ⟨none, rfl⟩ | ⟨⟨x, holder, other⟩, rfl⟩ | ⟨⟨x, holder, mine⟩, transfer, rfl⟩
  · rw [none]
  · rw [Option.mem_def.mp holder]
    dsimp only
    rw [ensure_of_not other, error_bind]
  · rw [Option.mem_def.mp holder]
    dsimp only
    rw [ensure_of mine, ok_bind, ensure_of_not (by simp [transfer]), error_bind]

theorem State.examineMode_eq {h : Header} {c : ChairId} {panel loader mode : Byte} {l : LoaderId}
    {m : Mode} (sender : h.sender = .chair c panel) (named : loaderOf loader = some l)
    (meant : modeOf mode = some m) (enrolled : (s.loader l).state ≠ .unenrolled) :
    s.examineMode h loader mode = s.examineHolder l c >>= fun x => .ok (l, x, m) := by
  simp only [State.examineMode, fromChair_of sender, named, meant, meaning_some, ok_bind,
    s.enrolled_of enrolled]

theorem State.takeMode_kept {h : Header} {loader mode : Byte} {l : LoaderId} {x : Holding}
    (examine : s.examineMode h loader mode = .ok (l, x, x.mode)) :
    s.takeMode h loader mode = s.ok h .mode (.mode l x.mode) := by
  refine (s.examined_ok examine).trans ?_
  simp only [if_true]

/-- Settles O18: the holder's tests, and the two ends of MODE's own. -/
theorem holderRequestsFirstTests : Obligations.HolderRequestsFirstTests := by
  unfold Obligations.HolderRequestsFirstTests
  intro s a h c panel loader mode l sender ready heard named enrolled
  have chair : ∀ i k r, i.header? = some h → i.taken false a = a.answer h k r →
      exec i s = .next { a with queues := a.joined c ⟨h.tag, .reply k r⟩ } := by
    intro i k r header taken
    rw [exec_of_ready header ready heard, taken, a.answer_chair sender]
  refine ⟨fun i k r command fails => ?_, fun x holder mine out => ⟨fun supervised => ?_,
    fun meant => ?_, fun none => ?_⟩⟩
  · have holder := a.examineHolder_error fails
    have named' : a.examineChair h loader = .ok (c, l) :=
      a.examineChair_ok.mpr ⟨fromChair_of sender, named, enrolled⟩
    rcases command with ⟨rfl, rfl⟩ | ⟨rfl, rfl⟩ | ⟨rfl, rfl⟩ | ⟨rfl, rfl⟩
    · refine chair _ _ _ rfl (a.examined_error ?_)
      simp only [State.examineRelease, named', ok_bind, holder, error_bind]
    · refine chair _ _ _ rfl (a.examined_error ?_)
      rw [a.examineMode_eq (m := .supervised) sender named rfl enrolled, holder, error_bind]
    · refine chair _ _ _ rfl (a.examined_error ?_)
      rw [a.examineMode_eq (m := .manual) sender named rfl enrolled, holder, error_bind]
    · refine chair _ _ _ rfl (a.examined_error ?_)
      simp only [State.examineMission, named', ok_bind, holder, error_bind]
  · have held := a.examineHolder_ok.mpr ⟨holder, mine, out⟩
    refine chair _ _ _ rfl ?_
    rw [← supervised]
    refine a.takeMode_kept ?_
    rw [a.examineMode_eq (m := .supervised) sender named rfl enrolled, held, supervised]
    rfl
  · have held := a.examineHolder_ok.mpr ⟨holder, mine, out⟩
    refine chair _ _ _ rfl (a.takeMode_kept ?_)
    rw [a.examineMode_eq sender named meant enrolled, held]
    rfl
  · refine chair _ _ _ rfl (a.examined_error ?_)
    simp only [State.examineMode, fromChair_of sender, named, none, meaning, ok_bind, error_bind]

/-! ## MODE -/

theorem State.admits_of_position {l : LoaderId} {m : Mode} {p : Position}
    (position : (s.loader l).position = some p)
    (ground : ((s.zone p.zone).cls.open m && (s.zone p.zone).holdsSegment p) = true) :
    s.admitsMode l m = true := by
  rw [s.admitsMode_eq, position]
  exact ground

theorem State.clear_of_position {l : LoaderId} {p : Position}
    (position : (s.loader l).position = some p) (clear : s.barriers[levelOf p.zone] = false) :
    s.barrierBreached l = false := by
  unfold State.barrierBreached
  rw [position]
  exact clear

theorem State.toSupervised_sameBut (l : LoaderId) (x : Holding) :
    s.sameBut [.loaders, .fleet] (s.toSupervised l x) :=
  (((s.modLoader_sameBut l _).mono (by simp)).trans ((State.stopLapse_sameBut _ l).mono (by simp))).trans
    (((State.settleRefresh_sameBut _ l).mono (by simp)).trans (State.emitHold_sameBut _ l))

theorem State.toSupervised_others (l : LoaderId) (x : Holding) :
    s.otherLoaders l (s.toSupervised l x) := by
  intro n ne
  unfold State.toSupervised
  dsimp only
  rw [State.emitHold_loader_ne _ ne, State.settleRefresh_loader_ne _ ne,
    State.stopLapse_loader_ne _ ne, State.modLoader_loader_ne _ ne]

/-- No hold condition holds for a SUPERVISED loader without drive lapse (01 R19). -/
theorem State.holdCondition_of_released {l : LoaderId}
    (state : (s.loader l).state ∈ [LoaderState.driven, .supervised, .orphaned])
    (lapse : (s.loader l).lapse = false) : s.holdCondition l = false := by
  unfold State.holdCondition
  simp only [List.mem_cons, List.not_mem_nil, or_false] at state
  rcases state with e | e | e <;> rw [e] <;> exact lapse

theorem State.toSupervised_loader (l : LoaderId) (x : Holding) :
    (s.toSupervised l x).loader l =
      { s.loader l with
        state := .supervised, holder := some { x with mode := .supervised }
        lapse := false, lapseTimer := none, holdRefresh := none } := by
  unfold State.toSupervised
  dsimp only
  rw [State.emitHold_loader, State.holdCondition_of_released, State.settleRefresh_loader,
    State.holdCondition_of_released, State.stopLapse_loader, State.modLoader_loader_self]
  · rfl
  · simp [State.stopLapse_loader]
  · simp [State.stopLapse_loader]
  · simp [State.settleRefresh_loader, State.stopLapse_loader]
  · simp [State.settleRefresh_loader, State.stopLapse_loader]

theorem State.toSupervised_fleet (l : LoaderId) (x : Holding) :
    (s.toSupervised l x).fleet = s.ordered l .hold := by
  unfold State.toSupervised
  dsimp only
  rw [State.emitHold_fleet, (State.settleRefresh_sameBut _ _).ordered,
    (State.stopLapse_sameBut _ _).ordered, (State.modLoader_sameBut _ _ _).ordered]

/-- Settles O19: the tests pass, and the change to supervised mode is as it is. -/
theorem modeToSupervisedHoldsAndReleases : Obligations.ModeToSupervisedHoldsAndReleases := by
  unfold Obligations.ModeToSupervisedHoldsAndReleases
  intro s a h c panel loader l i p sender ready heard named driven holder position ground clear
  have held : a.examineHolder l c = .ok ⟨c, i, .manual⟩ :=
    a.examineHolder_ok.mpr ⟨holder, rfl, by simp [driven]⟩
  have examine : a.examineMode h loader 1 = .ok (l, ⟨c, i, .manual⟩, .supervised) := by
    rw [a.examineMode_eq (m := .supervised) sender named rfl (by simp [driven]), held, ok_bind]
  have test : a.testSupervised l = .ok () := a.testSupervised_ok.mpr
    ⟨driven, a.admits_of_position position ground, a.clear_of_position position clear⟩
  have taken : a.takeMode h loader 1 =
      (a.ok h .mode (.mode l .supervised)).toSupervised l ⟨c, i, .manual⟩ :=
    (a.examined_ok examine).trans (a.examined_ok test)
  have next : exec (.modeToSupervised h loader) s = .next (a.takeMode h loader 1) :=
    exec_of_ready rfl ready heard
  rw [next, taken, State.eq_of_loader' (State.toSupervised_sameBut _ _ _)
    (State.toSupervised_others _ _ _) (State.toSupervised_loader _ _ _)
    (State.toSupervised_fleet _ _ _), a.ok_loader, a.ok_ordered, a.ok_chair_eq sender]

theorem State.toManual_after (l : LoaderId) (x : Holding) :
    (s.modLoader l fun r => { r with state := .driven, holder := some { x with mode := .manual } }).modSlot
      x.chair x.slot (fun slot => { slot with lastCount := none }) |>.sameBut [.loaders, .fleet]
      (s.toManual l x) :=
  ((State.startLapse_sameBut _ l).mono (by simp)).trans ((State.order_sameBut _ l _).mono (by simp))

theorem State.toManual_loader (l : LoaderId) (x : Holding) :
    (s.toManual l x).loader l =
      { s.loader l with
        state := .driven, holder := some { x with mode := .manual }
        lapse := false, lapseTimer := some ⟨s.params.driveLapse, 0⟩ } := by
  unfold State.toManual
  dsimp only
  rw [State.order_loader, State.startLapse_loader, (State.modSlot_sameBut _ _ _ _).loader,
    State.modLoader_loader_self]
  rfl

theorem State.toManual_others (l : LoaderId) (x : Holding) : s.otherLoaders l (s.toManual l x) := by
  intro n ne
  unfold State.toManual
  dsimp only
  rw [State.order_loader, State.startLapse_loader_ne _ ne, (State.modSlot_sameBut _ _ _ _).loader,
    State.modLoader_loader_ne _ ne]

theorem State.toManual_fleet (l : LoaderId) (x : Holding) :
    (s.toManual l x).fleet = s.ordered l (.mission 0) := by
  unfold State.toManual
  dsimp only
  rw [State.order_fleet, (State.startLapse_sameBut _ _).ordered,
    (State.modSlot_sameBut _ _ _ _).ordered, (State.modLoader_sameBut _ _ _).ordered]

theorem State.toManual_slot (l : LoaderId) (x : Holding) (c : ChairId) (i : SlotId) :
    (s.toManual l x).slot c i =
      if c = x.chair ∧ i = x.slot then { s.slot c i with lastCount := none } else s.slot c i := by
  rw [(s.toManual_after l x).slot, State.modSlot_slot]
  rfl

theorem State.toManual_sameBut (l : LoaderId) (x : Holding) :
    s.sameBut [.loaders, .chairs, .fleet] (s.toManual l x) :=
  (((s.modLoader_sameBut l _).mono (by simp)).trans
    ((State.modSlot_sameBut _ _ _ _).mono (by simp))).trans ((s.toManual_after l x).mono (by simp))

theorem State.toManual_slotsOnly (l : LoaderId) (x : Holding) : s.slotsOnly (s.toManual l x) :=
  ((State.slotsOnly.of_frame (s.modLoader_sameBut l _)).trans
    (State.modSlot_slotsOnly _ _ _ _)).trans (.of_frame (s.toManual_after l x))

/-- Settles O20: the tests pass, and the change to manual mode is as it is. -/
theorem modeToManualStartsDriving : Obligations.ModeToManualStartsDriving := by
  unfold Obligations.ModeToManualStartsDriving
  intro s a h c panel loader mode l i p sender ready heard named meant supervised holder position
    ground load neutral stationary
  have held : a.examineHolder l c = .ok ⟨c, i, .supervised⟩ :=
    a.examineHolder_ok.mpr ⟨holder, rfl, by simp [supervised]⟩
  have examine : a.examineMode h loader mode = .ok (l, ⟨c, i, .supervised⟩, .manual) := by
    rw [a.examineMode_eq sender named meant (by simp [supervised]), held, ok_bind]
  have test : a.testManual l c = .ok () := a.testManual_ok.mpr
    ⟨supervised, a.admits_of_position position ground, (a.manualLoad_eq c none).trans load, neutral,
      stationary⟩
  have next : exec (.modeToManual h loader mode) s =
      .next ((a.ok h .mode (.mode l .manual)).toManual l ⟨c, i, .supervised⟩) := by
    have taken : a.takeMode h loader mode =
        (a.ok h .mode (.mode l .manual)).toManual l ⟨c, i, .supervised⟩ :=
      (a.examined_ok examine).trans (a.examined_ok test)
    rw [exec_of_ready rfl ready heard, ← taken]
    rfl
  refine ⟨_, next, ?_, ?_, fun n ne => ?_, ?_, ?_, ?_,
    ((a.ok_sameBut_queues sender _ _).mono (by simp)).trans
      ((State.toManual_sameBut _ l _).mono (by simp))⟩
  · rw [State.toManual_loader, a.ok_loader, a.ok_params]
  · rw [State.toManual_slot, if_pos ⟨rfl, rfl⟩, a.ok_slot]
  · rw [State.toManual_others _ l _ n ne, a.ok_loader]
  · refine ((State.slotsOnly.of_frame (a.ok_sameBut h _ _)).trans
      (State.toManual_slotsOnly _ l _)).otherSlots fun d j other => ?_
    rw [State.toManual_slot, if_neg, a.ok_slot]
    rintro ⟨rfl, rfl⟩
    simp at other
  · rw [State.toManual_fleet, a.ok_ordered]
  · rw [(State.toManual_sameBut _ l _).queues, a.ok_chair_eq sender]

/-! ## MISSION -/

/-- Settles O21: the tests pass, and the order joins the line. -/
theorem missionBuildsOrder : Obligations.MissionBuildsOrder := by
  unfold Obligations.MissionBuildsOrder
  intro s a h c panel loader route l x sender ready heard named supervised holder mine ground
  have named' : a.examineChair h loader = .ok (c, l) :=
    a.examineChair_ok.mpr ⟨fromChair_of sender, named, by simp [supervised]⟩
  have held : a.examineHolder l c = .ok x :=
    a.examineHolder_ok.mpr ⟨holder, mine, by simp [supervised]⟩
  have tests : (route ≠ 0 → a.admitsMode l .supervised = true) ∧
      (route ≠ 0 → a.barrierBreached l = false) := by
    rcases ground with zero | ⟨p, position, admits, clear⟩
    · exact ⟨fun ne => absurd zero ne, fun ne => absurd zero ne⟩
    · exact ⟨fun _ => a.admits_of_position position admits,
        fun _ => a.clear_of_position position clear⟩
  have examine : a.examineMission h loader route = .ok l := by
    simp only [State.examineMission, named', held, ok_bind, ensure_of supervised, ensure_of tests.1,
      ensure_of tests.2]
  have taken : a.takeMission h loader route =
      (a.ok h .mission (.mission l route)).order l (.mission route) := a.examined_ok examine
  have next : exec (.mission h loader route) s = .next (a.takeMission h loader route) :=
    exec_of_ready rfl ready heard
  rw [next, taken, State.order_eq, a.ok_ordered, a.ok_chair_eq sender]

/-! ## PARK and RESTORE -/

theorem State.parkLoader_sameBut (l : LoaderId) : s.sameBut [.loaders, .fleet] (s.parkLoader l) :=
  ((s.modLoader_sameBut l _).mono (by simp)).trans (State.emitHold_sameBut _ l)

theorem State.parkLoader_others (l : LoaderId) : s.otherLoaders l (s.parkLoader l) := by
  intro n ne
  unfold State.parkLoader
  rw [State.emitHold_loader_ne _ ne, State.modLoader_loader_ne _ ne]

theorem State.parkLoader_loader (l : LoaderId) :
    (s.parkLoader l).loader l =
      { s.loader l with
        state := .parked, halt := none, lastHolder := none, holdRefresh := some ⟨500, 0⟩ } := by
  unfold State.parkLoader
  rw [State.emitHold_loader_of_idle, State.modLoader_loader_self]
  simp

theorem State.parkLoader_fleet (l : LoaderId) : (s.parkLoader l).fleet = s.ordered l .hold := by
  unfold State.parkLoader
  rw [State.emitHold_fleet, (State.modLoader_sameBut _ _ _).ordered]

theorem State.ok_parkLoader_eq {h : Header} (sender : h.sender = .supervisor) (k : ReqKind)
    (l : LoaderId) : (s.ok h k (.loader l)).parkLoader l = { s with
      loaders := s.loaders.set l
        { s.loader l with
          state := .parked, halt := none, lastHolder := none, holdRefresh := some ⟨500, 0⟩ }
      fleet := s.ordered l .hold
      supQueue := s.supQueue.join ⟨h.tag, .reply k (.ok (.loader l))⟩ } := by
  rw [State.eq_of_loader' (State.parkLoader_sameBut _ _) (State.parkLoader_others _ _)
    (State.parkLoader_loader _ _) (State.parkLoader_fleet _ _), s.ok_loader, s.ok_ordered,
    s.ok_sup_eq sender]

theorem State.examineState_eq {h : Header} {loader : Byte} {l : LoaderId} (want : LoaderState)
    (sender : h.sender = .supervisor) (named : loaderOf loader = some l)
    (enrolled : (s.loader l).state ≠ .unenrolled) :
    s.examineState h loader want =
      ensure ((s.loader l).state = want) .loaderState >>= fun _ => .ok l := by
  simp only [State.examineState, State.examineSup, fromSup_of sender, named, meaning_some, ok_bind,
    s.enrolled_of enrolled]

/-- Settles O22: both commands want one state, and park the loader from it. -/
theorem parkAndRestoreLeaveParked : Obligations.ParkAndRestoreLeaveParked := by
  unfold Obligations.ParkAndRestoreLeaveParked
  intro s a h loader l cmd kind want sender ready heard named command enrolled
  have next : exec cmd s = .next (a.examined h kind (a.examineState h loader want) fun l =>
      (a.ok h kind (.loader l)).parkLoader l) := by
    rcases command with ⟨rfl, rfl, rfl⟩ | ⟨rfl, rfl, rfl⟩
    · exact exec_of_ready rfl ready heard
    · exact exec_of_ready rfl ready heard
  have examine := a.examineState_eq want sender named enrolled
  rw [next, examine]
  refine ⟨fun wanted => ?_, fun other => ?_⟩
  · rw [ensure_of wanted, ok_bind]
    exact congrArg Host.Outcome.next (a.ok_parkLoader_eq sender kind l)
  · rw [ensure_of_not other, error_bind]
    exact congrArg Host.Outcome.next (a.answer_sup sender kind _)

end Sys2Proof.Machine
end

section
/-! PROOF. Enrolment, reports that are not accepted, zone descriptors and drive frames that are not
forwarded (01 1-3, 1-4, 02 2-5, 05 5-5). -/

namespace Sys2Proof.Machine

-- One theorem after another, so that the compile stays within its memory.
set_option Elab.async false

variable (s : State)

/-! ## The lowest number that satisfies a test -/

theorem find?_finRange_some {n : Nat} {p : Fin n → Bool} {i : Fin n} (holds : p i = true)
    (first : ∀ j, j < i → p j = false) : (List.finRange n).find? p = some i := by
  rw [List.find?_eq_some_iff_getElem]
  refine ⟨holds, i.val, by simp, by simp, fun j hj => ?_⟩
  have below := first ⟨j, by omega⟩ hj
  simpa using below

theorem find?_finRange_none {n : Nat} {p : Fin n → Bool} (never : ∀ i, p i = false) :
    (List.finRange n).find? p = none := by
  simp [List.find?_eq_none, never]

theorem State.loaderAt_none {a : Word16} (absent : ∀ n : LoaderId, s.radioMap[n] ≠ some a) :
    s.loaderAt a = none := find?_finRange_none fun n => beq_false_of_ne (absent n)

theorem State.loaderAt_some {a : Word16} {l : LoaderId} (here : s.radioMap[l] = some a)
    (first : ∀ n : LoaderId, n < l → s.radioMap[n] ≠ some a) : s.loaderAt a = some l :=
  find?_finRange_some (beq_iff_eq.mpr here) fun n below => beq_false_of_ne (first n below)

/-! ## ENROL and RETIRE -/

theorem State.setAddress_ordered {l : LoaderId} {a : Word16} {t : State} (b : OrderBody)
    (frame : (s.setAddress l (some a)).sameBut [.loaders] t) :
    t.ordered l b = s.fleet.join ⟨l, a, b⟩ := by
  rw [frame.ordered]
  simp only [State.ordered, s.setAddress_radioMap, if_true]
  rfl

/-- ENROL's effect once its reply has joined. -/
theorem State.enrol_eq (l : LoaderId) (address : Word16) :
    ((s.setAddress l (some address)).setLoader l (Loader.enrolled s.params)).emitHold l = { s with
      loaders := s.loaders.set l
        { Loader.enrolled s.params with holdRefresh := some ⟨500, 0⟩ }
      radioMap := s.radioMap.set l (some address)
      fleet := s.fleet.join ⟨l, address, .hold⟩ } := by
  have written := (s.setAddress l (some address)).setLoader_sameBut l (Loader.enrolled s.params)
  have frame := (written.mono (qs := [.loaders, .fleet])).trans (State.emitHold_sameBut _ l)
  have others : (s.setAddress l (some address)).otherLoaders l
      (((s.setAddress l (some address)).setLoader l (Loader.enrolled s.params)).emitHold l) := by
    intro n ne
    rw [State.emitHold_loader_ne _ ne, State.setLoader_loader_ne _ ne]
  have loader := State.emitHold_loader_of_idle
    ((s.setAddress l (some address)).setLoader l (Loader.enrolled s.params)) (l := l)
    (by simp [Loader.enrolled])
  rw [State.setLoader_loader_self] at loader
  rw [State.eq_of_loader' frame others loader
    ((State.emitHold_fleet _ l).trans (s.setAddress_ordered _ written))]
  rfl

theorem State.retireLoader_frame (l : LoaderId) :
    s.sameBut [.loaders, .radioMap, .watch, .queues, .supQueue, .lamps] (s.retireLoader l) :=
  ((((s.setAddress_sameBut l none).mono (by simp)).trans
    ((State.setWatch_sameBut _ _).mono (by simp))).trans
    ((State.removeReports_sameBut _ l).mono (by simp))).trans
    (((State.setLoader_sameBut _ l _).mono (by simp)).trans
      ((State.updateLamps_sameBut _).mono (by simp)))

theorem State.retireLoader_queue (l : LoaderId) (p : Port) :
    (s.retireLoader l).queue p = (s.queue p).withoutReports l := by
  have forgotten : State.queue { s.setAddress l none with watch := s.watch.forgetLoader l } p =
      s.queue p := by cases p <;> rfl
  have removed := State.removeReports_queue
    { s.setAddress l none with watch := s.watch.forgetLoader l } l p
  rw [forgotten] at removed
  cases p <;> exact removed

theorem State.retireLoader_others (l : LoaderId) : s.otherLoaders l (s.retireLoader l) := by
  intro n ne
  exact (State.setLoader_loader_ne _ ne _).trans (s.loader n |> fun _ => rfl)

/-- Settles O35: ENROL and RETIRE pass their tests, and write what they write. -/
theorem enrolAndRetireWriteRecord : Obligations.EnrolAndRetireWriteRecord := by
  unfold Obligations.EnrolAndRetireWriteRecord
  intro s a h loader address l sender ready heard named
  refine ⟨fun state low high fresh => ?_, fun state => ?_⟩
  · have examine : a.examineEnrol h loader address = .ok l :=
      a.examineEnrol_ok.mpr ⟨fromSup_of sender, named, state, ⟨low, high⟩, fresh⟩
    have next : exec (.enrol h loader address) s = .next (a.takeEnrol h loader address) :=
      exec_of_ready rfl ready heard
    have taken : a.takeEnrol h loader address =
        (((a.ok h .enrol (.loader l)).setAddress l (some address)).setLoader l
          (Loader.enrolled (a.ok h .enrol (.loader l)).params)).emitHold l := a.examined_ok examine
    rw [next, taken, State.enrol_eq, a.ok_sup_eq sender]
    rfl
  · have enrolled : (a.loader l).state ≠ .unenrolled := by
      intro e
      simp [e] at state
    have examine : a.examineRetire h loader = .ok l := a.examineRetire_ok.mpr
      ⟨a.examineSup_ok.mpr ⟨fromSup_of sender, named, enrolled⟩, by simpa using state⟩
    have next : exec (.retire h loader) s = .next (a.takeRetire h loader) :=
      exec_of_ready rfl ready heard
    have taken : a.takeRetire h loader = (a.ok h .retire (.loader l)).retireLoader l :=
      a.examined_ok examine
    rw [taken] at next
    refine ⟨_, next, ?_, ?_, fun n ne => ?_, fun n => ?_, fun n => ?_, fun c => ?_, ?_,
      ((a.ok_sameBut h _ _).mono (by simp)).trans (State.retireLoader_frame _ l)⟩
    · exact State.setLoader_loader_self _ l _
    · rw [a.ok_sup_eq sender]; rfl
    · rw [State.retireLoader_others _ l n ne, a.ok_loader]
    · have watch : ((a.ok h .retire (.loader l)).retireLoader l).watch = a.watch.forgetLoader l := by
        rw [a.ok_sup_eq sender]; rfl
      rw [watch]
      exact Vector.getElem_map _ _
    · have watch : ((a.ok h .retire (.loader l)).retireLoader l).watch = a.watch.forgetLoader l := by
        rw [a.ok_sup_eq sender]; rfl
      rw [watch]
      exact Vector.getElem_map _ _
    · rw [State.retireLoader_queue, a.ok_sup_eq sender]
      rfl
    · have queue := State.retireLoader_queue (a.ok h .retire (.loader l)) l .supervisor
      rw [a.ok_sup_eq sender] at queue ⊢
      exact queue

/-! ## Reports that are not accepted -/

theorem readReport_none {f : StatusFields} (l : LoaderId) (bad : frontOf f.front = none ∨
    onboardOf f.onboard = none ∨ missionOf f.mission = none) : readReport f l = none := by
  unfold readReport
  cases front : frontOf f.front with
  | none => rfl
  | some d =>
    cases onboard : onboardOf f.onboard with
    | none => rfl
    | some o =>
      cases mission : missionOf f.mission with
      | none => rfl
      | some m => simp [front, onboard, mission] at bad

theorem readReport_some {f : StatusFields} (l : LoaderId) {d : FrontSense} {o : Onboard}
    {m : Mission} (front : frontOf f.front = some d) (onboard : onboardOf f.onboard = some o)
    (mission : missionOf f.mission = some m) :
    readReport f l = some ⟨l, f.count, zoneOf f.zone, chainageOf f.chainage, d, speedOf f.speed,
      f.stationary != 0, o, m⟩ := by
  simp [readReport, front, onboard, mission]

theorem newer_false {last n : Byte} (old : n = last ∨ 128 ≤ (n - last).toNat) :
    newer (some last) n = false := by
  rcases old with rfl | far
  · simp [newer]
  · simp only [newer, Bool.and_eq_false_iff, decide_eq_false_iff_not]
    exact .inr (by omega)

theorem newer_true {last : Option Byte} {n : Byte}
    (ahead : ∀ m ∈ last, n ≠ m ∧ (n - m).toNat < 128) : newer last n = true := by
  cases last with
  | none => rfl
  | some m =>
    obtain ⟨ne, near⟩ := ahead m rfl
    have positive : 0 < (n - m).toNat := by
      rw [Nat.pos_iff_ne_zero]
      intro zero
      exact ne (by bv_omega)
    simp only [newer, decide_eq_true positive, decide_eq_true near, Bool.and_self]

/-- Settles O36: the three ways in which a report is turned away. -/
theorem reportsNotAccepted : Obligations.ReportsNotAccepted := by
  unfold Obligations.ReportsNotAccepted
  intro s tag f run
  have next : exec (.statusReport tag f) s = .next (s.takeReport f) :=
    congrArg Host.Outcome.next (s.running_of _ run)
  rw [next]
  refine ⟨fun absent => ?_, fun l here first => ⟨fun bad => ?_, fun front onboard mission old => ?_⟩⟩
  · simp only [State.takeReport, s.loaderAt_none absent]
    rfl
  · simp only [State.takeReport, s.loaderAt_some here first, readReport_none l bad]
    rfl
  · obtain ⟨d, hd⟩ := Option.isSome_iff_exists.mp front
    obtain ⟨o, ho⟩ := Option.isSome_iff_exists.mp onboard
    obtain ⟨m, hm⟩ := Option.isSome_iff_exists.mp mission
    obtain ⟨last, count, stale⟩ := old
    simp only [State.takeReport, s.loaderAt_some here first, readReport_some l hd ho hm, count,
      newer_false stale, Bool.false_eq_true, if_false]

/-! ## SET_ZONE -/

theorem ZoneClass.autoClass_iff {x : ZoneClass} (open_ : x ≠ .closed) :
    x.autoClass = true ↔ x.open .manual = false := by
  cases x <;> simp_all [ZoneClass.autoClass, ZoneClass.open]

theorem State.strands_iff {x : Zone} {l : LoaderId} :
    s.strands x l = true ↔ ∃ p ∈ (s.loader l).position, x.cls = .closed ∨
      x.holdsSegment p = false ∨ (x.cls.open .manual = false ∧ (s.judgedMode l = .manual ∨
        ((s.loader l).state = .transfer ∧ ∃ y ∈ s.handoverOf l, y.target = .manual))) := by
  simp only [State.strands, Option.any_eq_true, Zone.within_eq_holdsSegment, Bool.or_eq_true,
    Bool.and_eq_true, beq_iff_eq, Bool.not_eq_true', State.towardManual, or_assoc]
  refine exists_congr fun p => and_congr_right fun _ => ?_
  by_cases closed : x.cls = .closed
  · simp [closed]
  · rw [ZoneClass.autoClass_iff closed]
    simp [closed]

theorem zoneOf_eq {z : ZoneId} {zone : Byte} (named : z.val = zone.toNat) : zoneOf zone = z :=
  Fin.ext named.symm

/-- Settles O40: the examination in its order, BUSY before OCCUPIED. -/
theorem setZoneStoresUnlessStranding : Obligations.SetZoneStoresUnlessStranding := by
  unfold Obligations.SetZoneStoresUnlessStranding
  intro s a h zone cls openLength measuredFrom cap z x m new stranded sender ready heard named class_
    measured stored strands
  have fresh : newZone x openLength m cap = new := by
    rw [stored]
    simp [newZone, saturate]
  have occupied : ((a.authorityIn z).any fun l => a.strands new l) = stranded := by
    rw [Bool.eq_iff_iff, strands, List.any_eq_true]
    refine exists_congr fun l => ?_
    rw [a.authorityIn_iff, a.strands_iff]
    subst stored
    constructor
    · rintro ⟨⟨has, p, position, within⟩, q, position', causes⟩
      rw [position] at position'
      cases position'
      exact ⟨has, p, position, within, causes⟩
    · rintro ⟨has, p, position, within, causes⟩
      exact ⟨⟨has, p, position, within⟩, p, position, causes⟩
  have examine : a.examineSetZone h zone cls openLength measuredFrom cap =
      ensure ((a.zone z).closing = none) .busy >>= fun _ =>
        ensure (stranded = false) .occupied >>= fun _ => .ok new := by
    simp only [State.examineSetZone, fromSup_of sender, class_, measured, meaning_some, ok_bind,
      zoneOf_eq named, fresh, occupied]
  have next : exec (.setZone h zone cls openLength measuredFrom cap) s =
      .next (a.takeSetZone h zone cls openLength measuredFrom cap) := exec_of_ready rfl ready heard
  rw [next]
  by_cases busy : (a.zone z).closing.isSome = true
  · rw [if_pos busy]
    refine congrArg Host.Outcome.next ((a.examined_error (r := .busy) ?_).trans
      (a.answer_sup sender _ _))
    rw [examine, ensure_of_not (by rintro e; simp [e] at busy), error_bind]
  · have unclosed : (a.zone z).closing = none := by simpa using busy
    rw [if_neg busy]
    rw [ensure_of unclosed, ok_bind] at examine
    cases stranded with
    | true =>
      rw [if_pos rfl]
      refine congrArg Host.Outcome.next ((a.examined_error (r := .occupied) ?_).trans
        (a.answer_sup sender _ _))
      rw [examine, ensure_of_not (by simp), error_bind]
    | false =>
      rw [if_neg (by simp)]
      rw [ensure_of rfl, ok_bind] at examine
      refine congrArg Host.Outcome.next ((a.examined_ok examine).trans ?_)
      rw [zoneOf_eq named, a.ok_sup_eq sender, stored]
      rfl

end Sys2Proof.Machine
end

section
/-! PROOF. Drive frames that are not forwarded (Chapter 5), and WATCH and UNWATCH (Chapter 7). -/

namespace Sys2Proof.Machine

-- One theorem after another, so that the compile stays within its memory.
set_option Elab.async false

variable (s : State)

/-! ## Drive frames that are not forwarded -/

/-- The refusal checks of a drive frame, as a table (05 R93 to R96). -/
theorem State.examineFrame_error {c : ChairId} {i : SlotId} {f : DriveFields} {r : Reason}
    (failing : firstFailing (((flagOf f.horn).isSome, Reason.badValue) ::
      match (s.slot c i).contents with
      | .bound l =>
        [(s.drivable l, .notHolder), (f.epoch == (s.loader l).epoch, .staleGrant)]
      | _ => [(false, .slotEmpty)]) = some r) : s.examineFrame c i f = .error r := by
  unfold State.examineFrame
  cases horn : flagOf f.horn with
  | none => simpa [horn, firstFailing_cons, meaning, error_bind] using failing
  | some b =>
    simp only [horn, firstFailing_cons, Option.isSome_some, if_true] at failing
    simp only [meaning_some, ok_bind]
    cases contents : (s.slot c i).contents with
    | empty => simpa [contents, firstFailing_cons] using failing
    | reserved l m => simpa [contents, firstFailing_cons] using failing
    | bound l =>
      simp only [contents] at failing
      have run := runChecks_error.mpr failing
      rw [runChecks_cons, runChecks_cons, runChecks_nil] at run
      by_cases drivable : s.drivable l = true
      · by_cases epoch : f.epoch = (s.loader l).epoch
        · simp [drivable, epoch, ensure, ok_bind] at run
        · simpa [drivable, epoch, ensure, ok_bind, error_bind] using run
      · simpa [drivable, ensure, error_bind] using run

/-- What a refused frame leaves on an UP link (05 R111, R112). -/
theorem State.refuseFrame_eq {c : ChairId} (up : s.isUp c = true) (i : SlotId) (r : Reason)
    (n : Byte) : s.refuseFrame c i r n = { s with
      chairs := s.chairs.set c
        { s.chair c with
          slots := (s.chair c).slots.set i { s.slot c i with outcome := .refused r }
          counters := (s.chair c).counters.addRefused }
      queues := if (s.slot c i).outcome = .refused r then s.queues
        else s.joined c ⟨0, .notice (.driveRefused i r (s.slot c i).contents.loader?
          (s.refusedEpoch (s.slot c i).contents r) n)⟩ } := by
  have up' : (s.modCounters c (·.addRefused)).isUp c = true := up
  have epoch : (s.modCounters c (·.addRefused)).refusedEpoch (s.slot c i).contents r =
    s.refusedEpoch (s.slot c i).contents r := rfl
  unfold State.refuseFrame
  simp only [State.tellChair, State.toChair, up', epoch, if_true]
  split <;> simp [State.modSlot, State.modCounters, State.modChair, State.chair, State.slot,
    State.modQueue, State.joined, Vector.set_set]

theorem State.refusedEpoch_eq (x : SlotContents) (r : Reason) :
    s.refusedEpoch x r = match x.loader? with
      | some l => if r = .staleGrant then (s.loader l).epoch else 0
      | none => 0 := by
  unfold State.refusedEpoch
  cases x.loader? with
  | none => rfl
  | some l => cases r <;> rfl

theorem sequenceOf_repeat (n : Byte) : sequenceOf (some n) n = .duplicate := by
  simp [sequenceOf]

theorem sequenceOf_overtaken {m n : Byte} (behind : 128 ≤ (n - m).toNat) :
    sequenceOf (some m) n = .stale := by
  have nonzero : (n - m).toNat ≠ 0 := by omega
  simp only [sequenceOf, nonzero, if_false, Nat.not_lt.mpr behind]

theorem State.heard_isUp {s : State} {c : ChairId} {panel : Byte} (hears : s.hears (.chair c panel)) :
    (s.heard (.chair c panel)).isUp c = true := by
  obtain ⟨-, up, -⟩ := hears
  simpa [State.heard, State.isUp, State.link] using up

/-- Settles O45: the checks of the Drive Gate one after the other. -/
theorem driveFrameNotForwarded : Obligations.DriveFrameNotForwarded := by
  unfold Obligations.DriveFrameNotForwarded
  intro s a c panel tag f hears heard
  have taken : exec (.driveFrame c panel tag f) s = .next (a.takeDrive c f) := by
    rw [heard]
    exact s.execDriveFrame_of_hears tag f hears
  have up : a.isUp c = true := by
    rw [heard]
    exact State.heard_isUp hears
  refine ⟨?_, ?_, ?_⟩
  · intro slot
    rw [taken, State.takeDrive, slot]
    rfl
  · intro i r who slot held failing
    rw [taken, State.takeDrive, slot]
    simp only [a.examineFrame_error failing]
    rw [a.refuseFrame_eq up, a.refusedEpoch_eq]
    have told : (a.slot c i).contents.loader? = who := by
      rw [held]
      cases (a.slot c i).contents <;> rfl
    rw [told]
    rfl
  · intro i l n slot sound bound takes epoch last old
    obtain ⟨horn, meaning⟩ := Option.isSome_iff_exists.mp sound
    rw [taken, State.takeDrive, slot]
    simp only [a.examineFrame_ok meaning bound takes epoch, State.sequenceFrame, last]
    by_cases same : f.count = n
    · rw [same, sequenceOf_repeat]
      simp only [if_true]
      rfl
    · rw [sequenceOf_overtaken (old.resolve_left same)]
      simp only [same, if_false]
      rfl

/-! ## The Watch Table's operations -/

variable (w : WatchTable) (c : ChairId) (l : LoaderId)

theorem WatchTable.pinnedOf_isSome_iff :
    (w.pinnedOf c l).isSome = true ↔ ∃ n : PinnedId, (w.pinned[n]).any (·.names c l) = true := by
  simp [WatchTable.pinnedOf]

theorem WatchTable.wayOf_isSome_iff : (w.wayOf c l).isSome = true ↔
    (w.openSets[setOf c l]).way0 = some (c, l) ∨ (w.openSets[setOf c l]).way1 = some (c, l) := by
  unfold WatchTable.wayOf
  dsimp only
  split
  · next h => simp only [h, Option.isSome_some, true_or]
  · next h =>
    split
    · next h' => simp only [h', Option.isSome_some, or_true]
    · next h' => simp only [h, h', Option.isSome_none, Bool.false_eq_true, or_self]

theorem WatchTable.watches_iff : w.watches c l = true ↔
    (∃ n : PinnedId, (w.pinned[n]).any (·.names c l) = true) ∨
    (w.openSets[setOf c l]).way0 = some (c, l) ∨ (w.openSets[setOf c l]).way1 = some (c, l) := by
  rw [WatchTable.watches, Bool.or_eq_true, w.pinnedOf_isSome_iff, w.wayOf_isSome_iff]

theorem WatchTable.setOpen_self (n : SetId) (x : OpenSet) : (w.setOpen n x).openSets[n] = x := by
  simp [WatchTable.setOpen]

theorem WatchTable.setOpen_ne {n m : SetId} (h : m ≠ n) (x : OpenSet) :
    (w.setOpen n x).openSets[m] = w.openSets[m] := by
  simp [WatchTable.setOpen, Fin.val_inj, h.symm]

/-- What a WATCH may change: the used flags of the pinned entries and the set of its own pair
(07 R134). -/
structure WatchTable.placed (w w' : WatchTable) (c : ChairId) (l : LoaderId) : Prop where
  watches : w'.watches c l = true
  openSets : ∀ n : SetId, n ≠ setOf c l → w'.openSets[n] = w.openSets[n]
  pinned : ∀ n : PinnedId, (w'.pinned[n]).map (fun e => (e.chair, e.loader, e.locked)) =
    (w.pinned[n]).map fun e => (e.chair, e.loader, e.locked)

/-- A set that holds the pair is written in place of its own. -/
theorem WatchTable.setOpen_placed {x : OpenSet}
    (holds : x.way0 = some (c, l) ∨ x.way1 = some (c, l)) :
    w.placed (w.setOpen (setOf c l) x) c l := by
  refine ⟨(WatchTable.watches_iff _ _ _).mpr (.inr ?_), fun n ne => w.setOpen_ne ne _,
    fun _ => rfl⟩
  rw [w.setOpen_self]
  exact holds

/-- A pair that is found is touched. -/
theorem WatchTable.touch_placed (found : w.watches c l = true) : w.placed (w.touch c l) c l := by
  unfold WatchTable.touch
  split
  · next i pinned =>
    obtain ⟨e, entry, chair, loader⟩ := WatchTable.pinnedOf_some pinned
    have own : (w.modPinned i fun e => { e with used := true }).pinned[i] =
        some { e with used := true } := by
      rw [WatchTable.modPinned, w.setPinned_self, entry]
      rfl
    refine ⟨(WatchTable.watches_iff _ _ _).mpr (.inl ⟨i, ?_⟩), fun _ _ => rfl, fun n => ?_⟩
    · rw [own]
      simp [chair, loader]
    · by_cases same : n = i
      · rw [same, own, entry]
        rfl
      · rw [WatchTable.modPinned, w.setPinned_ne same]
  · next absent =>
    split
    · next way standing =>
      exact w.setOpen_placed c l ((w.wayOf_isSome_iff c l).mp (by rw [standing]; rfl))
    · next standing =>
      rw [WatchTable.watches, absent, standing] at found
      exact absurd found (by decide)

/-- A pair that is absent is placed in its own set. -/
theorem WatchTable.place_placed : w.placed (w.place c l).1 c l := by
  unfold WatchTable.place
  extract_lets x way
  clear_value way
  cases way
  · exact w.setOpen_placed c l (.inl rfl)
  · exact w.setOpen_placed c l (.inr rfl)

theorem OpenSet.clear_names (x : OpenSet) (p q : ChairId × LoaderId) :
    (x.clear p).way0 = some q ∨ (x.clear p).way1 = some q ↔
      (x.way0 = some q ∨ x.way1 = some q) ∧ q ≠ p := by
  unfold OpenSet.clear
  dsimp only
  by_cases same : q = p
  · subst same
    simp
  · have differ : p ≠ q := Ne.symm same
    split <;> split <;> simp_all

/-- A pair that no other entry names is gone from the table when its entry is (07 R135). -/
theorem WatchTable.remove_watches (d : ChairId) (n : LoaderId)
    (unique : ∀ m n : PinnedId, (w.pinned[m]).any (·.names c l) = true →
      (w.pinned[n]).any (·.names c l) = true → m = n)
    (apart : (w.pinnedOf c l).isSome = true → w.wayOf c l = none) :
    (w.remove c l).watches d n = true ↔ w.watches d n = true ∧ ¬ (d = c ∧ n = l) := by
  unfold WatchTable.remove
  cases pinned : w.pinnedOf c l with
  | some i =>
    have none_open := apart (by rw [pinned]; rfl)
    obtain ⟨e, entry, chair, loader⟩ := WatchTable.pinnedOf_some pinned
    have own : (w.pinned[i]).any (·.names c l) = true := by
      rw [entry]
      simp [chair, loader]
    have left : ∀ m : PinnedId, ((w.setPinned i none).pinned[m]).any (·.names d n) = true ↔
        (w.pinned[m]).any (·.names d n) = true ∧ m ≠ i := by
      intro m
      by_cases same : m = i
      · rw [same, w.setPinned_self]
        simp
      · rw [w.setPinned_ne same]
        simp [same]
    have sets : (w.setPinned i none).openSets = w.openSets := rfl
    simp only [WatchTable.watches_iff, left, sets]
    by_cases pair : d = c ∧ n = l
    · obtain ⟨rfl, rfl⟩ := pair
      have absent := mt (w.wayOf_isSome_iff d n).mpr (by rw [none_open]; decide)
      refine iff_of_false (not_or.mpr ⟨?_, absent⟩) fun h => h.2 ⟨rfl, rfl⟩
      exact fun ⟨m, names, other⟩ => other (unique m i names own)
    · have elsewhere : ∀ m : PinnedId, (w.pinned[m]).any (·.names d n) = true → m ≠ i := by
        rintro m names rfl
        rw [entry] at names
        obtain ⟨rfl, rfl⟩ := (PinnedEntry.names_iff _ _ _).mp names
        exact pair ⟨chair, loader⟩
      simp only [pair, not_false_eq_true, and_true]
      exact or_congr (exists_congr fun m => ⟨And.left, fun h => ⟨h, elsewhere m h⟩⟩) Iff.rfl
  | none =>
    have absent : ∀ m : PinnedId, ¬ (w.pinned[m]).any (·.names c l) = true := by
      intro m names
      have := (w.pinnedOf_isSome_iff c l).mpr ⟨m, names⟩
      rw [pinned] at this
      exact absurd this (by decide)
    have open_left : ((w.clearOpen c l).openSets[setOf d n]).way0 = some (d, n) ∨
        ((w.clearOpen c l).openSets[setOf d n]).way1 = some (d, n) ↔
        ((w.openSets[setOf d n]).way0 = some (d, n) ∨
          (w.openSets[setOf d n]).way1 = some (d, n)) ∧ (d, n) ≠ (c, l) := by
      by_cases set : setOf d n = setOf c l
      · simp only [set, WatchTable.clearOpen, w.setOpen_self, OpenSet.clear_names]
      · rw [WatchTable.clearOpen, w.setOpen_ne set]
        refine ⟨fun h => ⟨h, fun e => set ?_⟩, And.left⟩
        obtain ⟨rfl, rfl⟩ := Prod.mk.injEq .. ▸ e
        rfl
    simp only [WatchTable.watches_iff, WatchTable.clearOpen_pinned, open_left, ne_eq,
      Prod.mk.injEq]
    by_cases pair : d = c ∧ n = l
    · obtain ⟨rfl, rfl⟩ := pair
      refine iff_of_false ?_ fun h => h.2 ⟨rfl, rfl⟩
      rintro (⟨m, names⟩ | ⟨-, other⟩)
      · exact absent m names
      · exact other ⟨rfl, rfl⟩
    · simp [pair]

/-! ## WATCH and UNWATCH -/

/-- A notice to a chair touches no queue of the supervisor. -/
theorem State.tellChair_sameBut_queues (c : ChairId) (n : Notice) :
    s.sameBut [.queues] (s.tellChair c n) := by
  unfold State.tellChair State.toChair
  split
  · intro p other
    cases p <;> simp_all [Part.same, State.modQueue]
  · exact .refl _ _

theorem State.tellEvicted_sameBut_queues (p : Option (ChairId × LoaderId)) (part : WatchPart) :
    s.sameBut [.queues] (s.tellEvicted p part) := by
  unfold State.tellEvicted
  split
  · exact s.tellChair_sameBut_queues _ _
  · exact .refl _ _

theorem State.watch_placed {s t : State} {h : Header} {loader : Byte} {c : ChairId} {l : LoaderId}
    (examine : s.examineChair h loader = .ok (c, l)) (t_eq : t = s.takeWatch h loader) :
    s.watch.placed t.watch c l := by
  have kept := s.ok_watch h .watch (.loader l)
  simp only [t_eq, State.takeWatch, State.examined, examine]
  rw [kept]
  split
  · next found => exact s.watch.touch_placed c l found
  · rw [State.placeWatch, (State.tellEvicted_sameBut _ _ _).watch (by decide), kept]
    exact s.watch.place_placed c l

theorem State.takeWatch_frame {s : State} {h : Header} {panel loader : Byte} {c : ChairId}
    {l : LoaderId} (sender : h.sender = .chair c panel)
    (examine : s.examineChair h loader = .ok (c, l)) :
    s.sameBut [.watch, .queues] (s.takeWatch h loader) := by
  have replied := (s.ok_sameBut_queues sender .watch (.loader l)).mono (qs := [.watch, .queues])
    (by simp)
  simp only [State.takeWatch, State.examined, examine]
  split
  · exact replied.trans ((State.setWatch_sameBut _ _).mono (by simp))
  · exact replied.trans (((State.setWatch_sameBut _ _).mono (by simp)).trans
      ((State.tellEvicted_sameBut_queues _ _ _).mono (by simp)))

/-- Settles O47: a WATCH touches or places its pair behind the reply, and an UNWATCH removes it. -/
theorem watchAndUnwatch : Obligations.WatchAndUnwatch := by
  unfold Obligations.WatchAndUnwatch
  intro s a h c panel loader l sender ready heard named enrolled
  have room := State.ready_heard ready heard
  have examine : a.examineChair h loader = .ok (c, l) :=
    a.examineChair_ok.mpr ⟨fromChair_of sender, named, enrolled⟩
  refine ⟨?_, ?_, ?_⟩
  · have placed := State.watch_placed examine rfl
    have queued := State.ok_queued room .watch (.loader l)
    rw [port_of_chair sender] at queued
    refine ⟨_, exec_of_ready rfl ready heard, placed.watches, placed.openSets, placed.pinned, ?_,
      State.takeWatch_frame sender examine⟩
    have tells : (a.ok h .watch (.loader l)).tells 1 0 (a.takeWatch h loader) := by
      simp only [State.takeWatch, State.examined, examine]
      split
      · exact .of_frame _ _ (State.setWatch_sameBut _ _)
      · exact State.placeWatch_tells _ c l
    exact tells.queued_reply (Frame.reply_isReply _ _ _) queued
  · intro locked
    have refused : a.examineUnwatch h loader = .error .loaderState := by
      simp only [State.examineUnwatch, examine, ok_bind, locked, ensure]
      rfl
    rw [exec_of_ready rfl ready heard]
    exact congrArg Host.Outcome.next ((a.examined_error refused).trans (a.answer_chair sender _ _))
  · intro unlocked unique apart
    have accepted : a.examineUnwatch h loader = .ok (c, l) := by
      simp only [State.examineUnwatch, examine, ok_bind, unlocked, ensure, if_true]
    have taken : a.takeUnwatch h loader =
        { a.ok h .unwatch (.loader l) with watch := a.watch.remove c l } := by
      simp only [State.takeUnwatch, State.examined, accepted, a.ok_watch]
    have next : exec (.unwatch h loader) s = .next (a.takeUnwatch h loader) :=
      exec_of_ready rfl ready heard
    rw [taken, a.ok_chair_eq sender] at next
    refine ⟨_, next, fun d n => ?_, rfl, fun p other => ?_⟩
    · rw [Bool.eq_iff_iff, a.watch.remove_watches c l d n unique apart]
      simp only [Bool.and_eq_true, Bool.not_eq_eq_eq_not, Bool.not_true, ← Bool.not_eq_true, beq_iff_eq]
    · cases p <;> simp_all [Part.same]

end Sys2Proof.Machine
end

section
/-! PROOF. The requests that start a handover, and those that enter its next phase (04 4-2 to
4-4). -/

namespace Sys2Proof.Machine

-- One theorem after another, so that the compile stays within its memory.
set_option Elab.async false

variable (s : State)

/-! ## Notices to chairs alone -/

theorem State.tellChair?_sameBut_queues (c : Option ChairId) (n : Notice) :
    s.sameBut [.queues] (s.tellChair? c n) := by
  unfold State.tellChair?
  split
  · exact s.tellChair_sameBut_queues _ _
  · exact .refl _ _

theorem State.tellParties_sameBut_queues (x : Handover) (n : Notice) :
    s.sameBut [.queues] (s.tellParties x n) :=
  (s.tellChair?_sameBut_queues _ _).trans (State.tellChair_sameBut_queues _ _ _)

theorem State.lockPair_sameBut_queues (c : ChairId) (l : LoaderId) :
    s.sameBut [.watch, .queues] (s.lockPair c l) :=
  ((s.setWatch_sameBut _).mono (by simp)).trans
    ((State.tellEvicted_sameBut_queues _ _ _).mono (by simp))

theorem State.tellOffered_sameBut_queues (k : CtxId) : s.sameBut [.queues] (s.tellOffered k) := by
  unfold State.tellOffered
  split
  · split
    · exact s.tellChair_sameBut_queues _ _
    · exact .refl _ _
  · exact .refl _ _

theorem State.tellRequested_sameBut_queues (k : CtxId) :
    s.sameBut [.queues] (s.tellRequested k) := by
  unfold State.tellRequested
  split
  · exact s.tellChair?_sameBut_queues _ _
  · exact .refl _ _

theorem State.tellForcedParties_sameBut_queues (k : CtxId) :
    s.sameBut [.queues] (s.tellForcedParties k) := by
  unfold State.tellForcedParties
  split
  · exact .refl _ _
  · exact (s.tellChair_sameBut_queues _ _).trans (State.tellChair?_sameBut_queues _ _ _)

theorem State.tellOffered_tells (k : CtxId) : s.tells 1 0 (s.tellOffered k) := by
  unfold State.tellOffered
  split
  · split
    · exact s.tellChair_tells _ _
    · exact .refl _ _ _
  · exact .refl _ _ _

theorem State.tellRequested_tells (k : CtxId) : s.tells 1 0 (s.tellRequested k) := by
  unfold State.tellRequested
  split
  · exact s.tellChair?_tells _ _
  · exact .refl _ _ _

theorem State.tellForcedParties_tells (k : CtxId) : s.tells 2 0 (s.tellForcedParties k) := by
  unfold State.tellForcedParties
  split
  · exact .refl _ _ _
  · exact (s.tellChair_tells _ _).trans (State.tellChair?_tells _ _ _)

/-! ## The start of a handover -/

theorem State.createHandover_sameBut_queues (x : Start) (p : Phase) (ms : Nat) :
    s.sameBut [.loaders, .handovers, .chairs, .watch, .lamps, .queues]
      (s.createHandover x p ms) := by
  rw [s.createHandover_eq]
  refine State.sameBut.trans ?_ ((State.updateLamps_sameBut _).mono (by simp))
  refine State.sameBut.trans ?_ ((State.lockPair_sameBut_queues _ _ _).mono (by simp))
  exact (((s.setHandover_sameBut _ _).mono (by simp)).trans
    ((State.modLoader_sameBut _ _ _).mono (by simp))).trans
      ((State.reserveFor_sameBut _ x).mono (by simp))

/-- A start that names no slot leaves the chair records. -/
theorem State.createHandover_sameBut_slotless {x : Start} (slotless : x.slot = none) (p : Phase)
    (ms : Nat) : s.sameBut [.loaders, .handovers, .watch, .lamps, .queues]
      (s.createHandover x p ms) := by
  have reserved : (s.handoverBegun x p ms).reserveFor x = s.handoverBegun x p ms := by
    rw [State.reserveFor, slotless]
  rw [s.createHandover_eq, reserved]
  refine State.sameBut.trans ?_ ((State.updateLamps_sameBut _).mono (by simp))
  refine State.sameBut.trans ?_ ((State.lockPair_sameBut_queues _ _ _).mono (by simp))
  exact ((s.setHandover_sameBut _ _).mono (by simp)).trans
    ((State.modLoader_sameBut _ _ _).mono (by simp))

/-- What the creation of a handover leaves, with notices before and behind it (04 R66). -/
structure State.started (s t : State) (x : Start) (p : Phase) (ms : Nat) : Prop where
  handover : t.handover x.context = some (s.newHandover x p ms)
  loader : t.loader x.loader =
    { s.loader x.loader with
      state := .transfer, prior := some (s.loader x.loader).state, context := some x.context
      halt := none }
  slot : ∀ c i, t.slot c i =
    { s.slot c i with
      contents := if c = x.taking ∧ x.slot = some i then .reserved x.loader x.context
        else (s.slot c i).contents }
  slotsOnly : s.slotsOnly t
  otherLoaders : s.otherLoaders x.loader t
  otherHandovers : s.otherHandovers x.context t
  watch : s.watch.lockedFor t.watch x.taking x.loader

theorem State.started_of {a b t : State} {x : Start} {p : Phase} {ms : Nat}
    (replied : a.sameBut [.queues, .supQueue] b)
    (told : (b.createHandover x p ms).sameBut [.queues] t) : a.started t x p ms where
  handover := by
    rw [told.handover, b.createHandover_handover, if_pos rfl]
    simp only [State.newHandover, replied.loader, replied.params]
  loader := by rw [told.loader, b.createHandover_loader, replied.loader]
  slot c i := by rw [told.slot, b.createHandover_slot, replied.slot]
  slotsOnly := (State.slotsOnly.of_frame replied).trans
    ((b.createHandover_slotsOnly x p ms).trans (.of_frame told))
  otherLoaders n ne := by rw [told.loader, b.createHandover_loader_ne _ _ _ ne, replied.loader]
  otherHandovers n ne := by
    rw [told.handover, b.createHandover_handover, if_neg ne, replied.handover]
  watch := by
    rw [told.watch, b.createHandover_watch, replied.watch]
    exact a.watch.lock_lockedFor _ _

theorem State.needContext_of {s : State} {k : CtxId} (free : s.handover k = none)
    (lowest : ∀ n, n < k → s.handover n ≠ none) : s.needContext = .ok k := by
  have first : s.freeContext = some k :=
    find?_finRange_some (by rw [free]; rfl) fun n below => by
      simpa [Option.isSome_iff_ne_none] using lowest n below
  rw [State.needContext, first]

theorem Params.watchdogMs_eq (ps : Params) : ps.watchdogMs = 2000 * ps.watchdog := by
  simp only [Params.watchdogMs, seconds]
  omega

theorem Loader.releasing_of_held {r : Loader} {x : Holding}
    (state : r.state ∈ [LoaderState.driven, .supervised]) (holder : r.holder = some x) :
    r.releasing = some x.chair := by
  have active : r.state ≠ .orphaned := by
    rintro e
    rw [e] at state
    exact absurd state (by decide)
  rw [Loader.releasing, if_neg active, Loader.holderChair, holder]
  rfl

theorem Loader.heldBy_some {r : Loader} {c : ChairId} :
    r.heldBy c = true ↔ r.holderChair = some c := by
  simp [Loader.heldBy]

theorem Loader.ne_transfer_of_held {r : Loader}
    (state : r.state ∈ [LoaderState.driven, .supervised]) : r.state ≠ .transfer := by
  rintro e
  rw [e] at state
  exact absurd state (by decide)

theorem Loader.enrolled_of_held {r : Loader}
    (state : r.state ∈ [LoaderState.driven, .supervised]) : r.state ≠ .unenrolled := by
  rintro e
  rw [e] at state
  exact absurd state (by decide)

/-- Settles O25. -/
theorem offerCreatesHandover : Obligations.OfferCreatesHandover := by
  unfold Obligations.OfferCreatesHandover
  intro s a h c d panel loader taking target l m k sender ready heard hl ht hm other state held up
    free lowest
  let x : Start := { loader := l, kind := .offer, taking := d, slot := none, target := m, context := k }
  have examine : a.examineOffer h loader taking target = .ok x :=
    a.examineOffer_ok.mpr ⟨c, fromChair_of sender, hl, ht, hm, Loader.enrolled_of_held state, other,
      Loader.ne_transfer_of_held state, by simpa using state, held, beq_iff_eq.mpr up,
      State.needContext_of free lowest, rfl, rfl⟩
  have taken : a.takeOffer h loader taking target = (((a.ok h .offer (.context k)).createHandover x
      .offered (a.ok h .offer (.context k)).params.answerMs).tellOffered k) :=
    a.examined_ok examine
  have next : exec (.offer h loader taking target) s = .next (a.takeOffer h loader taking target) :=
    exec_of_ready rfl ready heard
  rw [taken] at next
  have told := State.tellOffered_sameBut_queues ((a.ok h .offer (.context k)).createHandover x
    .offered (a.ok h .offer (.context k)).params.answerMs) k
  have started := State.started_of (a.ok_sameBut h .offer (.context k)) told
  have releasing : (a.loader l).releasing = some c := by
    obtain ⟨y, holder, chair⟩ := Option.map_eq_some_iff.mp (Loader.heldBy_some.mp held)
    rw [Loader.releasing_of_held state holder, chair]
  refine ⟨_, next, ?_, started.loader, started.otherLoaders, started.otherHandovers, started.watch,
    ?_, ?_⟩
  · rw [started.handover, State.newHandover, releasing, a.ok_params, Params.watchdogMs_eq]
    rfl
  · have queued := State.ok_queued (State.ready_heard ready heard) .offer (.context k)
    rw [port_of_chair sender] at queued
    exact ((State.createHandover_tells _ _ _ _).trans (State.tellOffered_tells _ _)).queued_reply
      (Frame.reply_isReply _ _ _) queued
  · exact (((a.ok_sameBut_queues sender .offer (.context k)).mono (by simp)).trans
      (State.createHandover_sameBut_slotless _ rfl _ _)).trans (told.mono (by simp))

/-- Settles O26. -/
theorem requestReservesSlot : Obligations.RequestReservesSlot := by
  unfold Obligations.RequestReservesSlot
  intro s a h c panel loader slot target l i m y k sender ready heard hl hi hm state holder other
    pass free lowest
  let x : Start :=
    { loader := l, kind := .request, taking := c, slot := some i, target := m, context := k }
  have not_held : (a.loader l).heldBy c = false := by
    simpa [Loader.heldBy, Loader.holderChair, holder] using other
  have examine : a.examineRequest h loader slot target = .ok x :=
    a.examineRequest_ok.mpr ⟨fromChair_of sender, hl, hm, Loader.enrolled_of_held state,
      Loader.ne_transfer_of_held state, ⟨by simpa using state, not_held⟩,
      State.needContext_of free lowest, rfl, i, hi,
      (a.checkReserve_eq_runChecks l c i m).trans (runChecks_of_pass pass), rfl⟩
  have taken : a.takeRequestStart h loader slot target = (((a.ok h .request
      (.context k)).createHandover x .requested
        (a.ok h .request (.context k)).params.answerMs).tellRequested k) :=
    a.examined_ok examine
  have next : exec (.request h loader slot target) s =
      .next (a.takeRequestStart h loader slot target) := exec_of_ready rfl ready heard
  rw [taken] at next
  have told := State.tellRequested_sameBut_queues ((a.ok h .request (.context k)).createHandover x
    .requested (a.ok h .request (.context k)).params.answerMs) k
  have started := State.started_of (a.ok_sameBut h .request (.context k)) told
  refine ⟨_, next, ?_, started.loader, ?_, started.otherLoaders, started.otherHandovers,
    started.slotsOnly.otherSlots fun d j apart => ?_, started.watch, ?_, ?_⟩
  · rw [started.handover, State.newHandover, Loader.releasing_of_held state holder, a.ok_params,
      Params.watchdogMs_eq]
    rfl
  · rw [started.slot, if_pos ⟨rfl, rfl⟩]
  · rw [started.slot, if_neg]
    rintro ⟨rfl, named⟩
    cases named
    exact apart (by simp)
  · have queued := State.ok_queued (State.ready_heard ready heard) .request (.context k)
    rw [port_of_chair sender] at queued
    exact ((State.createHandover_tells _ _ _ _).trans (State.tellRequested_tells _ _)).queued_reply
      (Frame.reply_isReply _ _ _) queued
  · exact (((a.ok_sameBut_queues sender .request (.context k)).mono (by simp)).trans
      (State.createHandover_sameBut_queues _ _ _ _)).trans (told.mono (by simp))

/-! ## The decision and its phase (04 R75 to R77) -/

theorem settleOrConfirm_eq (prior : Option LoaderState) (held : Option Mode) (target : Mode) :
    settleOrConfirm prior held target =
      if prior = some .parked ∨ prior = some .halted ∨ (held = some .supervised ∧
        target = .supervised) then .confirming else .settling := by
  unfold settleOrConfirm
  split_ifs <;> simp_all

/-- What the entry to SETTLING or CONFIRMING leaves of a loader in flight. -/
structure State.entered (s t : State) (l : LoaderId) (k : CtxId) (x : Handover) (p : Phase) :
    Prop where
  handover : t.handover k = some
    { x with
      phase := p
      timer := ⟨1000 * (if p = .confirming then s.params.confirm else s.params.settle), 0⟩ }
  loader : t.loader l =
    { s.loader l with
      lapse := if p = .confirming ∧ (s.loader l).heldMode = some .manual then false
        else (s.loader l).lapse
      lapseTimer := if p = .confirming ∧ (s.loader l).heldMode = some .manual then none
        else (s.loader l).lapseTimer
      holdRefresh := some ⟨500, 0⟩ }
  otherLoaders : s.otherLoaders l t
  otherHandovers : s.otherHandovers k t
  fleet : t.fleet = s.ordered l .hold
  frame : s.sameBut [.handovers, .loaders, .fleet, .queues] t
  tells : s.tells 2 0 t

/-- In SETTLING and in CONFIRMING a handover that is not suspended holds its loader (01 R19). -/
theorem State.holdCondition_of_phase {s : State} {l : LoaderId} {k : CtxId} {x : Handover}
    (flight : s.inFlight l k x) (running : x.suspended = false)
    (phase : x.phase = .settling ∨ x.phase = .confirming) : s.holdCondition l = true := by
  obtain ⟨transfer, context, used, -⟩ := flight
  have holds : x.holds = true := by
    rcases phase with e | e <;> simp [Handover.holds, e, running]
  simp [State.holdCondition, transfer, State.handoverOf, context, used, holds]

/-- A phase that holds the loader is written, and its HOLD leaves. -/
theorem State.entered_of {s b t : State} {l : LoaderId} {k : CtxId} {x y : Handover} {p : Phase}
    (flight : s.inFlight l k x) (running : x.suspended = false)
    (phase : p = .settling ∨ p = .confirming)
    (entry : y = { x with
      phase := p
      timer := ⟨1000 * (if p = .confirming then s.params.confirm else s.params.settle), 0⟩ })
    (begun : s.sameBut [.handovers, .loaders] b)
    (own : b.handover k = some y) (others : s.otherHandovers k b)
    (record : b.loader l =
      { s.loader l with
        lapse := if p = .confirming ∧ (s.loader l).heldMode = some .manual then false
          else (s.loader l).lapse
        lapseTimer := if p = .confirming ∧ (s.loader l).heldMode = some .manual then none
          else (s.loader l).lapseTimer })
    (loaders : s.otherLoaders l b)
    (told : (b.emitHold l).sameBut [.queues] t) (tells : (b.emitHold l).tells 2 0 t) :
    s.entered t l k x p := by
  obtain ⟨transfer, context, used, named⟩ := flight
  have inFlight : b.inFlight l k y := by
    refine ⟨by rw [record]; exact transfer, by rw [record]; exact context, own, ?_⟩
    rw [entry]
    exact named
  have holds : b.holdCondition l = true :=
    State.holdCondition_of_phase inFlight (by rw [entry]; exact running) (by rw [entry]; exact phase)
  have emitted := b.emitHold_sameBut l
  refine ⟨?_, ?_, fun n ne => ?_, fun n ne => ?_, ?_, ?_, ?_⟩
  · rw [told.handover, emitted.handover, own, entry]
  · rw [told.loader, b.emitHold_loader, if_pos holds, record]
  · rw [told.loader, b.emitHold_loader_ne ne, loaders n ne]
  · rw [told.handover, emitted.handover, others n ne]
  · rw [told.fleet, b.emitHold_fleet, begun.ordered]
  · exact ((begun.mono (by simp)).trans (emitted.mono (by simp))).trans (told.mono (by simp))
  · exact (tells.after emitted).after begun

theorem State.enterSettling_entered {s : State} {l : LoaderId} {k : CtxId} {x : Handover}
    (flight : s.inFlight l k x) (running : x.suspended = false) :
    s.entered (s.enterSettling k) l k x .settling := by
  obtain ⟨-, -, used, rfl⟩ := id flight
  have entering : s.enterSettling k = ((s.setHandover k (some { x with
      phase := .settling, timer := Timer.start s.params.settleMs })).emitHold x.loader).tellParties x
        (.settleStarted k x.loader (((s.setHandover k (some { x with
          phase := .settling, timer := Timer.start s.params.settleMs })).emitHold
            x.loader).params.settle)) := by
    rw [State.enterSettling, used]
  rw [entering]
  exact State.entered_of flight running (.inl rfl) rfl ((s.setHandover_sameBut _ _).mono (by simp))
    (s.setHandover_handover_self k _) (fun n ne => s.setHandover_handover_ne ne _) rfl
    (fun _ _ => rfl) (State.tellParties_sameBut_queues _ _ _) (State.tellParties_tells _ _ _)

/-- The handover written and the lapse stopped at an entry to CONFIRMING. -/
def State.confirmingBegun (s : State) (k : CtxId) (x : Handover) : State :=
  let b := s.setHandover k (some
    { x with phase := .confirming, timer := Timer.start s.params.confirmMs })
  if (s.loader x.loader).heldMode = some .manual then b.stopLapse x.loader else b

theorem State.confirmingBegun_sameBut (k : CtxId) (x : Handover) :
    s.sameBut [.handovers, .loaders] (s.confirmingBegun k x) := by
  unfold State.confirmingBegun
  dsimp only
  split
  · exact ((s.setHandover_sameBut _ _).mono (by simp)).trans
      ((State.stopLapse_sameBut _ _).mono (by simp))
  · exact (s.setHandover_sameBut _ _).mono (by simp)

theorem State.confirmingBegun_handover (k : CtxId) (x : Handover) :
    (s.confirmingBegun k x).handover = (s.setHandover k (some
      { x with phase := .confirming, timer := Timer.start s.params.confirmMs })).handover := by
  unfold State.confirmingBegun
  dsimp only
  split <;> rfl

theorem State.confirmingBegun_loader (k : CtxId) (x : Handover) :
    (s.confirmingBegun k x).loader x.loader =
      { s.loader x.loader with
        lapse := if (s.loader x.loader).heldMode = some .manual then false
          else (s.loader x.loader).lapse
        lapseTimer := if (s.loader x.loader).heldMode = some .manual then none
          else (s.loader x.loader).lapseTimer } := by
  unfold State.confirmingBegun
  dsimp only
  split
  · rw [State.stopLapse_loader]
    rfl
  · rfl

theorem State.confirmingBegun_loader_ne {k : CtxId} {x : Handover} {n : LoaderId}
    (ne : n ≠ x.loader) : (s.confirmingBegun k x).loader n = s.loader n := by
  unfold State.confirmingBegun
  dsimp only
  split
  · rw [State.stopLapse_loader_ne _ ne]
    rfl
  · rfl

theorem State.enterConfirming_entered {s : State} {l : LoaderId} {k : CtxId} {x : Handover}
    (flight : s.inFlight l k x) (running : x.suspended = false) :
    s.entered (s.enterConfirming k) l k x .confirming := by
  obtain ⟨-, -, used, rfl⟩ := id flight
  have entering : ∃ n, s.enterConfirming k =
      (((s.confirmingBegun k x).emitHold x.loader).tellChair x.taking n).tellChair? x.releasing n := by
    rw [State.enterConfirming, used]
    exact ⟨_, rfl⟩
  obtain ⟨n, entering⟩ := entering
  rw [entering]
  refine State.entered_of flight running (.inr rfl) rfl (s.confirmingBegun_sameBut k x) ?_ ?_ ?_
    (fun n ne => s.confirmingBegun_loader_ne ne)
    ((State.tellChair_sameBut_queues _ _ _).trans (State.tellChair?_sameBut_queues _ _ _))
    ((State.tellChair_tells _ _ _).trans (State.tellChair?_tells _ _ _))
  · rw [s.confirmingBegun_handover, s.setHandover_handover_self]
    rfl
  · intro n ne
    rw [s.confirmingBegun_handover, s.setHandover_handover_ne ne]
  · rw [s.confirmingBegun_loader]
    simp only [true_and]

/-- The decision enters its phase. -/
theorem State.decidePhase_entered {s : State} {l : LoaderId} {k : CtxId} {x : Handover}
    (flight : s.inFlight l k x) (running : x.suspended = false) :
    s.entered (s.decidePhase k) l k x (if (s.loader l).prior = some .parked ∨
      (s.loader l).prior = some .halted ∨ ((s.loader l).holder.map (·.mode) = some .supervised ∧
        x.target = .supervised) then .confirming else .settling) := by
  obtain ⟨-, -, used, rfl⟩ := id flight
  have decided := settleOrConfirm_eq (s.loader x.loader).prior (s.loader x.loader).heldMode x.target
  rw [Loader.heldMode] at decided
  rw [State.decidePhase, used]
  simp only [State.decidedPhase, Loader.heldMode, decided]
  by_cases direct : (s.loader x.loader).prior = some .parked ∨
    (s.loader x.loader).prior = some .halted ∨
      ((s.loader x.loader).holder.map (·.mode) = some .supervised ∧ x.target = .supervised)
  · simp only [if_pos direct]
    exact State.enterConfirming_entered flight running
  · simp only [if_neg direct]
    exact State.enterSettling_entered flight running

/-- Settles O27: the handover is created, and the decision enters its phase at once. -/
theorem forceEntersDecidedPhase : Obligations.ForceEntersDecidedPhase := by
  unfold Obligations.ForceEntersDecidedPhase
  intro s a h d loader taking slot target l i m k phase sender ready heard hl ht hi hm state other
    pass free lowest decided
  let x : Start :=
    { loader := l, kind := .force, taking := d, slot := some i, target := m, context := k }
  have may : forcible (a.loader l) = true := by
    simpa [forcible, or_assoc] using state
  have examine : a.examineForce h loader taking slot target = .ok x :=
    a.examineForce_ok.mpr ⟨fromSup_of sender, hl, ht, hm,
      fun e => absurd (e ▸ state) (by decide), fun e => absurd (e ▸ state) (by decide), other, may,
      State.needContext_of free lowest, rfl, i, hi,
      (a.checkReserve_eq_runChecks l d i m).trans (runChecks_of_pass pass), rfl⟩
  have phase_eq : settleOrConfirm (some (a.loader l).state) (a.loader l).heldMode m = phase := by
    rw [settleOrConfirm_eq, decided, Loader.heldMode]
    simp only [Option.some.injEq]
  let replied := a.ok h .force (.force k phase)
  let b := (replied.createHandover x .settling replied.params.settleMs).tellForcedParties k
  have taken : a.takeForce h loader taking slot target = b.decidePhase k := by
    rw [State.takeForce, a.examined_ok examine]
    simp only [x, phase_eq]
    rfl
  have next : exec (.force h loader taking slot target) s =
      .next (a.takeForce h loader taking slot target) := exec_of_ready rfl ready heard
  rw [taken] at next
  have told : (replied.createHandover x .settling replied.params.settleMs).sameBut [.queues] b :=
    State.tellForcedParties_sameBut_queues _ k
  have started : a.started b x .settling replied.params.settleMs :=
    State.started_of (a.ok_sameBut h .force (.force k phase)) told
  have flight : b.inFlight l k (a.newHandover x .settling replied.params.settleMs) :=
    ⟨by rw [started.loader], by rw [started.loader], started.handover, rfl⟩
  have before : a.sameBut [.loaders, .handovers, .chairs, .watch, .lamps, .queues, .supQueue] b :=
    (((a.ok_sameBut_supQueue sender .force (.force k phase)).mono (by simp)).trans
      ((State.createHandover_sameBut_queues _ _ _ _).mono (by simp))).trans (told.mono (by simp))
  have entered := State.decidePhase_entered flight rfl
  have entered' : b.entered (b.decidePhase k) l k
      (a.newHandover x .settling replied.params.settleMs) phase := by
    convert entered using 1
    rw [decided, started.loader]
    simp only [Option.some.injEq]
    rfl
  refine ⟨_, next, ?_, ?_, ?_, ?_, ?_, ?_, ?_, ?_, ?_, ?_, fun n ne => ?_, fun n ne => ?_, ?_, ?_, ?_,
    ?_, ?_⟩
  · rw [entered'.handover, before.params]
    simp only [State.newHandover, Params.watchdogMs_eq]
    rfl
  · rw [entered'.loader, started.loader]
  · rw [entered'.loader, started.loader]
  · rw [entered'.loader, started.loader]
  · rw [entered'.loader, started.loader]
  · rw [entered'.loader, started.loader]
  · rw [entered'.loader, started.loader]
  · rw [entered'.loader]
  · rw [entered'.loader, started.loader]
  · rw [entered'.frame.slot, started.slot, if_pos ⟨rfl, rfl⟩]
  · rw [entered'.otherLoaders n ne, started.otherLoaders n ne]
  · rw [entered'.otherHandovers n ne, started.otherHandovers n ne]
  · refine (started.slotsOnly.trans (.of_frame entered'.frame)).otherSlots fun c j apart => ?_
    rw [entered'.frame.slot, started.slot, if_neg]
    rintro ⟨rfl, named⟩
    cases named
    exact apart (by simp)
  · rw [entered'.frame.watch]
    exact started.watch
  · rw [entered'.fleet, before.ordered]
  · have queued := State.ok_queued (State.ready_heard ready heard) .force (.force k phase)
    rw [port_of_sup sender] at queued
    exact (((State.createHandover_tells _ _ _ _).trans (State.tellForcedParties_tells _ _)).trans
      entered'.tells).queued_reply (Frame.reply_isReply _ _ _) queued
  · exact (before.mono (by simp)).trans (entered'.frame.mono (by simp))

/-! ## ACCEPT and YIELD -/

theorem State.namedHandover_of {s : State} {loader context : Byte} {l : LoaderId} {k : CtxId}
    {x : Handover} (hl : loaderOf loader = some l) (hk : ctxOf context = some k)
    (flight : s.inFlight l k x) : s.namedHandover loader context = .ok (k, x) := by
  obtain ⟨transfer, named, used, -⟩ := flight
  exact s.namedHandover_ok.mpr ⟨l, hl, hk, by rw [transfer]; decide, transfer, named, used⟩

theorem State.examineYield_ok {h : Header} {loader context : Byte} {k : CtxId} :
    s.examineYield h loader context = .ok k ↔ ∃ c x, h.fromChair = .ok c ∧
      s.namedHandover loader context = .ok (k, x) ∧ (x.kind = .request ∧ x.releasing = some c) ∧
      x.phase = .requested ∧ x.suspended = false := by
  simp only [State.examineYield, examine_bind_ok, ensure_ok, exists_const, ok_inj,
    Prod.exists]
  constructor
  · rintro ⟨c, hc, k, x, named, mine, phase, runs, rfl⟩
    exact ⟨c, x, hc, named, mine, phase, runs⟩
  · rintro ⟨c, x, hc, named, mine, phase, runs⟩
    exact ⟨c, hc, k, x, named, mine, phase, runs, rfl⟩

/-- The slot that an ACCEPT names is reserved and recorded. -/
theorem State.reserve_handover (k : CtxId) (x : Handover) (i : SlotId) (n : CtxId) :
    (s.reserve k x i).handover n = if n = k then some { x with slot := some i } else s.handover n := by
  rw [State.reserve]
  split
  · next same => rw [same, State.setHandover_handover_self]
  · next ne => rw [State.setHandover_handover_ne _ ne]; rfl

theorem State.reserve_sameBut (k : CtxId) (x : Handover) (i : SlotId) :
    s.sameBut [.chairs, .handovers] (s.reserve k x i) :=
  ((s.fillSlot_sameBut _ _ _).mono (by simp)).trans ((State.setHandover_sameBut _ _ _).mono (by simp))

theorem State.reserve_slot (k : CtxId) (x : Handover) (i : SlotId) (d : ChairId) (j : SlotId) :
    (s.reserve k x i).slot d j = (s.fillSlot x.taking i (.reserved x.loader k)).slot d j := rfl

/-- What an answer that goes on leaves, with the reply and the reservation before its phase. -/
structure State.answered (s t : State) (l : LoaderId) (k : CtxId) (x y : Handover) (p : Phase) :
    Prop where
  handover : t.handover k = some
    { y with
      phase := p
      timer := ⟨1000 * (if p = .confirming then s.params.confirm else s.params.settle), 0⟩ }
  state : (t.loader l).state = .transfer
  holder : (t.loader l).holder = (s.loader l).holder
  refresh : (t.loader l).holdRefresh = some ⟨500, 0⟩
  lapse : p = .confirming → (s.loader l).holder.map (·.mode) = some .manual →
    (t.loader l).lapse = false ∧ (t.loader l).lapseTimer = none
  otherLoaders : s.otherLoaders l t
  otherHandovers : s.otherHandovers k t
  fleet : t.fleet = s.ordered l .hold

theorem State.entered.answered {a b t : State} {l : LoaderId} {k : CtxId} {x y : Handover}
    {p : Phase} (flight : a.inFlight l k x) (begun : a.sameBut [.chairs, .handovers, .queues] b)
    (others : a.otherHandovers k b) (entered : b.entered t l k y p) : a.answered t l k x y p where
  handover := by rw [entered.handover, begun.params]
  state := by rw [entered.loader, begun.loader]; exact flight.1
  holder := by rw [entered.loader, begun.loader]
  refresh := by rw [entered.loader]
  lapse confirming manual := by
    have both : p = .confirming ∧ (a.loader l).heldMode = some .manual := ⟨confirming, manual⟩
    rw [entered.loader, begun.loader]
    simp only [if_pos both, and_self]
  otherLoaders n ne := by rw [entered.otherLoaders n ne, begun.loader]
  otherHandovers n ne := by rw [entered.otherHandovers n ne, others n ne]
  fleet := by rw [entered.fleet, begun.ordered]

/-- Settles O28: the reply joins, an ACCEPT reserves its slot, and the decision enters the phase. -/
theorem acceptAndYieldEnterNextPhase : Obligations.AcceptAndYieldEnterNextPhase := by
  unfold Obligations.AcceptAndYieldEnterNextPhase
  intro s a h c panel loader context slot l k i x cmd kind phase kept reserved sender ready heard hl
    hk flight running command decided
  have room := State.ready_heard ready heard
  have named := State.namedHandover_of hl hk flight
  obtain ⟨-, -, used, is_l⟩ := id flight
  rcases command with ⟨rfl, rfl, offer, rfl, offered, hi, pass, rfl, rfl⟩ |
    ⟨rfl, rfl, request, releasing, requested, rfl, rfl⟩
  · let replied := a.ok h .accept (.context k)
    let b := replied.reserve k x i
    have examine : a.examineAccept h loader context slot = .ok (k, x, i) :=
      a.examineAccept_ok.mpr ⟨x.taking, fromChair_of sender, hi, named, ⟨offer, rfl⟩, offered, running,
        by rw [is_l]; exact (a.checkReserve_eq_runChecks ..).trans (runChecks_of_pass pass)⟩
    have taken : a.takeAccept h loader context slot = b.decidePhase k := by
      simp only [State.takeAccept, State.examined, examine]
      rfl
    have next : exec (.accept h loader context slot) s =
        .next (a.takeAccept h loader context slot) := exec_of_ready rfl ready heard
    rw [taken] at next
    have replied_frame : a.sameBut [.queues] replied := a.ok_sameBut_queues sender _ _
    have begun : a.sameBut [.chairs, .handovers, .queues] b :=
      (replied_frame.mono (by simp)).trans ((replied.reserve_sameBut k x i).mono (by simp))
    have own : b.handover k = some { x with slot := some i } := by
      rw [replied.reserve_handover, if_pos rfl]
    have flight' : b.inFlight l k { x with slot := some i } :=
      ⟨by rw [begun.loader]; exact flight.1, by rw [begun.loader]; exact flight.2.1, own, is_l⟩
    have entered := State.decidePhase_entered flight' running
    rw [begun.loader, ← decided] at entered
    have others : a.otherHandovers k b := fun n ne => by
      rw [replied.reserve_handover, if_neg ne, replied_frame.handover]
    have slots : ∀ d j, (b.decidePhase k).slot d j =
        (a.fillSlot x.taking i (.reserved l k)).slot d j := fun d j => by
      rw [entered.frame.slot, replied.reserve_slot, State.fillSlot_slot, State.fillSlot_slot,
        replied_frame.slot, is_l]
    obtain ⟨handover, state, holder, refresh, lapse, loaders, handovers, fleet⟩ :=
      entered.answered flight begun others
    refine ⟨_, next, handover, state, holder, refresh, lapse, ?_, ?_, loaders, handovers, fleet, ?_,
      (begun.mono (by simp)).trans (entered.frame.mono (by simp))⟩
    · intro y hy
      obtain rfl := List.mem_singleton.mp hy
      rw [slots, State.fillSlot_slot, if_pos ⟨rfl, rfl⟩]
    · have only : a.slotsOnly (b.decidePhase k) :=
        ((State.slotsOnly.of_frame replied_frame).trans
          ((State.fillSlot_slotsOnly replied _ _ _).trans
            (.of_frame (State.setHandover_sameBut _ _ _)))).trans (.of_frame entered.frame)
      refine only.otherSlots fun d j apart => ?_
      rw [slots, State.fillSlot_slot, if_neg]
      rintro ⟨rfl, rfl⟩
      exact apart (by simp)
    · have queued := State.ok_queued room .accept (.context k)
      rw [port_of_chair sender] at queued
      exact (entered.tells.after (replied.reserve_sameBut k x i)).queued_reply
        (Frame.reply_isReply _ _ _) queued
  · let b := a.ok h .yield (.context k)
    have examine : a.examineYield h loader context = .ok k :=
      a.examineYield_ok.mpr ⟨c, x, fromChair_of sender, named, ⟨request, releasing⟩, requested,
        running⟩
    have next : exec (.yield h loader context) s = .next (a.takeYield h loader context) :=
      exec_of_ready rfl ready heard
    have taken : a.takeYield h loader context = b.decidePhase k := a.examined_ok examine
    rw [taken] at next
    have begun : a.sameBut [.queues] b := a.ok_sameBut_queues sender _ _
    have flight' : b.inFlight l k x :=
      ⟨by rw [begun.loader]; exact flight.1, by rw [begun.loader]; exact flight.2.1,
        by rw [begun.handover]; exact used, is_l⟩
    have entered := State.decidePhase_entered flight' running
    rw [begun.loader, ← decided] at entered
    obtain ⟨handover, state, holder, refresh, lapse, loaders, handovers, fleet⟩ :=
      entered.answered flight (begun.mono (by simp)) fun n _ => begun.handover n
    refine ⟨_, next, handover, state, holder, refresh, lapse, by simp, ?_, loaders, handovers, fleet,
      ?_, (begun.mono (by simp)).trans (entered.frame.mono (by simp))⟩
    · exact (State.slotsOnly.trans (.of_frame begun) (.of_frame entered.frame)).otherSlots
        fun d j _ => by rw [entered.frame.slot, begun.slot]
    · have queued := State.ok_queued room .yield (.context k)
      rw [port_of_chair sender] at queued
      exact entered.tells.queued_reply (Frame.reply_isReply _ _ _) queued

end Sys2Proof.Machine
end

section
/-! PROOF. The answers to a handover as they are examined, the commit, and SUSPEND and RESUME
(04 4-1, 4-4 and 4-6). -/

namespace Sys2Proof.Machine

-- One theorem after another, so that the compile stays within its memory.
set_option Elab.async false

variable (s : State)

/-! ## The commit -/

/-- A grant that follows the emptying of the former holder's slot (04 R79). -/
theorem State.grantedTo.of_vacate {s t : State} {l : LoaderId} {c : ChairId} {i : SlotId} {m : Mode}
    (h : (s.vacate l).grantedTo t l c i m none) :
    s.grantedTo t l c i m (s.loader l).holder := by
  obtain ⟨loader, slot, loaders, slots, zones, watch⟩ := h
  have frame := s.vacate_sameBut l
  refine ⟨?_, slot, fun n ne => ?_, fun d => ?_, fun z => ?_, ?_⟩
  · rw [loader, frame.loader, frame.params]
  · rw [loaders n ne, frame.loader]
  · obtain ⟨clearance, stop, neutral, counters, others⟩ := slots d
    have chair := s.vacate_slotsOnly l d
    refine ⟨by rw [clearance, chair], by rw [stop, chair], by rw [neutral, chair],
      by rw [counters, chair], fun j apart => ?_⟩
    rw [others j fun e => apart (List.mem_cons.mpr (.inl (List.mem_singleton.mp e))), s.vacate_slot,
      if_neg]
    intro held
    obtain ⟨y, holder, rfl, rfl⟩ := (Loader.heldAt_iff _ _ _).mp held
    exact apart (by simp [Option.mem_def.mp holder])
  · rw [zones z, frame.zone, frame.loader]
  · rw [s.vacate_watch] at watch
    unfold WatchTable.unlockHolder at watch
    cases holder : (s.loader l).holder with
    | none => simpa only [holder] using watch
    | some y => simpa only [holder] using watch

/-- Notices behind a grant leave it as it is. -/
theorem State.grantedTo.before {s t u : State} {l : LoaderId} {c : ChairId} {i : SlotId}
    {m : Mode} {former : Option Holding} (h : s.grantedTo t l c i m former)
    (frame : t.sameBut [.queues, .supQueue, .handovers] u) : s.grantedTo u l c i m former := by
  have loader := fun n => frame.loader n
  have chair := fun n => frame.chair n
  have slot := fun n j => frame.slot n j
  have zone := fun n => frame.zone n
  unfold State.grantedTo State.otherLoaders State.otherSlots at *
  simpa only [loader, chair, slot, zone, frame.watch] using h

theorem State.commit_grantedTo {s : State} {k : CtxId} {h : Handover} {i : SlotId}
    (used : s.handover k = some h) (slot : h.slot = some i) :
    s.grantedTo (s.commit k) h.loader h.taking i h.target (s.loader h.loader).holder :=
  (State.grantedTo.of_vacate (State.grant_grantedTo _ h.loader h.taking i h.target)).before
    (State.commit_after used slot)

theorem State.commit_slot {s : State} {k : CtxId} {h : Handover} {i : SlotId}
    (used : s.handover k = some h) (slot : h.slot = some i) {c : ChairId} {j : SlotId}
    (apart : (c, j) ≠ (h.taking, i)) : (s.commit k).slot c j =
      { s.slot c j with
        contents := if (s.loader h.loader).heldAt c j then .empty else (s.slot c j).contents } := by
  rw [(State.commit_after used slot).slot, State.commitBegun, State.grant_slot, if_neg,
    s.vacate_slot]
  rintro ⟨rfl, rfl⟩
  exact apart rfl

theorem State.commit_tells (k : CtxId) : s.tells 3 2 (s.commit k) := by
  unfold State.commit
  split
  · exact .refl _ _ _
  · next h used =>
    split
    · exact .refl _ _ _
    · next i slot =>
      have granted := (State.grant_tells (s.vacate h.loader) h.loader h.taking i h.target).after
        (s.vacate_sameBut h.loader)
      have told := granted.trans (State.tellChair_tells _ h.taking
        (.granted h.loader i h.target (((s.vacate h.loader).grant h.loader h.taking i
          h.target).loader h.loader).epoch))
      refine State.tells.before ?_ (State.setHandover_sameBut _ _ _)
      split
      · exact (told.trans (State.tellChair_tells _ _ _)).trans (State.tellSup_tells _ _)
      · exact (told.trans (State.tellSup_tells _ _)).mono

theorem State.checkNeutral_of {c : ChairId} {m : Mode}
    (neutral : m = .manual → (s.chair c).neutral = true) : s.checkNeutral c m = .ok () :=
  ensure_of neutral _

/-- Settles O30. -/
theorem confirmCommitsHandover : Obligations.ConfirmCommitsHandover := by
  unfold Obligations.ConfirmCommitsHandover
  intro s a h c panel loader context l k i x sender ready heard hl hk flight mine slot phase neutral
    pass
  have named := State.namedHandover_of hl hk flight
  obtain ⟨-, -, used, rfl⟩ := id flight
  subst mine
  let b := a.ok h .confirm (.context k)
  have examine : a.examineConfirm h loader context = .ok (k, x) :=
    a.examineConfirm_ok.mpr ⟨x.taking, fromChair_of sender, named, rfl, phase,
      a.checkNeutral_of neutral⟩
  have ground : a.checkGround x.loader x.taking x.target (some k) = .ok () := by
    rw [a.checkGround_eq_runChecks]
    exact runChecks_of_pass pass
  have taken : a.takeConfirm h loader context = b.commit k := by
    simp only [State.takeConfirm, State.examined, examine, ground]
    rfl
  have next : exec (.confirm h loader context) s = .next (a.takeConfirm h loader context) :=
    exec_of_ready rfl ready heard
  rw [taken] at next
  have replied : a.sameBut [.queues] b := a.ok_sameBut_queues sender _ _
  have used' : b.handover k = some x := by rw [replied.handover]; exact used
  have granted := State.grantedTo.of_queues (replied.mono (qs := [.queues, .supQueue]) (by simp))
    (State.commit_grantedTo used' slot)
  rw [replied.loader] at granted
  refine ⟨_, next, granted, fun y holder apart => ?_, ?_, fun n ne => ?_, ?_, ?_⟩
  · have held : (a.loader x.loader).heldAt y.chair y.slot = true :=
      (Loader.heldAt_iff _ _ _).mpr ⟨y, holder, rfl, rfl⟩
    rw [State.commit_slot used' slot apart, replied.loader, replied.slot, if_pos held]
  · rw [State.commit_handover used' slot, if_pos rfl]
  · rw [State.commit_handover used' slot, if_neg ne, replied.handover]
  · have queued := State.ok_queued (State.ready_heard ready heard) .confirm (.context k)
    rw [port_of_chair sender] at queued
    exact (State.commit_tells _ k).queued_reply (Frame.reply_isReply _ _ _) queued
  · exact (replied.mono (by simp)).trans (State.commit_sameBut _ k)

/-! ## Aborts that revert -/

theorem commitAbort_fate (r : Reason) (held : Option Mode) (grace : Nat) :
    (commitAbort r).fate held grace = .revert := by
  cases r <;> rfl

/-- The states that a handover can begin from (04 R65) are returned to as they were. -/
theorem Loader.reverted_state {r : Loader} {prior : LoaderState} {h : Handover} {lapse : Nat} :
    (r.reverted prior h lapse).state = prior := by
  cases prior <;> rfl

theorem Loader.reverted_holder {r : Loader} {prior : LoaderState} {h : Handover} {lapse : Nat} :
    (r.reverted prior h lapse).holder = r.holder := by
  cases prior <;> rfl

theorem Loader.reverted_epoch {r : Loader} {prior : LoaderState} {h : Handover} {lapse : Nat} :
    (r.reverted prior h lapse).epoch = r.epoch := by
  cases prior <;> rfl

theorem State.abort_loader_revert {s : State} {k : CtxId} {x : Handover} {e : AbortEvent}
    {prior : LoaderState} (used : s.handover k = some x) (fate : s.fateOf x e = .revert)
    (from_prior : (s.loader x.loader).prior = some prior) :
    (s.abort k e).loader x.loader = (s.loader x.loader).reverted prior x s.params.driveLapse := by
  rw [State.abort_loader used, fate]
  simp only [Fate.leave, State.priorOf, from_prior, Option.getD_some]

theorem State.abortAlone_eq {s : State} {k : CtxId} {x : Handover} (used : s.handover k = some x)
    (e : AbortEvent) : s.abortAlone k e = (s.abort k e).checkZoneOf x.loader := by
  rw [State.abortAlone, used]

theorem State.checkNeutral_error {c : ChairId} {m : Mode} (manual : m = .manual)
    (off : (s.chair c).neutral = false) : s.checkNeutral c m = .error .notNeutral :=
  ensure_of_not (fun h => by simp [h manual] at off) _

/-- A chair's controls stand as the panel byte of its frame shows them (03 R47). -/
theorem State.heard_neutral (c : ChairId) (panel : Byte) :
    ((s.heard (.chair c panel)).chair c).neutral = panelNeutral panel := by
  simp [State.heard, State.chair, panelNeutral]

/-- Settles O31. -/
theorem confirmFailures : Obligations.ConfirmFailures := by
  unfold Obligations.ConfirmFailures
  intro s a h c panel loader context l k x prior sender ready heard hl hk flight mine phase
  have named := State.namedHandover_of hl hk flight
  obtain ⟨-, -, used, rfl⟩ := id flight
  subst mine
  have neutral : (a.chair x.taking).neutral = panelNeutral panel := by
    rw [heard, sender, s.heard_neutral]
  have next : exec (.confirm h loader context) s = .next (a.takeConfirm h loader context) :=
    exec_of_ready rfl ready heard
  refine ⟨fun manual off => ?_, fun shown from_prior start r failing => ?_⟩
  · have examine : a.examineConfirm h loader context = .error .notNeutral := by
      simp only [State.examineConfirm, fromChair_of sender, ok_bind, named, phase, ensure, if_true,
        a.checkNeutral_error manual (neutral.trans off), error_bind]
    rw [next, State.takeConfirm, a.examined_error examine, a.answer_chair sender]
  · have examine : a.examineConfirm h loader context = .ok (k, x) :=
      a.examineConfirm_ok.mpr ⟨x.taking, fromChair_of sender, named, rfl, phase,
        a.checkNeutral_of fun manual => neutral.trans (shown manual)⟩
    have ground : a.checkGround x.loader x.taking x.target (some k) = .error r := by
      rw [a.checkGround_eq_runChecks]
      exact runChecks_error.mpr failing
    let b := a.answer h .confirm (.refused r)
    have replied := a.answer_sameBut h .confirm (.refused r)
    have used' : b.handover k = some x := by rw [replied.handover]; exact used
    have taken : a.takeConfirm h loader context = (b.abort k (commitAbort r)).checkZoneOf x.loader := by
      rw [← State.abortAlone_eq used']
      simp only [State.takeConfirm, State.examined, examine, ground]
      rfl
    rw [taken] at next
    have fate : b.fateOf x (commitAbort r) = .revert := commitAbort_fate _ _ _
    have checked := State.checkZoneOf_sameBut (b.abort k (commitAbort r)) x.loader
    have record : ((b.abort k (commitAbort r)).checkZoneOf x.loader).loader x.loader =
        (a.loader x.loader).reverted prior x b.params.driveLapse := by
      rw [checked.loader, State.abort_loader_revert (prior := prior) used' fate
        (by rw [replied.loader]; exact from_prior), replied.loader]
    refine ⟨_, next, ?_, ?_, ?_, ?_, fun n ne => ?_, fun n ne => ?_, ?_⟩
    · rw [checked.handover, State.abort_handover used', if_pos rfl]
    · rw [record, Loader.reverted_state]
    · rw [record, Loader.reverted_holder]
    · rw [record, Loader.reverted_epoch]
    · rw [checked.loader, State.abort_loader_ne used' _ ne, replied.loader]
    · rw [checked.handover, State.abort_handover used', if_neg ne, replied.handover]
    · have queued := State.answer_queued (State.ready_heard ready heard) .confirm (.refused r)
      rw [port_of_chair sender] at queued
      exact ((State.abort_tells _ _ _).trans (State.checkZoneOf_tells _ _)).queued_reply
        (Frame.reply_isReply _ _ _) queued

/-! ## The order of the examinations (04 R67) -/

/-- The third step of 04 R67, as the first check of a table. -/
def State.namedCheck (s : State) (l : LoaderId) (k : CtxId) : Check :=
  ((s.loader l).state == .transfer && (s.loader l).context == some k && (s.handover k).isSome,
    .noHandover)

theorem State.namedHandover_eq {s : State} {loader context : Byte} {l : LoaderId} {k : CtxId}
    {x : Handover} (hl : loaderOf loader = some l) (hk : ctxOf context = some k)
    (enrolled : (s.loader l).state ≠ .unenrolled) (known : s.handover k ∈ [none, some x]) :
    s.namedHandover loader context =
      runChecks [s.namedCheck l k] >>= fun _ => .ok (k, x) := by
  simp only [State.namedHandover, hl, hk, meaning_some, ok_bind, s.enrolled_of enrolled,
    runChecks_cons, runChecks_nil, bind_ok_unit, State.namedCheck]
  by_cases names : (s.loader l).state = .transfer ∧ (s.loader l).context = some k
  · rw [ensure_of names, ok_bind]
    rcases List.mem_cons.mp known with free | used
    · simp [free, ensure, error_bind]
    · have used' : s.handover k = some x := List.mem_singleton.mp used
      simp [used', names.1, names.2, ensure, ok_bind]
  · rw [ensure_of_not names, error_bind, ensure_of_not, error_bind]
    simp only [Bool.and_eq_true, beq_iff_eq]
    exact fun h => names h.1

/-- An examination that runs a list of checks once the handover is named, and then accepts. -/
theorem examination_error {α : Type} {v : Except Reason (CtxId × Handover)} {k : CtxId}
    {x : Handover} {first : Check} {checks : List Check} {r : Reason}
    {rest : CtxId × Handover → Except Reason α} {out : α}
    (named : v = runChecks [first] >>= fun _ => .ok (k, x))
    (run : rest (k, x) = runChecks checks >>= fun _ => .ok out)
    (failing : firstFailing (first :: checks) = some r) : v >>= rest = .error r := by
  have all : runChecks (first :: checks) = .error r := runChecks_error.mpr failing
  rw [runChecks_cons] at all
  rw [named, runChecks_cons, runChecks_nil, bind_ok_unit]
  cases passed : ensure (first.1 = true) first.2 with
  | error r' =>
    rw [passed, error_bind] at all
    rw [error_bind, error_bind]
    exact congrArg Except.error (Except.error.inj all)
  | ok u =>
    rw [passed, ok_bind] at all
    rw [ok_bind, ok_bind, run, all]
    rfl

theorem State.exec_refused {s a : State} {h : Header} {cmd : Instr} {kind : ReqKind} {r : Reason}
    {α : Type} {v : Except Reason α} {accept : α → State} (header : cmd.header? = some h)
    (ready : s.ready h) (heard : a = s.heard h.sender)
    (taken : cmd.taken false a = a.examined h kind v accept) (fails : v = .error r) :
    exec cmd s = .next (a.modQueue h.sender.port (·.join ⟨h.tag, .reply kind (.refused r)⟩)) := by
  rw [exec_of_ready header ready heard, taken, a.examined_error fails]
  rfl

section

variable {a : State} {h : Header} {loader context slot : Byte} {c : ChairId} {panel : Byte}
  {l : LoaderId} {k : CtxId} {i : SlotId} {x : Handover} {r : Reason}

theorem State.examineAccept_error (sender : h.sender = .chair c panel)
    (hl : loaderOf loader = some l) (hk : ctxOf context = some k) (hi : slotOf slot = some i)
    (named : a.namedHandover loader context = runChecks [a.namedCheck l k] >>= fun _ => .ok (k, x))
    (failing : firstFailing (a.namedCheck l k :: ([(x.kind == .offer && x.taking == c, .notParty),
      (x.phase == .offered, .phase), (!x.suspended, .suspended)] ++
        a.checks3to14 x.loader c i x.target)) = some r) :
    a.examineAccept h loader context slot = .error r := by
  simp only [State.examineAccept, fromChair_of sender, hl, hk, hi, meaning_some, ok_bind]
  refine examination_error (out := (k, x, i)) named ?_ failing
  simp only [runChecks_append, runChecks_cons, runChecks_nil, bind_ok_unit, bind_assoc,
    a.checkReserve_eq_runChecks, Bool.and_eq_true, Bool.not_eq_true', beq_iff_eq]

theorem State.examineYield_error (sender : h.sender = .chair c panel)
    (named : a.namedHandover loader context = runChecks [a.namedCheck l k] >>= fun _ => .ok (k, x))
    (failing : firstFailing (a.namedCheck l k :: [(x.kind == .request && x.releasing == some c,
      .notParty), (x.phase == .requested, .phase), (!x.suspended, .suspended)]) = some r) :
    a.examineYield h loader context = .error r := by
  simp only [State.examineYield, fromChair_of sender, ok_bind]
  refine examination_error (out := k) named ?_ failing
  simp only [runChecks_cons, runChecks_nil, bind_ok_unit, bind_assoc, Bool.and_eq_true,
    Bool.not_eq_true', beq_iff_eq]

theorem State.examineDecline_error (sender : h.sender = .chair c panel)
    (named : a.namedHandover loader context = runChecks [a.namedCheck l k] >>= fun _ => .ok (k, x))
    (failing : firstFailing (a.namedCheck l k :: [(x.kind == .offer && x.taking == c, .notParty),
      (x.phase == .offered, .phase)]) = some r) :
    a.examineDecline h loader context = .error r := by
  simp only [State.examineDecline, fromChair_of sender, ok_bind]
  refine examination_error (out := k) named ?_ failing
  simp only [runChecks_cons, runChecks_nil, bind_ok_unit, bind_assoc, Bool.and_eq_true, beq_iff_eq]

theorem State.examineRefuse_error (sender : h.sender = .chair c panel)
    (named : a.namedHandover loader context = runChecks [a.namedCheck l k] >>= fun _ => .ok (k, x))
    (failing : firstFailing (a.namedCheck l k :: [(x.kind == .request && x.releasing == some c,
      .notParty), (x.phase == .requested, .phase)]) = some r) :
    a.examineRefuse h loader context = .error r := by
  simp only [State.examineRefuse, fromChair_of sender, ok_bind]
  refine examination_error (out := k) named ?_ failing
  simp only [runChecks_cons, runChecks_nil, bind_ok_unit, bind_assoc, Bool.and_eq_true, beq_iff_eq]

theorem State.examineConfirm_error (sender : h.sender = .chair c panel)
    (named : a.namedHandover loader context = runChecks [a.namedCheck l k] >>= fun _ => .ok (k, x))
    (failing : firstFailing (a.namedCheck l k :: [(x.taking == c, .notParty),
      (x.phase == .confirming, .phase),
      (x.target == .supervised || (a.chair c).neutral, .notNeutral)]) = some r) :
    a.examineConfirm h loader context = .error r := by
  simp only [State.examineConfirm, fromChair_of sender, ok_bind]
  refine examination_error (out := (k, x)) named ?_ failing
  simp only [runChecks_cons, runChecks_nil, bind_ok_unit, bind_assoc, beq_iff_eq,
    a.checkNeutral_eq_runChecks]

theorem State.examineCancel_error {checks : List Check}
    (named : a.namedHandover loader context = runChecks [a.namedCheck l k] >>= fun _ => .ok (k, x))
    (party : runChecks checks = ensure (x.cancellableBy h.sender = true) .notParty)
    (failing : firstFailing (a.namedCheck l k :: checks) = some r) :
    a.examineCancel h loader context = .error r := by
  refine examination_error (out := k) named ?_ failing
  rw [party]

theorem State.examineSuspend_error (sender : h.sender = .supervisor)
    (named : a.namedHandover loader context = runChecks [a.namedCheck l k] >>= fun _ => .ok (k, x))
    (failing : firstFailing (a.namedCheck l k :: [(x.phase != .confirming, .phase),
      (!x.suspended, .suspended)]) = some r) :
    a.examineSuspend h loader context = .error r := by
  simp only [State.examineSuspend, fromSup_of sender, ok_bind]
  refine examination_error (out := (k, x)) named ?_ failing
  simp only [runChecks_cons, runChecks_nil, bind_ok_unit, bind_assoc, Bool.not_eq_true', bne_iff_ne]

theorem State.examineResume_error (sender : h.sender = .supervisor)
    (named : a.namedHandover loader context = runChecks [a.namedCheck l k] >>= fun _ => .ok (k, x))
    (failing : firstFailing (a.namedCheck l k :: [(x.suspended, .phase)]) = some r) :
    a.examineResume h loader context = .error r := by
  simp only [State.examineResume, fromSup_of sender, ok_bind]
  refine examination_error (out := (k, x)) named ?_ failing
  simp only [runChecks_cons, runChecks_nil, bind_ok_unit]

end

/-- Settles O32: one table for each command. -/
theorem answersAreExaminedInOrder : Obligations.AnswersAreExaminedInOrder := by
  unfold Obligations.AnswersAreExaminedInOrder
  intro s a h loader context slot l k i x cmd kind checks r ready heard hl hk hi enrolled known
    command failing
  have named := State.namedHandover_eq hl hk enrolled known
  rcases command with ⟨c, panel, sender, listed⟩ | ⟨sender, listed⟩
  · simp only [List.mem_cons, Prod.mk.injEq, List.not_mem_nil, or_false] at listed
    rcases listed with ⟨rfl, rfl, rfl⟩ | ⟨rfl, rfl, rfl⟩ | ⟨rfl, rfl, rfl⟩ | ⟨rfl, rfl, rfl⟩ |
      ⟨rfl, rfl, rfl⟩ | ⟨rfl, rfl, rfl⟩
    · exact State.exec_refused rfl ready heard rfl
        (State.examineAccept_error sender hl hk hi named failing)
    · exact State.exec_refused rfl ready heard rfl (State.examineYield_error sender named failing)
    · exact State.exec_refused rfl ready heard rfl (State.examineDecline_error sender named failing)
    · exact State.exec_refused rfl ready heard rfl (State.examineRefuse_error sender named failing)
    · exact State.exec_refused rfl ready heard rfl (State.examineConfirm_error sender named failing)
    · refine State.exec_refused rfl ready heard rfl (State.examineCancel_error named ?_ failing)
      rw [runChecks_cons, runChecks_nil, bind_ok_unit, sender]
      rfl
  · simp only [List.mem_cons, Prod.mk.injEq, List.not_mem_nil, or_false] at listed
    rcases listed with ⟨rfl, rfl, rfl⟩ | ⟨rfl, rfl, rfl⟩ | ⟨rfl, rfl, rfl⟩
    · refine State.exec_refused rfl ready heard rfl (State.examineCancel_error named ?_ failing)
      rw [sender]
      rfl
    · exact State.exec_refused rfl ready heard rfl (State.examineSuspend_error sender named failing)
    · exact State.exec_refused rfl ready heard rfl (State.examineResume_error sender named failing)

/-! ## SUSPEND and RESUME -/

/-- What SUSPEND writes before the parties are told (04 R82). -/
def State.suspendBegun (s : State) (k : CtxId) (x : Handover) : State :=
  (s.setHandover k (some { x with suspended := true })).settleRefresh x.loader

theorem State.suspendHandover_after (k : CtxId) (x : Handover) :
    (s.suspendBegun k x).sameBut [.queues] (s.suspendHandover k x) :=
  State.tellParties_sameBut_queues _ _ _

/-- A suspended handover out of CONFIRMING leaves drive lapse as the only hold condition. -/
theorem State.suspendBegun_loader {s : State} {l : LoaderId} {k : CtxId} {x : Handover}
    (flight : s.inFlight l k x) (phase : x.phase ≠ .confirming) :
    (s.suspendBegun k x).loader l =
      { s.loader l with
        holdRefresh := if (s.loader l).lapse = true then (s.loader l).holdRefresh else none } := by
  obtain ⟨transfer, named, used, rfl⟩ := flight
  have holds : ({ x with suspended := true } : Handover).holds = false := by
    simp [Handover.holds, phase]
  have condition : (s.setHandover k (some { x with suspended := true })).holdCondition x.loader =
      (s.loader x.loader).lapse := by
    simp [State.holdCondition, State.handoverOf, transfer, named, holds]
  rw [State.suspendBegun, State.settleRefresh_loader, condition]
  rfl

/-- What RESUME writes before the parties are told (04 R84). -/
def State.resumeBegun (s : State) (k : CtxId) (x : Handover) : State :=
  let b := s.setHandover k (some
    { x with
      suspended := false
      timer := if x.phase = .settling then ⟨1000 * s.params.settle, 0⟩ else x.timer })
  if x.phase = .settling then b.emitHold x.loader else b

theorem State.resumeHandover_after (k : CtxId) (x : Handover) :
    (s.resumeBegun k x).sameBut [.queues] (s.resumeHandover k x) :=
  State.tellParties_sameBut_queues _ _ _

theorem State.resumeBegun_sameBut (k : CtxId) (x : Handover) :
    s.sameBut [.handovers, .loaders, .fleet] (s.resumeBegun k x) := by
  unfold State.resumeBegun
  dsimp only
  split
  · exact ((s.setHandover_sameBut _ _).mono (by simp)).trans
      ((State.emitHold_sameBut _ _).mono (by simp))
  · exact (s.setHandover_sameBut _ _).mono (by simp)

theorem State.resumeBegun_handover (k : CtxId) (x : Handover) (n : CtxId) :
    (s.resumeBegun k x).handover n = if n = k then some
      { x with
        suspended := false
        timer := if x.phase = .settling then ⟨1000 * s.params.settle, 0⟩ else x.timer }
      else s.handover n := by
  have written : (s.resumeBegun k x).handover n = (s.setHandover k (some
      { x with
        suspended := false
        timer := if x.phase = .settling then ⟨1000 * s.params.settle, 0⟩
          else x.timer })).handover n := by
    unfold State.resumeBegun
    dsimp only
    split
    · exact (State.emitHold_sameBut _ _).handover n
    · rfl
  rw [written]
  by_cases same : n = k
  · rw [if_pos same, same, State.setHandover_handover_self]
  · rw [if_neg same, State.setHandover_handover_ne _ same]

theorem State.resumeBegun_loader_ne {k : CtxId} {x : Handover} {n : LoaderId} (ne : n ≠ x.loader) :
    (s.resumeBegun k x).loader n = s.loader n := by
  unfold State.resumeBegun
  dsimp only
  split
  · exact State.emitHold_loader_ne _ ne
  · rfl

theorem State.resumeBegun_loader {s : State} {l : LoaderId} {k : CtxId} {x : Handover}
    (flight : s.inFlight l k x) : (s.resumeBegun k x).loader l =
      if x.phase = .settling then { s.loader l with holdRefresh := some ⟨500, 0⟩ }
      else s.loader l := by
  obtain ⟨transfer, named, used, rfl⟩ := flight
  unfold State.resumeBegun
  dsimp only
  split
  · next settling =>
    have condition := State.holdCondition_of_phase (s := s.setHandover k (some
      { x with suspended := false, timer := ⟨1000 * s.params.settle, 0⟩ })) (l := x.loader) (k := k)
      ⟨transfer, named, State.setHandover_handover_self _ _ _, rfl⟩ rfl (.inl settling)
    rw [State.emitHold_loader, if_pos condition]
    rfl
  · rfl

theorem State.resumeBegun_fleet (k : CtxId) (x : Handover) : (s.resumeBegun k x).fleet =
    if x.phase = .settling then s.ordered x.loader .hold else s.fleet := by
  unfold State.resumeBegun
  dsimp only
  split
  · exact State.emitHold_fleet _ _
  · rfl

/-- Settles O33. -/
theorem suspendFreezesAndResumeGoesOn : Obligations.SuspendFreezesAndResumeGoesOn := by
  unfold Obligations.SuspendFreezesAndResumeGoesOn
  intro s a h loader context l k x sender ready heard hl hk flight
  have named := State.namedHandover_of hl hk flight
  obtain ⟨transfer, names, used, is_l⟩ := id flight
  refine ⟨fun phase running => ?_, fun suspended => ?_⟩
  · let b := a.ok h .suspend (.context k)
    have examine : a.examineSuspend h loader context = .ok (k, x) :=
      a.examineSuspend_ok.mpr ⟨fromSup_of sender, named, phase, running⟩
    have taken : a.takeSuspend h loader context = b.suspendHandover k x := by
      simp only [State.takeSuspend, State.examined, examine]
      rfl
    have next : exec (.suspend h loader context) s = .next (a.takeSuspend h loader context) :=
      exec_of_ready rfl ready heard
    rw [taken] at next
    have replied : a.sameBut [.supQueue] b := a.ok_sameBut_supQueue sender _ _
    have flight' : b.inFlight l k x :=
      ⟨by rw [replied.loader]; exact transfer, by rw [replied.loader]; exact names,
        by rw [replied.handover]; exact used, is_l⟩
    have told := b.suspendHandover_after k x
    have settled := State.settleRefresh_sameBut (b.setHandover k (some { x with suspended := true }))
      x.loader
    refine ⟨_, next, ?_, ?_, fun n ne => ?_, fun n ne => ?_, ?_, ?_⟩
    · rw [told.handover, State.suspendBegun, settled.handover, State.setHandover_handover_self]
    · rw [told.loader, State.suspendBegun_loader flight' phase, replied.loader]
    · rw [told.loader, State.suspendBegun, State.settleRefresh_loader_ne _ (is_l ▸ ne)]
      exact replied.loader n
    · rw [told.handover, State.suspendBegun, settled.handover, State.setHandover_handover_ne _ ne,
        replied.handover]
    · rw [told.supQueue, State.suspendBegun, settled.supQueue]
      exact congrArg State.supQueue (a.ok_sup_eq sender _ _)
    · exact ((replied.mono (by simp)).trans ((State.setHandover_sameBut _ _ _).mono (by simp))).trans
        ((settled.mono (by simp)).trans (told.mono (by simp)))
  · let b := a.ok h .resume (.context k)
    have examine : a.examineResume h loader context = .ok (k, x) :=
      a.examineResume_ok.mpr ⟨fromSup_of sender, named, suspended⟩
    have taken : a.takeResume h loader context = b.resumeHandover k x := by
      simp only [State.takeResume, State.examined, examine]
      rfl
    have next : exec (.resume h loader context) s = .next (a.takeResume h loader context) :=
      exec_of_ready rfl ready heard
    rw [taken] at next
    have replied : a.sameBut [.supQueue] b := a.ok_sameBut_supQueue sender _ _
    have flight' : b.inFlight l k x :=
      ⟨by rw [replied.loader]; exact transfer, by rw [replied.loader]; exact names,
        by rw [replied.handover]; exact used, is_l⟩
    have told := b.resumeHandover_after k x
    have begun := b.resumeBegun_sameBut k x
    refine ⟨_, next, ?_, ?_, ?_, fun n ne => ?_, fun n ne => ?_, ?_, ?_⟩
    · rw [told.handover, b.resumeBegun_handover, if_pos rfl, replied.params]
    · rw [told.loader, State.resumeBegun_loader flight', replied.loader]
    · rw [told.fleet, b.resumeBegun_fleet, is_l, replied.ordered, replied.fleet]
    · rw [told.loader, b.resumeBegun_loader_ne (is_l ▸ ne), replied.loader]
    · rw [told.handover, b.resumeBegun_handover, if_neg ne, replied.handover]
    · rw [told.supQueue, begun.supQueue]
      exact congrArg State.supQueue (a.ok_sup_eq sender _ _)
    · exact ((replied.mono (by simp)).trans (begun.mono (by simp))).trans (told.mono (by simp))

end Sys2Proof.Machine
end

section
/-! PROOF. What an abort tells and sends, and what it leaves of a loader that it halts or sends back
(04 R87 to R89, 06 R117). -/

namespace Sys2Proof.Machine

-- One theorem after another, so that the compile stays within its memory.
set_option Elab.async false

variable (s : State)

/-! ## The order that an abort builds -/

theorem State.revertTo_fleet (l : LoaderId) (prior : LoaderState) (x : Handover) :
    (s.revertTo l prior x).fleet =
      if prior = .parked ∨ prior = .halted then s.ordered l .hold else s.fleet := by
  have left : ∀ f, s.sameBut [.loaders] ((s.modLoader l f).stopLapse l) := fun f =>
    (s.modLoader_sameBut l f).trans (State.stopLapse_sameBut _ l)
  cases prior with
  | driven => exact (s.revertToDriven_sameBut l x.phase).fleet
  | parked => exact (State.emitHold_fleet _ l).trans ((left (·.left .parked)).ordered l .hold)
  | halted => exact (State.emitHold_fleet _ l).trans ((left _).ordered l .hold)
  | unenrolled => exact ((left _).trans (State.settleRefresh_sameBut _ l)).fleet
  | isolated => exact ((left _).trans (State.settleRefresh_sameBut _ l)).fleet
  | supervised => exact ((left _).trans (State.settleRefresh_sameBut _ l)).fleet
  | orphaned => exact ((left _).trans (State.settleRefresh_sameBut _ l)).fleet
  | transfer => exact ((left _).trans (State.settleRefresh_sameBut _ l)).fleet

/-- The order line after an abort: one HOLD for a loader that is halted or goes back to PARKED or
HALTED. -/
def State.endedFleet (s : State) (l : LoaderId) (f : Fate) (prior : LoaderState) : FleetLink :=
  match f with
  | .revert => if prior = .parked ∨ prior = .halted then s.ordered l .hold else s.fleet
  | .orphan => s.fleet
  | .halt _ => s.ordered l .hold

theorem State.abort_fleet {s : State} {k : CtxId} {x : Handover} (used : s.handover k = some x)
    (e : AbortEvent) :
    (s.abort k e).fleet = s.endedFleet x.loader (s.fateOf x e) (s.priorOf x.loader) := by
  have left := (s.abortBegun_afterLeave k x e).fleet
  have dropped := s.dropReservation_sameBut x
  rw [s.abort_eq used]
  cases fate : s.fateOf x e with
  | revert =>
    rw [fate] at left
    rw [State.endedFleet]
    dsimp only
    rw [(State.updateLamps_sameBut _).fleet, left, State.leaveTransfer, State.revertTo_fleet,
      dropped.ordered, dropped.fleet]
  | orphan =>
    rw [fate] at left
    exact (left.trans (State.orphan_sameBut _ _).fleet).trans dropped.fleet
  | halt cause =>
    have still : s.sameBut [.chairs, .watch, .queues, .supQueue, .handovers] (s.abortBegun k x e) := by
      have after := s.abortBegun_afterLeave k x e
      rw [fate] at after
      exact (dropped.mono (by simp)).trans (after.mono (by simp))
    exact (State.enterHaltedWith_fleet _ _ _ _).trans (still.ordered _ _)

/-! ## The notice that an abort sends -/

/-- The HANDOVER_ENDED of an abort (04 R88, step 4). -/
def State.endNotice (s : State) (k : CtxId) (x : Handover) (e : AbortEvent) : Frame :=
  ⟨0, .notice (.handoverEnded k x.loader x.kind (some e.cause)
    ((s.fateOf x e).stateAfter (s.priorOf x.loader)) x.taking x.slot x.target 0)⟩

theorem Frame.notice_newTo (q : OutQueue) (tag : Byte) (n : Notice) :
    q.newTo ⟨tag, .notice n⟩ := OutQueue.newTo_of_not_report rfl

theorem OutQueue.mem_join_of_room {q : OutQueue} {f : Frame} (fresh : q.newTo f)
    (room : q.frames.length < 32) : f ∈ (q.join f).frames := by
  rw [OutQueue.join_of_room fresh room]
  simp

theorem State.tellChair_queued {s : State} {c : ChairId} (up : s.isUp c = true) (n : Notice)
    (room : (s.queue (.chair c)).frames.length < 32) :
    (s.tellChair c n).queued (.chair c) ⟨0, .notice n⟩ := by
  have joined : s.tellChair c n = s.modQueue (.chair c) (·.join ⟨0, .notice n⟩) := by
    rw [State.tellChair, State.toChair, if_pos up]
  rw [joined, State.queued, State.modQueue_queue_self]
  exact OutQueue.mem_join_of_room (Frame.notice_newTo _ _ _) room

theorem State.tellSup_queued {s : State} (n : Notice)
    (room : (s.queue .supervisor).frames.length < 32) :
    (s.tellSup n).queued .supervisor ⟨0, .notice n⟩ := by
  rw [State.tellSup, State.queued, State.modQueue_queue_self]
  exact OutQueue.mem_join_of_room (Frame.notice_newTo _ _ _) room

theorem State.tells.length {s t : State} {a b : Nat} {p : Port} (h : s.tells a b t)
    (fits : (s.queue p).frames.length + noticeCount a b p ≤ 32) :
    (t.queue p).frames.length ≤ (s.queue p).frames.length + noticeCount a b p := (h p).length fits

/-- The link is the supervisor's, or that of a party of the handover whose link is UP. -/
def State.partyPort (s : State) (x : Handover) (p : Port) : Prop :=
  p = .supervisor ∨ ∃ c, p = .chair c ∧ s.isUp c = true ∧ (c = x.taking ∨ x.releasing = some c)

theorem State.abortBegun_queued {s : State} {k : CtxId} {x : Handover} {e : AbortEvent} {p : Port}
    (party : s.partyPort x p) (room : (s.queue p).frames.length ≤ 29) :
    (s.abortBegun k x e).queued p (s.endNotice k x e) := by
  let u := (s.dropReservation x).leaveTransfer x.loader (s.fateOf x e) (s.priorOf x.loader) x
  let n := Notice.handoverEnded k x.loader x.kind (some e.cause)
    ((s.fateOf x e).stateAfter (s.priorOf x.loader)) x.taking x.slot x.target 0
  have before : s.sameBut [.loaders, .chairs, .watch, .fleet] u :=
    ((s.dropReservation_sameBut x).mono (by simp)).trans
      ((State.leaveTransfer_sameBut _ _ _ _ _).mono (by simp))
  have freed := State.setHandover_sameBut ((u.tellParties x n).tellSup n) k none
  have told : ((u.tellParties x n).tellSup n).queued p (s.endNotice k x e) := by
    rcases party with rfl | ⟨c, rfl, up, rfl | releasing⟩
    · refine State.tellSup_queued n ?_
      have := (u.tellParties_tells x n).length (p := .supervisor) (by
        rw [before.queue]
        simp only [noticeCount]
        omega)
      rw [before.queue] at this
      simp only [noticeCount] at this
      omega
    · have first := u.tellChair?_tells x.releasing n
      have still := (u.tellChair?_sameBut_queues x.releasing n).link x.taking
      refine (State.tellSup_tells _ n).queued ?_ (State.tellChair_queued ?_ n ?_)
      · have := (u.tellParties_tells x n).length (p := .chair x.taking) (by
          rw [before.queue]
          simp only [noticeCount]
          omega)
        rw [before.queue] at this
        simp only [noticeCount] at this ⊢
        exact le_trans this (by omega)
      · rw [State.isUp, still, before.link]
        exact up
      · have := first.length (p := .chair x.taking) (by
          rw [before.queue]
          simp only [noticeCount]
          omega)
        rw [before.queue] at this
        simp only [noticeCount] at this
        omega
    · have joined : (u.tellChair? x.releasing n).queued (.chair c) ⟨0, .notice n⟩ := by
        rw [releasing]
        refine State.tellChair_queued ?_ n ?_
        · rw [State.isUp, before.link]
          exact up
        · rw [before.queue]
          omega
      have short := (u.tellChair?_tells x.releasing n).length (p := .chair c) (by
        rw [before.queue]
        simp only [noticeCount]
        omega)
      rw [before.queue] at short
      refine ((State.tellChair_tells _ x.taking n).trans (State.tellSup_tells _ n)).queued ?_ joined
      simp only [noticeCount] at short ⊢
      omega
  unfold State.queued
  rw [State.abortBegun, freed.queue]
  exact told

/-- The parties and the supervisor find the notice in their queues, whatever the abort does to the
loader. -/
theorem State.abort_queued {s : State} {k : CtxId} {x : Handover} {e : AbortEvent} {p : Port}
    (used : s.handover k = some x) (party : s.partyPort x p)
    (room : (s.queue p).frames.length ≤ 29) : (s.abort k e).queued p (s.endNotice k x e) := by
  have begun := State.abortBegun_queued (k := k) (e := e) party room
  have short := (s.abortBegun_tells k x e).length (p := p) (by cases p <;> simp only [noticeCount] <;>
    omega)
  rw [s.abort_eq used]
  cases s.fateOf x e with
  | halt cause =>
    refine (State.enterHaltedWith_tells _ _ _ _).queued ?_ begun
    cases p <;> simp only [noticeCount] at short ⊢ <;> omega
  | orphan => exact begun
  | revert => exact begun

theorem State.abortAlone_queued {s : State} {k : CtxId} {x : Handover} {e : AbortEvent} {p : Port}
    (used : s.handover k = some x) (party : s.partyPort x p)
    (room : (s.queue p).frames.length ≤ 29) :
    (s.abortAlone k e).queued p (s.endNotice k x e) := by
  have short := (s.abort_tells k e).length (p := p) (by cases p <;> simp only [noticeCount] <;> omega)
  rw [State.abortAlone_eq used]
  refine (State.checkZoneOf_tells _ _).queued ?_ (State.abort_queued used party room)
  cases p <;> simp only [noticeCount] at short ⊢ <;> omega

/-! ## The record that a halt leaves -/

theorem Loader.haltedBy_of (r : Loader) (cause : Cause) (sec : Word32) :
    r.haltedBy { r.halted (r.haltRecord cause none sec) with holdRefresh := some ⟨500, 0⟩ } cause
      sec := rfl

theorem Loader.haltedFrom_of (r : Loader) (x : Handover) (cause : Cause) (sec : Word32) :
    r.haltedFrom { r.halted (r.haltRecord cause (x.restored (r.prior.getD .parked)) sec) with
      holdRefresh := some ⟨500, 0⟩ } x.held cause sec := by
  unfold Loader.haltedFrom
  split
  · next h halted held =>
    simp only [halted, Option.getD_some, Handover.restored, if_true, held]
    rfl
  · next apart =>
    have fresh : x.restored (r.prior.getD .parked) = none := by
      unfold Handover.restored
      split
      · next halted =>
        cases held : x.held with
        | none => rfl
        | some h =>
          cases from_prior : r.prior with
          | none => rw [from_prior] at halted; exact absurd halted (by decide)
          | some p =>
            rw [from_prior, Option.getD_some] at halted
            exact absurd held (apart h (by rw [from_prior, halted]))
      · rfl
    rw [fresh]
    exact r.haltedBy_of cause sec

theorem State.enterHalted_emptied {l : LoaderId} {cause : Cause} {y : Holding}
    (holder : (s.loader l).holder = some y) :
    ((s.enterHalted l cause).slot y.chair y.slot).contents = .empty := by
  have held : (s.loader l).heldAt y.chair y.slot = true :=
    (Loader.heldAt_iff _ _ _).mpr ⟨y, holder, rfl, rfl⟩
  rw [State.enterHalted, s.enterHaltedWith_slot]
  simp only [held, if_true]

/-- What an abort that halts leaves of a loader in flight (04 R88, R89). -/
structure State.flightHalted (s t : State) (l : LoaderId) (k : CtxId) (x : Handover)
    (cause : Cause) : Prop where
  record : (s.loader l).haltedFrom (t.loader l) x.held cause s.seconds
  handover : t.handover k = none
  otherLoaders : s.otherLoaders l t
  otherHandovers : s.otherHandovers k t
  fleet : t.fleet = s.ordered l .hold
  holderSlot : ∀ y ∈ (s.loader l).holder, (t.slot y.chair y.slot).contents = .empty
  takingSlot : ∀ i ∈ x.slot, (t.slot x.taking i).contents = .empty

theorem State.abort_flightHalted {s : State} {l : LoaderId} {k : CtxId} {x : Handover}
    {e : AbortEvent} {cause : Cause} (flight : s.inFlight l k x)
    (fate : s.fateOf x e = .halt cause) : s.flightHalted (s.abort k e) l k x cause := by
  obtain ⟨-, -, used, rfl⟩ := flight
  refine ⟨?_, ?_, fun n ne => State.abort_loader_ne used e ne, fun n ne => ?_, ?_,
    fun y holder => ?_, fun i slot => ?_⟩
  · rw [State.abort_loader used, fate]
    exact Loader.haltedFrom_of _ _ _ _
  · rw [State.abort_handover used, if_pos rfl]
  · rw [State.abort_handover used, if_neg ne]
  · rw [State.abort_fleet used, fate]
    rfl
  · have held : (s.loader x.loader).heldAt y.chair y.slot = true :=
      (Loader.heldAt_iff _ _ _).mpr ⟨y, holder, rfl, rfl⟩
    rw [State.abort_slot used, fate, held]
    simp only [Fate.isHalt, Bool.and_self, Bool.or_true, if_true]
  · have reserved : x.reserves x.taking i = true := (x.reserves_iff _ _).mpr ⟨rfl, slot⟩
    rw [State.abort_slot used, reserved]
    simp only [Bool.true_or, if_true]

theorem State.flightHalted.before {ps : List Part} {s t u : State} {l : LoaderId} {k : CtxId}
    {x : Handover} {cause : Cause} (h : s.flightHalted t l k x cause) (frame : t.sameBut ps u)
    (loaders : Part.loaders ∉ ps := by decide) (handovers : Part.handovers ∉ ps := by decide)
    (fleet : Part.fleet ∉ ps := by decide) (chairs : Part.chairs ∉ ps := by decide) :
    s.flightHalted u l k x cause where
  record := by rw [frame.loader _ loaders]; exact h.record
  handover := by rw [frame.handover _ handovers]; exact h.handover
  otherLoaders n ne := by rw [frame.loader _ loaders]; exact h.otherLoaders n ne
  otherHandovers n ne := by rw [frame.handover _ handovers]; exact h.otherHandovers n ne
  fleet := by rw [frame.fleet fleet]; exact h.fleet
  holderSlot y hy := by rw [frame.slot _ _ chairs]; exact h.holderSlot y hy
  takingSlot i hi := by rw [frame.slot _ _ chairs]; exact h.takingSlot i hi

/-! ## The timers of a loader -/

theorem State.haltLoader_of_held {l : LoaderId} {cause : Cause} {e : AbortEvent}
    (held : (s.loader l).state ∈ [LoaderState.driven, .supervised, .orphaned]) :
    s.haltLoader l cause e = s.enterHalted l cause := by
  unfold State.haltLoader
  simp only [List.mem_cons, List.not_mem_nil, or_false] at held
  rcases held with e | e | e <;> rw [e]

theorem State.haltLoader_of_flight {s : State} {l : LoaderId} {k : CtxId} {x : Handover}
    {cause : Cause} {e : AbortEvent} (flight : s.inFlight l k x) :
    s.haltLoader l cause e = s.abort k e := by
  obtain ⟨transfer, named, -, -⟩ := flight
  simp only [State.haltLoader, transfer, named]

theorem State.haltLoader_of_calm {l : LoaderId} {cause : Cause} {e : AbortEvent}
    (calm : (s.loader l).hasAuthority = false) : s.haltLoader l cause e = s := by
  unfold State.haltLoader
  unfold Loader.hasAuthority at calm
  cases state : (s.loader l).state <;> simp_all [LoaderState.hasAuthority]

theorem Loader.held_of_authority {r : Loader} (authority : r.hasAuthority = true)
    (out : r.state ≠ .transfer) : r.state ∈ [LoaderState.driven, .supervised, .orphaned] := by
  unfold Loader.hasAuthority at authority
  cases state : r.state <;> simp_all [LoaderState.hasAuthority]

theorem State.enterHalted_fleet (l : LoaderId) (cause : Cause) :
    (s.enterHalted l cause).fleet = s.ordered l .hold := s.enterHaltedWith_fleet l cause none

/-- Settles O34. -/
theorem graceExpiryHaltsOrphan : Obligations.GraceExpiryHaltsOrphan := by
  unfold Obligations.GraceExpiryHaltsOrphan
  intro s l released graced
  obtain ⟨timer, grace⟩ := Option.isSome_iff_exists.mp graced
  have next : exec (.orphanGraceExpiry l) s =
      .next ((s.haltLoader l .chairLink .graceExpired).checkZoneOf l) := by
    have gate : exec (.orphanGraceExpiry l) s = execOrphanGraceExpiry l s := rfl
    rw [gate, execOrphanGraceExpiry, s.running_of _ released, State.expireGrace, grace]
  refine ⟨fun orphaned => ?_, fun k x flight from_orphaned => ?_⟩
  · rw [s.haltLoader_of_held (by simp [orphaned])] at next
    have checked := State.checkZoneOf_sameBut (s.enterHalted l .chairLink) l
    refine ⟨_, next, ?_, fun n ne => ?_, ?_, fun y holder => ?_, ?_⟩
    · rw [checked.loader]
      exact s.enterHalted_loader l .chairLink
    · rw [checked.loader, s.enterHalted_loader_ne _ ne]
    · rw [checked.fleet, s.enterHalted_fleet]
    · rw [checked.slot]
      exact s.enterHalted_emptied holder
    · exact ((s.enterHalted_sameBut l .chairLink).mono (by simp)).trans (checked.mono (by simp))
  · rw [State.haltLoader_of_flight flight] at next
    have halted := (State.abort_flightHalted flight (e := .graceExpired) (cause := .chairLink)
      rfl).before (State.checkZoneOf_sameBut (s.abort k .graceExpired) l)
    have record := halted.record
    obtain ⟨-, -, used, rfl⟩ := flight
    simp only [Loader.haltedFrom, from_orphaned] at record
    refine ⟨_, next, record, halted.handover, halted.otherLoaders, halted.otherHandovers,
      halted.fleet, fun empty => ⟨x.target, ?_⟩⟩
    rw [← State.abortAlone_eq used]
    exact State.abortAlone_queued used (.inl rfl) (by
      have none_queued : (s.queue .supervisor).frames = [] := empty
      rw [none_queued]
      simp)

/-- A silence expiry, in the state that marks the loader (01 R18). -/
theorem State.expireSilence_eq {l : LoaderId} (enrolled : (s.loader l).state ≠ .unenrolled)
    (heard : (s.loader l).radioSilent = false) : s.expireSilence l =
      (((s.modLoader l fun r =>
        { r with radioSilent := true, silence := r.silence.reach (s.silenceThreshold l) }).haltLoader
          l .radio .radio).checkZoneOf l) := by
  simp only [State.expireSilence, enrolled, heard, Bool.false_eq_true, or_self, if_false]

/-- Settles O39. -/
theorem loaderTimersExpire : Obligations.LoaderTimersExpire := by
  unfold Obligations.LoaderTimersExpire
  intro s l released
  have silence : exec (.silenceTimerExpiry l) s = .next (s.expireSilence l) := by
    have gate : exec (.silenceTimerExpiry l) s = execSilenceTimerExpiry l s := rfl
    rw [gate, execSilenceTimerExpiry, s.running_of _ released]
  have lapse : exec (.lapseTimerExpiry l) s = .next (s.expireLapse l) := by
    have gate : exec (.lapseTimerExpiry l) s = execLapseTimerExpiry l s := rfl
    rw [gate, execLapseTimerExpiry, s.running_of _ released]
  have refresh : exec (.holdRefreshExpiry l) s = .next (s.expireRefresh l) := by
    have gate : exec (.holdRefreshExpiry l) s = execHoldRefreshExpiry l s := rfl
    rw [gate, execHoldRefreshExpiry, s.running_of _ released]
  let marked := s.modLoader l fun r =>
    { r with radioSilent := true, silence := r.silence.reach (s.silenceThreshold l) }
  have marked_frame : s.sameBut [.loaders] marked := s.modLoader_sameBut l _
  have record : marked.loader l =
      { s.loader l with
        radioSilent := true, silence := (s.loader l).silence.reach (s.silenceThreshold l) } :=
    s.modLoader_loader_self l _
  have others : s.otherLoaders l marked := fun n ne => s.modLoader_loader_ne (h := ne) _
  refine ⟨fun silent => ?_, fun heard out => ?_, fun k x heard flight => ?_, fun runs => ?_,
    fun runs condition => ?_, fun runs held clear => ?_⟩
  · rw [silence, State.expireSilence, if_pos (.inr silent)]
  · simp only [List.mem_cons, List.not_mem_nil, or_false, not_or] at out
    obtain ⟨enrolled, not_transfer⟩ := out
    rw [s.expireSilence_eq enrolled heard] at silence
    have checked := State.checkZoneOf_sameBut (marked.haltLoader l .radio .radio) l
    by_cases authority : (s.loader l).hasAuthority = true
    · have held : (marked.loader l).state ∈ [LoaderState.driven, .supervised, .orphaned] := by
        rw [record]
        exact Loader.held_of_authority authority not_transfer
      have halted := marked.haltLoader_of_held (cause := .radio) (e := .radio) held
      rw [halted] at checked
      rw [halted] at silence
      have haltedBy := marked.enterHalted_loader l .radio
      refine ⟨_, silence, ?_, fun n ne => ?_, ?_⟩
      · rw [if_pos authority, checked.loader, checked.fleet, marked.enterHalted_fleet,
          marked_frame.ordered]
        refine ⟨?_, rfl, fun y holder => ?_⟩
        · rw [haltedBy, record]
          rfl
        · rw [checked.slot]
          exact marked.enterHalted_emptied (by rw [record]; exact holder)
      · rw [checked.loader, marked.enterHalted_loader_ne _ ne, others n ne]
      · exact (marked_frame.mono (by simp)).trans
          (((marked.enterHalted_sameBut l .radio).mono (by simp)).trans (checked.mono (by simp)))
    · have calm : (marked.loader l).hasAuthority = false := by
        rw [record]
        exact Bool.eq_false_iff.mpr authority
      have halted := marked.haltLoader_of_calm (cause := .radio) (e := .radio) calm
      rw [halted] at checked
      rw [halted] at silence
      refine ⟨_, silence, ?_, fun n ne => ?_, (marked_frame.mono (by simp)).trans
        (checked.mono (by simp))⟩
      · rw [if_neg authority, checked.loader, checked.fleet, record]
        exact ⟨rfl, rfl⟩
      · rw [checked.loader, others n ne]
  · have enrolled : (s.loader l).state ≠ .unenrolled := by
      rw [flight.1]
      decide
    have flight' : marked.inFlight l k x :=
      ⟨by rw [record]; exact flight.1, by rw [record]; exact flight.2.1,
        by rw [marked_frame.handover]; exact flight.2.2.1, flight.2.2.2⟩
    rw [s.expireSilence_eq enrolled heard, State.haltLoader_of_flight flight'] at silence
    have checked := State.checkZoneOf_sameBut (marked.abort k .radio) l
    have halted := (State.abort_flightHalted flight' (e := .radio) (cause := .radio) rfl).before
      checked
    have kept : (((marked.abort k .radio).checkZoneOf l).loader l).silence =
        (marked.loader l).silence := by
      rw [checked.loader]
      obtain ⟨-, -, used, rfl⟩ := flight'
      rw [State.abort_loader used]
      rfl
    refine ⟨_, silence, ?_, halted.handover, ?_, ?_, halted.takingSlot, fun empty => ⟨x.target, ?_⟩,
      fun n ne => ?_, fun n ne => ?_, ?_⟩
    · have from_marked := halted.record
      rw [record] at from_marked kept
      rw [kept]
      exact from_marked
    · rw [halted.fleet, marked_frame.ordered]
    · intro y holder
      exact halted.holderSlot y (by rw [record]; exact holder)
    · obtain ⟨-, -, used, rfl⟩ := flight'
      rw [← State.abortAlone_eq used]
      exact State.abortAlone_queued used (.inl rfl) (by
        have none_queued : (marked.queue .supervisor).frames = [] := empty
        rw [none_queued]
        simp)
    · rw [halted.otherLoaders n ne, others n ne]
    · rw [halted.otherHandovers n ne, marked_frame.handover]
    · exact (marked_frame.mono (by simp)).trans
        (((marked.abort_sameBut k .radio).mono (by simp [haltParts])).trans (checked.mono (by simp)))
  · obtain ⟨timer, running⟩ := Option.isSome_iff_exists.mp runs
    rw [lapse, State.expireLapse, running]
    refine congrArg Host.Outcome.next ?_
    let begun := s.modLoader l fun r => { r with lapse := true, lapseTimer := none }
    have begun_frame : s.sameBut [.loaders] begun := s.modLoader_sameBut l _
    have begun_record : begun.loader l = { s.loader l with lapse := true, lapseTimer := none } :=
      s.modLoader_loader_self l _
    have holds : begun.holdCondition l = true := by
      have lapsed : (begun.loader l).lapse = true := by rw [begun_record]
      unfold State.holdCondition
      cases (begun.loader l).state <;> simp [lapsed]
    refine State.eq_of_loader' ((begun_frame.mono (by simp)).trans (begun.emitHold_sameBut l))
      (fun n ne => ?_) ?_ ?_
    · rw [begun.emitHold_loader_ne ne, s.modLoader_loader_ne (h := ne) _]
    · rw [begun.emitHold_loader, if_pos holds, begun_record]
    · rw [begun.emitHold_fleet, begun_frame.ordered]
  · obtain ⟨timer, running⟩ := Option.isSome_iff_exists.mp runs
    have holds : s.holdCondition l = true := by
      rcases condition with state | lapsed | ⟨k, x, flight, phase⟩
      · simp only [List.mem_cons, List.not_mem_nil, or_false] at state
        rcases state with e | e | e <;> simp [State.holdCondition, e]
      · unfold State.holdCondition
        cases (s.loader l).state <;> simp [lapsed]
      · obtain ⟨transfer, named, used, -⟩ := flight
        have holding : x.holds = true := by
          rcases phase with e | ⟨e, running⟩
          · simp [Handover.holds, e]
          · simp [Handover.holds, e, running]
        simp [State.holdCondition, transfer, State.handoverOf, named, used, holding]
    rw [refresh, State.expireRefresh, running]
    simp only [if_pos holds]
    refine congrArg Host.Outcome.next (State.eq_of_loader' (s.emitHold_sameBut l)
      (fun n ne => s.emitHold_loader_ne ne) ?_ (s.emitHold_fleet l))
    rw [s.emitHold_loader, if_pos holds]
  · obtain ⟨timer, running⟩ := Option.isSome_iff_exists.mp runs
    have idle : s.holdCondition l = false := by
      rw [s.holdCondition_of_ne_transfer]
      · simp only [List.mem_cons, List.not_mem_nil, or_false] at held
        rcases held with e | e | e <;> simp [e, clear]
      · rintro e
        rw [e] at held
        exact absurd held (by decide)
    rw [refresh, State.expireRefresh, running]
    simp only [idle, Bool.false_eq_true, if_false]
    rw [State.settleRefresh, idle]
    rfl

end Sys2Proof.Machine
end

section
/-! PROOF. The aborts that send a loader back to its prior state (04 R73, R74, R80, R81, R87 to
R89). -/

namespace Sys2Proof.Machine

-- One theorem after another, so that the compile stays within its memory.
set_option Elab.async false

variable (s : State)

/-! ## The commands that abort and revert -/

theorem State.examineDecline_of {s : State} {h : Header} {loader context : Byte} {k : CtxId}
    {x : Handover} {panel : Byte} (sender : h.sender = .chair x.taking panel)
    (named : s.namedHandover loader context = .ok (k, x)) (offer : x.kind = .offer)
    (phase : x.phase = .offered) : s.examineDecline h loader context = .ok k := by
  simp only [State.examineDecline, fromChair_of sender, named, ok_bind, offer, phase, and_self, ensure,
    if_true]

theorem State.examineRefuse_of {s : State} {h : Header} {loader context : Byte} {k : CtxId}
    {x : Handover} {c : ChairId} {panel : Byte} (sender : h.sender = .chair c panel)
    (named : s.namedHandover loader context = .ok (k, x)) (request : x.kind = .request)
    (releasing : x.releasing = some c) (phase : x.phase = .requested) :
    s.examineRefuse h loader context = .ok k := by
  simp only [State.examineRefuse, fromChair_of sender, named, ok_bind, request, releasing, phase,
    and_self, ensure, if_true]

theorem State.examineCancel_of {s : State} {h : Header} {loader context : Byte} {k : CtxId}
    {x : Handover} (named : s.namedHandover loader context = .ok (k, x))
    (may : x.cancellableBy h.sender = true) : s.examineCancel h loader context = .ok k := by
  simp only [State.examineCancel, named, ok_bind, may, ensure, if_true]

/-- The command aborts the handover with an event that reverts its loader, with at most a reply
before it. -/
def State.revertsBy (s a : State) (cmd : Instr) (k : CtxId) (cause : Cause) : Prop :=
  ∃ b e, exec cmd s = .next (b.abortAlone k e) ∧ a.sameBut [.queues, .supQueue] b ∧
    (∀ p, (a.queue p).frames.length < 29 → (b.queue p).frames.length ≤ 29) ∧ e.cause = cause ∧
    ∀ held grace, e.fate held grace = .revert

theorem State.answer_length (h : Header) (k : ReqKind) (r : Reply) (p : Port)
    (room : (s.queue p).frames.length < 29) :
    ((s.answer h k r).queue p).frames.length ≤ 29 := by
  by_cases own : p = h.sender.port
  · subst own
    rw [s.answer_queue, OutQueue.join_of_room (OutQueue.newTo_of_not_report rfl) (by omega)]
    simpa using room
  · rw [State.answer, State.modQueue_queue_ne _ own]
    omega

theorem State.revertsBy_request {s a : State} {h : Header} {cmd : Instr} {kind : ReqKind}
    {k : CtxId} {e : AbortEvent} (header : cmd.header? = some h) (ready : s.ready h)
    (heard : a = s.heard h.sender)
    (taken : cmd.taken false a = (a.ok h kind (.context k)).abortAlone k e)
    (reverts : ∀ held grace, e.fate held grace = .revert) : s.revertsBy a cmd k e.cause :=
  ⟨a.ok h kind (.context k), e, by rw [exec_of_ready header ready heard, taken],
    a.ok_sameBut h kind _, a.answer_length h kind _, rfl, reverts⟩

theorem State.revertsBy_expiry {s : State} {cmd : Instr} {k : CtxId} {e : AbortEvent}
    (aborts : exec cmd s = .next (s.abortAlone k e))
    (reverts : ∀ held grace, e.fate held grace = .revert) : s.revertsBy s cmd k e.cause :=
  ⟨s, e, aborts, .refl _ _, fun _ room => by omega, rfl, reverts⟩

theorem State.expirePhase_of {s : State} {k : CtxId} {x : Handover} {phases : List Phase}
    {e : AbortEvent} (used : s.handover k = some x) (phase : x.phase ∈ phases)
    (running : x.suspended = false) : s.expirePhase k phases e = s.abortAlone k e := by
  have due : (phases.contains x.phase && !x.suspended) = true := by
    simp [phase, running]
  simp only [State.expirePhase, used, due, if_true]

/-! ## What the abort leaves -/

theorem State.abort_slot_revert {s : State} {k : CtxId} {x : Handover} {e : AbortEvent}
    {prior : LoaderState} (used : s.handover k = some x) (fate : s.fateOf x e = .revert)
    (from_prior : (s.loader x.loader).prior = some prior) (c : ChairId) (i : SlotId) :
    (s.abort k e).slot c i =
      { s.slot c i with
        contents := if c = x.taking ∧ x.slot = some i then .empty else (s.slot c i).contents
        lastCount := if prior = .driven ∧ x.phase = .confirming ∧
            (s.loader x.loader).holder.map (fun y => (y.chair, y.slot)) = some (c, i) then none
          else (s.slot c i).lastCount } := by
  have prior_eq : s.priorOf x.loader = prior := by
    rw [State.priorOf, from_prior]
    rfl
  have at_holder : (s.loader x.loader).heldAt c i = true ↔
      (s.loader x.loader).holder.map (fun y => (y.chair, y.slot)) = some (c, i) := by
    rw [Loader.heldAt_iff]
    simp
  rw [State.abort_slot used, fate, prior_eq]
  simp only [Fate.isHalt, Bool.false_and, Bool.or_false, Handover.reserves_iff, eq_comm (a := c),
    Fate.resetsCount, Bool.and_eq_true, beq_iff_eq, at_holder, and_assoc, true_and]

/-- What a reverting abort leaves of the record, the slots, the order line and the contexts. -/
structure State.flightReverted (s t : State) (l : LoaderId) (k : CtxId) (x : Handover)
    (prior : LoaderState) : Prop where
  record : t.loader l = (s.loader l).reverted prior x s.params.driveLapse
  handover : t.handover k = none
  otherLoaders : s.otherLoaders l t
  otherHandovers : s.otherHandovers k t
  fleet : t.fleet = if prior = .parked ∨ prior = .halted then s.ordered l .hold else s.fleet
  watch : t.watch = s.watch.unlock x.taking l
  chair : ∀ c, t.chair c = { s.chair c with slots := (t.chair c).slots }
  slot : ∀ c i, t.slot c i =
    { s.slot c i with
      contents := if c = x.taking ∧ x.slot = some i then .empty else (s.slot c i).contents
      lastCount := if prior = .driven ∧ x.phase = .confirming ∧
          (s.loader l).holder.map (fun y => (y.chair, y.slot)) = some (c, i) then none
        else (s.slot c i).lastCount }

theorem State.abort_flightReverted {s : State} {l : LoaderId} {k : CtxId} {x : Handover}
    {e : AbortEvent} {prior : LoaderState} (flight : s.inFlight l k x)
    (from_prior : (s.loader l).prior = some prior) (fate : s.fateOf x e = .revert) :
    s.flightReverted (s.abort k e) l k x prior := by
  obtain ⟨-, -, used, rfl⟩ := flight
  have prior_eq : s.priorOf x.loader = prior := by
    rw [State.priorOf, from_prior]
    rfl
  refine ⟨State.abort_loader_revert used fate from_prior, ?_,
    fun n ne => State.abort_loader_ne used e ne, fun n ne => ?_, ?_, ?_, s.abort_slotsOnly k e,
    State.abort_slot_revert used fate from_prior⟩
  · rw [State.abort_handover used, if_pos rfl]
  · rw [State.abort_handover used, if_neg ne]
  · rw [State.abort_fleet used, fate, prior_eq]
    rfl
  · rw [State.abort_watch used, fate]
    rfl

/-- Frames before and behind a reverting abort. -/
theorem State.flightReverted.between {a b t u : State} {l : LoaderId} {k : CtxId} {x : Handover}
    {prior : LoaderState} (h : b.flightReverted t l k x prior)
    (before : a.sameBut [.queues, .supQueue] b)
    (after : t.sameBut [.zones, .closures, .queues, .supQueue] u) :
    a.flightReverted u l k x prior where
  record := by rw [after.loader, h.record, before.loader, before.params]
  handover := by rw [after.handover, h.handover]
  otherLoaders n ne := by rw [after.loader, h.otherLoaders n ne, before.loader]
  otherHandovers n ne := by rw [after.handover, h.otherHandovers n ne, before.handover]
  fleet := by rw [after.fleet, h.fleet, before.ordered, before.fleet]
  watch := by rw [after.watch, h.watch, before.watch]
  chair c := by rw [after.chair, h.chair c, before.chair]
  slot c i := by rw [after.slot, h.slot c i, before.slot, before.loader]

theorem State.sameBut.inFlight {ps : List Part} {s t : State} {l : LoaderId} {k : CtxId}
    {x : Handover} (frame : s.sameBut ps t) (flight : s.inFlight l k x)
    (loaders : Part.loaders ∉ ps := by decide) (handovers : Part.handovers ∉ ps := by decide) :
    t.inFlight l k x := by
  obtain ⟨transfer, named, used, is_l⟩ := flight
  exact ⟨by rw [frame.loader _ loaders]; exact transfer, by rw [frame.loader _ loaders]; exact named,
    by rw [frame.handover _ handovers]; exact used, is_l⟩

/-- A record that has gone back, by the state it went back to (04 R89). -/
theorem Loader.reverted_rest {r : Loader} {prior : LoaderState} {x : Handover} {lapse : Nat}
    (start : prior ∈ [LoaderState.driven, .supervised, .orphaned, .parked, .halted]) :
    (r.reverted prior x lapse).prior = none ∧ (r.reverted prior x lapse).context = none ∧
    (r.reverted prior x lapse).position = r.position ∧ (r.reverted prior x lapse).grace = r.grace ∧
    (prior = .halted → (r.reverted prior x lapse).halt = x.held) ∧
    (prior ∈ [LoaderState.parked, .halted] →
      (r.reverted prior x lapse).holdRefresh = some ⟨500, 0⟩) ∧
    (prior = .driven → x.phase = .confirming → (r.reverted prior x lapse).lapse = false ∧
      (r.reverted prior x lapse).lapseTimer = some ⟨lapse, 0⟩) ∧
    (prior = .driven → x.phase ≠ .confirming → (r.reverted prior x lapse).lapse = r.lapse ∧
      (r.reverted prior x lapse).lapseTimer = r.lapseTimer) ∧
    (prior ≠ .driven → (r.reverted prior x lapse).lapse = false ∧
      (r.reverted prior x lapse).lapseTimer = none) := by
  simp only [List.mem_cons, List.not_mem_nil, or_false] at start
  rcases start with rfl | rfl | rfl | rfl | rfl
  · by_cases confirming : x.phase = .confirming <;> simp [Loader.reverted, Loader.left, confirming]
  all_goals simp [Loader.reverted, Loader.left]

/-- Settles O29: each command aborts with an event that reverts, and the abort leaves the rest. -/
theorem revertingAbortsRestoreLoader : Obligations.RevertingAbortsRestoreLoader := by
  unfold Obligations.RevertingAbortsRestoreLoader
  intro s a l k x prior cmd cause command flight from_prior start
  have reverts : s.revertsBy a cmd k cause := by
    rcases command with ⟨h, loader, context, hl, hk, ready, heard, request⟩ | ⟨released, rfl, expiry⟩
    · have named := State.namedHandover_of hl hk flight
      rcases request with ⟨panel, sender, rfl, offer, phase, rfl⟩ |
        ⟨c, panel, sender, releasing, rfl, kind, phase, rfl⟩ | ⟨party, rfl, rfl⟩
      · exact State.revertsBy_request (e := .declined) rfl ready heard
          (a.examined_ok (State.examineDecline_of sender named offer phase)) fun _ _ => rfl
      · exact State.revertsBy_request (e := .refused) rfl ready heard
          (a.examined_ok (State.examineRefuse_of sender named kind releasing phase)) fun _ _ => rfl
      · have may : x.cancellableBy h.sender = true := by
          rcases party with sender | ⟨c, panel, sender, mine⟩
          · rw [sender]
            rfl
          · rw [sender]
            simpa [Handover.cancellableBy] using mine
        exact State.revertsBy_request (e := .cancelled) rfl ready heard
          (a.examined_ok (State.examineCancel_of named may)) fun _ _ => rfl
    · have used := flight.2.2.1
      rcases expiry with ⟨rfl, running, phase, rfl⟩ | ⟨rfl, running, phase, rfl⟩ |
        ⟨rfl, running, phase, rfl⟩ | ⟨rfl, rfl⟩
      · refine State.revertsBy_expiry (e := .answerTimeout) ?_ fun _ _ => rfl
        rw [← State.expirePhase_of used phase running, ← a.running_of
          (fun s => s.expirePhase k [.offered, .requested] .answerTimeout) released]
        rfl
      · refine State.revertsBy_expiry (e := .settleTimeout) ?_ fun _ _ => rfl
        rw [← State.expirePhase_of used (List.mem_singleton.mpr phase) running, ← a.running_of
          (fun s => s.expirePhase k [.settling] .settleTimeout) released]
        rfl
      · refine State.revertsBy_expiry (e := .confirmTimeout) ?_ fun _ _ => rfl
        rw [← State.expirePhase_of used (List.mem_singleton.mpr phase) running, ← a.running_of
          (fun s => s.expirePhase k [.confirming] .confirmTimeout) released]
        rfl
      · refine State.revertsBy_expiry (e := .watchdog) ?_ fun _ _ => rfl
        rw [← a.running_of (fun s => s.abortAlone k .watchdog) released]
        rfl
  obtain ⟨b, e, next, replied, room, rfl, fate⟩ := reverts
  have flight' := replied.inFlight flight
  have used := flight'.2.2.1
  have is_l := flight'.2.2.2
  have from_prior' : (b.loader l).prior = some prior := by rw [replied.loader]; exact from_prior
  have checked := State.checkZoneOf_sameBut (b.abort k e) l
  have ended : b.abortAlone k e = (b.abort k e).checkZoneOf l := by
    rw [State.abortAlone_eq used, is_l]
  have reverted := (State.abort_flightReverted flight' from_prior' (fate _ _)).between replied checked
  obtain ⟨out, context, position, grace, halt, refresh, confirmed, kept, idle⟩ :=
    Loader.reverted_rest (r := a.loader l) (x := x) (lapse := a.params.driveLapse) start
  rw [← reverted.record] at out context position grace halt refresh confirmed kept idle
  refine ⟨_, next, ?_⟩
  rw [ended]
  refine ⟨reverted.handover, by rw [reverted.record, Loader.reverted_state], out, context,
    by rw [reverted.record, Loader.reverted_holder], by rw [reverted.record, Loader.reverted_epoch],
    position, grace, halt, fun back => ⟨refresh back, ?_⟩, fun away => ?_, confirmed, kept, idle,
    reverted.chair, reverted.slot, ⟨x.target, fun p party short => ?_⟩, reverted.watch,
    reverted.otherLoaders, reverted.otherHandovers, ?_⟩
  · rw [reverted.fleet, if_pos (by simpa using back)]
  · rw [reverted.fleet, if_neg (by simpa using away)]
  · have party' : b.partyPort x p := by
      rcases party with rfl | ⟨c, rfl, up, mine⟩
      · exact .inl rfl
      · exact .inr ⟨c, rfl, by rw [State.isUp, replied.link]; exact beq_iff_eq.mpr up, mine⟩
    have queued := State.abortAlone_queued (e := e) used party' (room p short)
    have stands : b.endNotice k x e = ⟨0, .notice
        (.handoverEnded k l x.kind (some e.cause) prior x.taking x.slot x.target 0)⟩ := by
      have reverting : b.fateOf x e = .revert := fate _ _
      rw [State.endNotice, reverting, State.priorOf, is_l, from_prior']
      rfl
    rw [ended, stands] at queued
    exact queued
  · exact (replied.mono (by simp)).trans (((b.abort_sameBut k e).mono (by simp [haltParts])).trans
      (checked.mono (by simp)))

end Sys2Proof.Machine
end

section
/-! PROOF. What a list of aborts, and a list of halts, leaves of each loader (04 R88, 06 R117, R119,
R127, R131). -/

namespace Sys2Proof.Machine

-- One theorem after another, so that the compile stays within its memory.
set_option Elab.async false

variable (s : State)

/-! ## The record that one abort leaves -/

/-- The record that an abort of a handover leaves its loader. -/
def State.abortRecord (s : State) (x : Handover) (e : AbortEvent) : Loader :=
  match s.fateOf x e with
  | .halt cause =>
    { (s.loader x.loader).halted ((s.loader x.loader).haltRecord cause
        (x.restored (s.priorOf x.loader)) s.seconds) with holdRefresh := some ⟨500, 0⟩ }
  | f => f.leave (s.loader x.loader) (s.priorOf x.loader) x s.params

theorem State.abort_loader_own {s : State} {k : CtxId} {x : Handover}
    (used : s.handover k = some x) (e : AbortEvent) :
    (s.abort k e).loader x.loader = s.abortRecord x e := State.abort_loader used e

theorem State.abortRecord_congr {s t : State} {x : Handover} (e : AbortEvent)
    (loader : t.loader x.loader = s.loader x.loader) (params : t.params = s.params)
    (seconds : t.seconds = s.seconds) : t.abortRecord x e = s.abortRecord x e := by
  simp only [State.abortRecord, State.fateOf, State.priorOf, loader, params, seconds]

theorem State.abortRecord_revert {s : State} {x : Handover} {e : AbortEvent} {prior : LoaderState}
    (fate : s.fateOf x e = .revert) (from_prior : (s.loader x.loader).prior = some prior) :
    s.abortRecord x e = (s.loader x.loader).reverted prior x s.params.driveLapse := by
  rw [State.abortRecord, fate]
  simp only [Fate.leave, State.priorOf, from_prior, Option.getD_some]

theorem State.abortRecord_orphan {s : State} {x : Handover} {e : AbortEvent}
    (fate : s.fateOf x e = .orphan) :
    s.abortRecord x e = (s.loader x.loader).orphaned (1000 * s.params.orphanGrace) := by
  rw [State.abortRecord, fate]
  rfl

theorem State.abortRecord_halt {s : State} {x : Handover} {e : AbortEvent} {cause : Cause}
    (fate : s.fateOf x e = .halt cause) :
    (s.loader x.loader).haltedFrom (s.abortRecord x e) x.held cause s.seconds := by
  rw [State.abortRecord, fate]
  exact Loader.haltedFrom_of _ _ _ _

/-- An abort leaves every loader that its context does not name. -/
theorem State.abort_loader_other {s : State} {k : CtxId} {l : LoaderId}
    (other : ∀ x ∈ s.handover k, x.loader ≠ l) (e : AbortEvent) :
    (s.abort k e).loader l = s.loader l := by
  cases used : s.handover k with
  | none => rw [s.abort_of_free used]
  | some x => exact State.abort_loader_ne used e (other x used).symm

/-! ## Lists of aborts -/

theorem State.abortAll_cons (k : CtxId) (ks : List CtxId) (e : CtxId → AbortEvent) :
    s.abortAll (k :: ks) e = (s.abort k (e k)).abortAll ks e := rfl

theorem State.abort_handover_some {s : State} {k n : CtxId} {e : AbortEvent} {x : Handover}
    (used : (s.abort k e).handover n = some x) : n ≠ k ∧ s.handover n = some x := by
  rw [State.abort_handover_eq] at used
  split at used
  · cases used
  · next ne => exact ⟨ne, used⟩

theorem State.abortAll_loader_unnamed {ks : List CtxId} (e : CtxId → AbortEvent) {l : LoaderId}
    (unnamed : ∀ k ∈ ks, ∀ x ∈ s.handover k, x.loader ≠ l) :
    (s.abortAll ks e).loader l = s.loader l := by
  induction ks generalizing s with
  | nil => rfl
  | cons k ks ih =>
    rw [s.abortAll_cons, ih, State.abort_loader_other (unnamed k (by simp))]
    intro n hn x used
    exact unnamed n (by simp [hn]) x (State.abort_handover_some used).2

/-- The loader of a handover in the list, whose only context in it that is, is left as the abort of
that handover alone leaves it. -/
theorem State.abortAll_loader_named {s : State} {ks : List CtxId} (e : CtxId → AbortEvent)
    {k : CtxId} {x : Handover} (listed : k ∈ ks) (used : s.handover k = some x)
    (only : ∀ n ∈ ks, ∀ y ∈ s.handover n, y.loader = x.loader → n = k) :
    (s.abortAll ks e).loader x.loader = s.abortRecord x (e k) := by
  induction ks generalizing s with
  | nil => exact absurd listed (by simp)
  | cons n ks ih =>
    rw [s.abortAll_cons]
    by_cases same : n = k
    · subst same
      rw [State.abortAll_loader_unnamed, State.abort_loader_own used]
      intro m hm y used' named
      obtain ⟨ne, before⟩ := State.abort_handover_some used'
      exact ne (only m (by simp [hm]) y before named)
    · have frame := s.abort_sameBut n (e n)
      have still : (s.abort n (e n)).handover k = some x := by
        rw [State.abort_handover_eq, if_neg (Ne.symm same), used]
      have kept : (s.abort n (e n)).loader x.loader = s.loader x.loader :=
        State.abort_loader_other (fun y hy named => same (only n (by simp) y hy named)) _
      rw [ih ((List.mem_cons.mp listed).resolve_left (Ne.symm same)) still
        fun m hm y used' named => only m (by simp [hm]) y (State.abort_handover_some used').2 named]
      exact State.abortRecord_congr _ kept frame.params frame.seconds

/-- The loader stands HALTED in no chair's hands. -/
def Loader.out (r : Loader) : Prop := r.state = .halted ∧ r.holder = none

theorem Loader.haltedBy.out {r r' : Loader} {cause : Cause} {sec : Word32}
    (h : r.haltedBy r' cause sec) : r'.out := by
  rw [Loader.haltedBy] at h
  rw [h]
  exact ⟨rfl, rfl⟩

theorem Loader.haltedFrom.out {r r' : Loader} {held : Option HaltRecord} {cause : Cause}
    {sec : Word32} (h : r.haltedFrom r' held cause sec) : r'.out := by
  unfold Loader.haltedFrom at h
  split at h
  · rw [h]
    exact ⟨rfl, rfl⟩
  · exact Loader.haltedBy.out h

/-- The event halts the loader with its own cause, whatever the held mode and the grace setting. -/
def AbortEvent.halts (e : AbortEvent) : Prop := ∀ held grace, e.fate held grace = .halt e.cause

theorem State.abort_out {s : State} {e : AbortEvent} (halts : e.halts) {k : CtxId} {l : LoaderId}
    (out : (s.loader l).out ∨ ∃ x, s.handover k = some x ∧ x.loader = l) :
    ((s.abort k e).loader l).out := by
  by_cases named : ∃ x, s.handover k = some x ∧ x.loader = l
  · obtain ⟨x, used, rfl⟩ := named
    rw [State.abort_loader_own used]
    exact (State.abortRecord_halt (halts _ _)).out
  · rw [State.abort_loader_other fun x used is_l => named ⟨x, used, is_l⟩]
    exact out.resolve_right named

theorem State.abortAll_out_of {s : State} {e : AbortEvent} (halts : e.halts) {ks : List CtxId}
    {l : LoaderId} (out : (s.loader l).out ∨ ∃ k ∈ ks, ∃ x, s.handover k = some x ∧ x.loader = l) :
    ((s.abortAll ks fun _ => e).loader l).out := by
  induction ks generalizing s with
  | nil => exact out.resolve_right (by simp)
  | cons n ks ih =>
    rw [s.abortAll_cons]
    refine ih ?_
    rcases out with out | ⟨k, listed, x, used, is_l⟩
    · exact .inl (State.abort_out halts (.inl out))
    · by_cases same : k = n
      · exact .inl (State.abort_out halts (.inr ⟨x, same ▸ used, is_l⟩))
      · refine .inr ⟨k, (List.mem_cons.mp listed).resolve_left same, x, ?_, is_l⟩
        rw [State.abort_handover_eq, if_neg same, used]

/-! ## Emptied slots -/

theorem State.abort_emptied {k : CtxId} {e : AbortEvent} {c : ChairId} {i : SlotId}
    (empty : (s.slot c i).contents = .empty) : ((s.abort k e).slot c i).contents = .empty := by
  cases used : s.handover k with
  | none => rw [s.abort_of_free used]; exact empty
  | some x =>
    rw [State.abort_slot used]
    simp only [empty, ite_self]

theorem State.abortAll_emptied {ks : List CtxId} {e : CtxId → AbortEvent} {c : ChairId} {i : SlotId}
    (empty : (s.slot c i).contents = .empty) :
    ((s.abortAll ks e).slot c i).contents = .empty := by
  induction ks generalizing s with
  | nil => exact empty
  | cons k ks ih => exact ih _ (s.abort_emptied empty)

/-- The taking slot of a handover in the list is Empty afterwards. -/
theorem State.abortAll_takingSlot {s : State} {ks : List CtxId} {e : CtxId → AbortEvent} {k : CtxId}
    {x : Handover} {i : SlotId} (listed : k ∈ ks) (used : s.handover k = some x)
    (slot : x.slot = some i) : ((s.abortAll ks e).slot x.taking i).contents = .empty := by
  induction ks generalizing s with
  | nil => exact absurd listed (by simp)
  | cons n ks ih =>
    rw [s.abortAll_cons]
    by_cases same : n = k
    · subst same
      refine State.abortAll_emptied _ ?_
      have reserved : x.reserves x.taking i = true := (x.reserves_iff _ _).mpr ⟨rfl, slot⟩
      rw [State.abort_slot used, reserved]
      simp only [Bool.true_or, if_true]
    · refine ih ((List.mem_cons.mp listed).resolve_left (Ne.symm same)) ?_
      rw [State.abort_handover_eq, if_neg (Ne.symm same), used]

theorem State.enterHalted_keepsEmpty {l : LoaderId} {cause : Cause} {c : ChairId} {i : SlotId}
    (empty : (s.slot c i).contents = .empty) :
    ((s.enterHalted l cause).slot c i).contents = .empty := by
  rw [State.enterHalted, s.enterHaltedWith_slot]
  simp only [empty, ite_self]

theorem State.haltAll_emptied {ls : List LoaderId} {cause : Cause} {c : ChairId} {i : SlotId}
    (empty : (s.slot c i).contents = .empty) :
    ((s.haltAll ls cause).slot c i).contents = .empty := by
  induction ls generalizing s with
  | nil => exact empty
  | cons l ls ih => exact ih _ (s.enterHalted_keepsEmpty empty)

/-! ## Lists of halts and of further causes -/

theorem State.haltAll_loader_not_mem {ls : List LoaderId} (cause : Cause) {l : LoaderId}
    (out : l ∉ ls) : (s.haltAll ls cause).loader l = s.loader l := by
  induction ls generalizing s with
  | nil => rfl
  | cons n ls ih =>
    simp only [List.mem_cons, not_or] at out
    have step : s.haltAll (n :: ls) cause = (s.enterHalted n cause).haltAll ls cause := rfl
    rw [step, ih _ out.2, s.enterHalted_loader_ne cause out.1]

theorem State.haltAll_loader_mem {s : State} {ls : List LoaderId} {cause : Cause} {l : LoaderId}
    (nodup : ls.Nodup) (listed : l ∈ ls) :
    (s.loader l).haltedBy ((s.haltAll ls cause).loader l) cause s.seconds := by
  induction ls generalizing s with
  | nil => exact absurd listed (by simp)
  | cons n ls ih =>
    obtain ⟨first, rest⟩ := List.nodup_cons.mp nodup
    have step : s.haltAll (n :: ls) cause = (s.enterHalted n cause).haltAll ls cause := rfl
    rw [step]
    by_cases same : l = n
    · subst same
      rw [State.haltAll_loader_not_mem _ cause first]
      exact s.enterHalted_loader l cause
    · have halted := ih (s := s.enterHalted n cause) rest
        ((List.mem_cons.mp listed).resolve_left same)
      rw [s.enterHalted_loader_ne cause same, (s.enterHalted_sameBut n cause).seconds] at halted
      exact halted

theorem State.furtherAll_loader_not_mem {ls : List LoaderId} (cause : Cause) {l : LoaderId}
    (out : l ∉ ls) : (s.furtherAll ls cause).loader l = s.loader l := by
  induction ls generalizing s with
  | nil => rfl
  | cons n ls ih =>
    simp only [List.mem_cons, not_or] at out
    have step : s.furtherAll (n :: ls) cause = (s.furtherCause n cause).furtherAll ls cause := rfl
    rw [step, ih _ out.2, State.furtherCause, s.modLoader_loader_ne out.1]

theorem State.furtherAll_loader_mem {s : State} {ls : List LoaderId} {cause : Cause} {l : LoaderId}
    (nodup : ls.Nodup) (listed : l ∈ ls) : (s.furtherAll ls cause).loader l =
      { s.loader l with halt := (s.loader l).halt.map (·.addCause cause) } := by
  induction ls generalizing s with
  | nil => exact absurd listed (by simp)
  | cons n ls ih =>
    obtain ⟨first, rest⟩ := List.nodup_cons.mp nodup
    have step : s.furtherAll (n :: ls) cause = (s.furtherCause n cause).furtherAll ls cause := rfl
    rw [step]
    by_cases same : l = n
    · subst same
      rw [State.furtherAll_loader_not_mem _ cause first, State.furtherCause,
        s.modLoader_loader_self]
    · rw [ih rest ((List.mem_cons.mp listed).resolve_left same), State.furtherCause,
        s.modLoader_loader_ne same]

theorem State.loadersWhere_nodup (p : Loader → Bool) : (s.loadersWhere p).Nodup :=
  (List.nodup_finRange 32).filter _

/-! ## Authority taken from a list of loaders -/

/-- Under the law of TRANSFER a loader stands in one context (04 R65). -/
theorem State.transferLaw.only {s : State} (law : s.transferLaw) {l : LoaderId} {k n : CtxId}
    {x y : Handover} (flight : s.inFlight l k x) (used : s.handover n = some y)
    (named : y.loader = l) : n = k := by
  obtain ⟨-, context⟩ := law.1 n y used
  rw [named, flight.2.1] at context
  exact (Option.some.inj context).symm

section

variable {s} {ls : List LoaderId} {e : AbortEvent}

/-- The state in which the aborts of a taking of authority end. -/
def State.authorityAborted (s : State) (ls : List LoaderId) (e : AbortEvent) : State :=
  s.abortAll (s.contextsWhere fun h => ls.contains h.loader) fun _ => e

theorem State.takeAuthority_eq (s : State) (ls : List LoaderId) (e : AbortEvent) :
    s.takeAuthority ls e = (s.authorityAborted ls e).haltAll
      ((s.authorityAborted ls e).withAuthority ls) e.cause := rfl

theorem State.authorityAborted_unnamed {l : LoaderId}
    (unnamed : l ∉ ls ∨ ∀ k, ∀ x ∈ s.handover k, x.loader ≠ l) :
    (s.authorityAborted ls e).loader l = s.loader l := by
  refine s.abortAll_loader_unnamed _ fun k hk x used named => ?_
  rcases unnamed with out | unnamed
  · obtain ⟨y, used', listed⟩ := s.mem_contextsWhere.mp hk
    rw [used] at used'
    cases used'
    exact out (named ▸ by simpa using listed)
  · exact unnamed k x used named

theorem State.takeAuthority_handover (k : CtxId) (x : Handover) (used : s.handover k = some x) :
    (s.takeAuthority ls e).handover k = if x.loader ∈ ls then none else some x := by
  rw [s.takeAuthority_eq, (State.haltAll_sameBut _ _ _).handover, State.authorityAborted,
    State.abortAll_handover]
  by_cases listed : x.loader ∈ ls
  · rw [if_pos listed, if_pos (s.mem_contextsWhere.mpr ⟨x, used, by simpa using listed⟩)]
  · rw [if_neg listed, if_neg, used]
    intro mem
    obtain ⟨y, used', here⟩ := s.mem_contextsWhere.mp mem
    rw [used] at used'
    cases used'
    exact listed (by simpa using here)

/-- A loader outside the list is left alone. -/
theorem State.takeAuthority_loader_not_mem {l : LoaderId} (out : l ∉ ls) :
    (s.takeAuthority ls e).loader l = s.loader l := by
  have calm : l ∉ (s.authorityAborted ls e).withAuthority ls := fun h => out (List.mem_filter.mp h).1
  rw [s.takeAuthority_eq, State.haltAll_loader_not_mem _ _ calm,
    State.authorityAborted_unnamed (.inl out)]

/-- A loader of the list that no context names is halted, or left where it has no authority. -/
theorem State.takeAuthority_unnamed {l : LoaderId} (nodup : ls.Nodup) (listed : l ∈ ls)
    (unnamed : ∀ k, ∀ x ∈ s.handover k, x.loader ≠ l) :
    if (s.loader l).hasAuthority = true then
      (s.loader l).haltedBy ((s.takeAuthority ls e).loader l) e.cause s.seconds
    else (s.takeAuthority ls e).loader l = s.loader l := by
  have kept : (s.authorityAborted ls e).loader l = s.loader l :=
    State.authorityAborted_unnamed (.inr unnamed)
  have seconds : (s.authorityAborted ls e).seconds = s.seconds := (s.abortAll_sameBut _ _).seconds
  rw [s.takeAuthority_eq]
  split
  · next authority =>
    have here : l ∈ (s.authorityAborted ls e).withAuthority ls :=
      List.mem_filter.mpr ⟨listed, by rw [kept]; exact authority⟩
    have halted := State.haltAll_loader_mem (s := s.authorityAborted ls e) (cause := e.cause)
      (nodup.filter _) here
    rw [kept, seconds] at halted
    exact halted
  · next calm =>
    rw [State.haltAll_loader_not_mem, kept]
    intro here
    have authority := (List.mem_filter.mp here).2
    rw [kept] at authority
    exact calm authority

/-- A loader of the list in flight, whose one context names it, is halted by its abort. -/
theorem State.takeAuthority_inFlight {l : LoaderId} {k : CtxId} {x : Handover} (halts : e.halts)
    (listed : l ∈ ls) (flight : s.inFlight l k x)
    (only : ∀ n y, s.handover n = some y → y.loader = l → n = k) :
    (s.loader l).haltedFrom ((s.takeAuthority ls e).loader l) x.held e.cause s.seconds := by
  obtain ⟨-, -, used, rfl⟩ := flight
  have record : (s.authorityAborted ls e).loader x.loader = s.abortRecord x e :=
    State.abortAll_loader_named (fun _ => e)
      (s.mem_contextsWhere.mpr ⟨x, used, by simpa using listed⟩) used
      fun n _ y used' named => only n y used' named
  have halted := State.abortRecord_halt (s := s) (x := x) (e := e) (halts _ _)
  rw [← record] at halted
  have calm : x.loader ∉ (s.authorityAborted ls e).withAuthority ls := by
    intro here
    have authority := (List.mem_filter.mp here).2
    simp only [Loader.hasAuthority, halted.out.1] at authority
    exact absurd authority (by decide)
  rw [s.takeAuthority_eq, State.haltAll_loader_not_mem _ _ calm]
  exact halted

/-- Every loader of the list that has authority loses it. -/
theorem State.takeAuthority_out {l : LoaderId} (halts : e.halts) (nodup : ls.Nodup)
    (listed : l ∈ ls) (authority : (s.loader l).hasAuthority = true) :
    ((s.takeAuthority ls e).loader l).out := by
  by_cases named : ∃ k x, s.handover k = some x ∧ x.loader = l
  · obtain ⟨k, x, used, rfl⟩ := named
    have out : ((s.authorityAborted ls e).loader x.loader).out :=
      State.abortAll_out_of halts
        (.inr ⟨k, s.mem_contextsWhere.mpr ⟨x, used, by simpa using listed⟩, x, used, rfl⟩)
    have calm : x.loader ∉ (s.authorityAborted ls e).withAuthority ls := by
      intro here
      have authority := (List.mem_filter.mp here).2
      simp only [Loader.hasAuthority, out.1] at authority
      exact absurd authority (by decide)
    rw [s.takeAuthority_eq, State.haltAll_loader_not_mem _ _ calm]
    exact out
  · have halted := State.takeAuthority_unnamed (e := e) nodup listed
      fun k x used is_l => named ⟨k, x, used, is_l⟩
    rw [if_pos authority] at halted
    exact halted.out

end

end Sys2Proof.Machine
end

section
/-! PROOF. The events that take authority from many loaders: the closure expiry (02 R36), STOP_ALL
(06 R127) and WITHDRAW (06 R131). -/

namespace Sys2Proof.Machine

-- One theorem after another, so that the compile stays within its memory.
set_option Elab.async false

variable (s : State)

/-! ## The completion of a closure (02 R35) -/

/-- The descriptor of a zone whose closure completes. -/
def Zone.closed (z : Zone) : Zone :=
  { z with cls := .closed, entered := false, attention := false, closing := none }

theorem State.completeClosure_zone (z y : ZoneId) (k : ClosureId) (n : Nat) :
    (s.completeClosure z k n).zone y = if y = z then (s.zone z).closed else s.zone y := by
  rw [State.completeClosure, (State.tellSup_sameBut _ _).zone]
  by_cases same : y = z
  · subst same
    rw [if_pos rfl, State.modZone_zone_self]
    rfl
  · rw [if_neg same, State.modZone_zone_ne _ same]
    rfl

theorem State.completeClosure_closure (z : ZoneId) (k m : ClosureId) (n : Nat) :
    (s.completeClosure z k n).closure m = if m = k then none else s.closure m := by
  rw [State.completeClosure, (State.tellSup_sameBut _ _).closure, (State.modZone_sameBut _ _ _).closure]
  by_cases same : m = k
  · rw [if_pos same, same, State.setClosure_closure_self]
  · rw [if_neg same, State.setClosure_closure_ne _ same]

theorem State.checkClosure_complete {s : State} {z : ZoneId} {k : ClosureId} (n : Nat)
    (closing : (s.zone z).closing = some k)
    (calm : ∀ l, (s.loader l).hasAuthority = true → (s.loader l).inZone z = false) :
    s.checkClosure z n = s.completeClosure z k n := by
  have empty : (s.authorityIn z).isEmpty = true := by
    rw [List.isEmpty_iff, List.eq_nil_iff_forall_not_mem]
    intro l hl
    have both := s.mem_loadersWhere.mp hl
    simp only [Bool.and_eq_true] at both
    exact absurd both.2 (by rw [calm l both.1]; decide)
  simp only [State.checkClosure, closing, empty, if_true]

theorem State.checkClosure_waits {s : State} {z : ZoneId} (n : Nat) {l : LoaderId}
    (authority : (s.loader l).hasAuthority = true) (here : (s.loader l).inZone z = true) :
    s.checkClosure z n = s := by
  have listed : l ∈ s.authorityIn z := s.mem_loadersWhere.mpr (by simp [authority, here])
  unfold State.checkClosure
  split
  · rw [if_neg]
    intro empty
    rw [List.isEmpty_iff.mp empty] at listed
    cases listed
  · rfl

theorem Loader.out.noAuthority {r : Loader} (out : r.out) : r.hasAuthority = false := by
  rw [Loader.hasAuthority, out.1]
  rfl

theorem AbortEvent.halts_zoneClosed : AbortEvent.zoneClosed.halts := fun _ _ => rfl
theorem AbortEvent.halts_stopAll : AbortEvent.stopAll.halts := fun _ _ => rfl
theorem AbortEvent.halts_withdrawn : AbortEvent.withdrawn.halts := fun _ _ => rfl
theorem AbortEvent.halts_restart : AbortEvent.restart.halts := fun _ _ => rfl

/-- A loader outside TRANSFER is named by no context (04 R65). -/
theorem State.transferLaw.unnamed {s : State} (law : s.transferLaw) {l : LoaderId}
    (out : (s.loader l).state ≠ .transfer) : ∀ k, ∀ x ∈ s.handover k, x.loader ≠ l := by
  rintro k x used rfl
  exact out (law.1 k x used).1

/-- Settles O42. -/
theorem closureExpiryTakesAuthority : Obligations.ClosureExpiryTakesAuthority := by
  unfold Obligations.ClosureExpiryTakesAuthority
  intro s k x covered released law used closing covered_eq
  let ls := s.authorityIn x.zone
  let b := s.takeAuthority ls .zoneClosed
  have nodup : ls.Nodup := s.loadersWhere_nodup _
  have listed : ∀ l, l ∈ ls ↔ covered l = true := fun l => by
    rw [covered_eq]
    exact s.mem_loadersWhere
  have authority : ∀ l, covered l = true → (s.loader l).hasAuthority = true := fun l h => by
    rw [covered_eq, Bool.and_eq_true] at h
    exact h.1
  have frame : s.sameBut haltParts b := s.takeAuthority_sameBut ls .zoneClosed
  have others : ∀ l, covered l = false → b.loader l = s.loader l := fun l h =>
    State.takeAuthority_loader_not_mem fun mem => by simp [(listed l).mp mem] at h
  have out : ∀ l, covered l = true → (b.loader l).out := fun l h =>
    State.takeAuthority_out AbortEvent.halts_zoneClosed nodup ((listed l).mpr h) (authority l h)
  have calm : ∀ l, (b.loader l).hasAuthority = true → (b.loader l).inZone x.zone = false := by
    intro l has
    cases h : covered l with
    | true => exact absurd has (by rw [(out l h).noAuthority]; decide)
    | false =>
      rw [others l h] at has ⊢
      rw [covered_eq] at h
      simpa [has] using h
  have complete : b.checkClosure x.zone ls.length = b.completeClosure x.zone k ls.length :=
    State.checkClosure_complete _ (by rw [frame.zone]; exact closing) calm
  have next : exec (.closureTimerExpiry k) s = .next (b.completeClosure x.zone k ls.length) := by
    have gate : exec (.closureTimerExpiry k) s = execClosureTimerExpiry k s := rfl
    rw [gate, execClosureTimerExpiry, s.running_of _ released, State.expireClosure, used, ← complete]
  have completed := b.completeClosure_sameBut x.zone k ls.length
  refine ⟨_, next, fun l h => ?_, fun l h outside => ?_, fun l n y h flight => ?_, fun l h => ?_,
    fun n y named => ?_, ?_, fun n ne => ?_, ?_, fun z ne => ?_, ?_⟩
  · rw [completed.loader]
    exact out l h
  · have halted := State.takeAuthority_unnamed (e := .zoneClosed) nodup ((listed l).mpr h)
      (law.unnamed outside)
    rw [if_pos (authority l h)] at halted
    rw [completed.loader]
    exact halted
  · rw [completed.loader]
    exact State.takeAuthority_inFlight AbortEvent.halts_zoneClosed ((listed l).mpr h) flight
      fun m z used' named => law.only flight used' named
  · rw [completed.loader, others l h]
  · rw [completed.handover, State.takeAuthority_handover n y named]
    simp only [listed]
  · rw [b.completeClosure_closure, if_pos rfl]
  · rw [b.completeClosure_closure, if_neg ne, frame.closure]
  · rw [b.completeClosure_zone, if_pos rfl, frame.zone]
    rfl
  · rw [b.completeClosure_zone, if_neg ne, frame.zone]
  · exact (frame.mono (by simp [haltParts])).trans (completed.mono (by simp))

/-! ## All authority (06 R127, R132) -/

section

variable {s} {e : AbortEvent}

theorem State.takeAllAuthority_eq (s : State) (e : AbortEvent) : s.takeAllAuthority e =
    (s.takeAuthority (List.finRange 32) e).furtherAll s.haltedLoaders e.cause := rfl

theorem State.mem_haltedLoaders {l : LoaderId} :
    l ∈ s.haltedLoaders ↔ (s.loader l).state = .halted := by
  simp [State.haltedLoaders, s.mem_loadersWhere]

theorem State.haltedLoaders_nodup (s : State) : s.haltedLoaders.Nodup := s.loadersWhere_nodup _

theorem State.takeAllAuthority_loader_not_halted {l : LoaderId}
    (running : (s.loader l).state ≠ .halted) : (s.takeAllAuthority e).loader l =
      (s.takeAuthority (List.finRange 32) e).loader l := by
  rw [s.takeAllAuthority_eq, State.furtherAll_loader_not_mem _ _ (mt State.mem_haltedLoaders.mp running)]

theorem Loader.not_halted_of_authority {r : Loader} (authority : r.hasAuthority = true) :
    r.state ≠ .halted := fun halted => by
  rw [Loader.hasAuthority, halted] at authority
  exact absurd authority (by decide)

theorem State.takeAllAuthority_out (halts : e.halts) {l : LoaderId}
    (authority : (s.loader l).hasAuthority = true) : ((s.takeAllAuthority e).loader l).out := by
  rw [State.takeAllAuthority_loader_not_halted (Loader.not_halted_of_authority authority)]
  exact State.takeAuthority_out halts (List.nodup_finRange 32) (List.mem_finRange l) authority

theorem State.takeAllAuthority_inFlight (halts : e.halts) (law : s.transferLaw) {l : LoaderId}
    {k : CtxId} {x : Handover} (flight : s.inFlight l k x) :
    (s.loader l).haltedFrom ((s.takeAllAuthority e).loader l) x.held e.cause s.seconds := by
  rw [State.takeAllAuthority_loader_not_halted (by rw [flight.1]; decide)]
  exact State.takeAuthority_inFlight halts (List.mem_finRange l) flight
    fun n y used named => law.only flight used named

theorem State.takeAllAuthority_unnamed {l : LoaderId}
    (unnamed : ∀ k, ∀ x ∈ s.handover k, x.loader ≠ l) :
    if (s.loader l).hasAuthority = true then
      (s.loader l).haltedBy ((s.takeAllAuthority e).loader l) e.cause s.seconds
    else if (s.loader l).state = .halted then (s.takeAllAuthority e).loader l =
      { s.loader l with halt := (s.loader l).halt.map (·.addCause e.cause) }
    else (s.takeAllAuthority e).loader l = s.loader l := by
  have taken := State.takeAuthority_unnamed (e := e) (List.nodup_finRange 32) (List.mem_finRange l)
    unnamed
  split
  · next authority =>
    rw [if_pos authority] at taken
    rw [State.takeAllAuthority_loader_not_halted (Loader.not_halted_of_authority authority)]
    exact taken
  · next calm =>
    rw [if_neg calm] at taken
    split
    · next halted =>
      rw [s.takeAllAuthority_eq, State.furtherAll_loader_mem s.haltedLoaders_nodup
        (State.mem_haltedLoaders.mpr halted), taken]
    · next running => rw [State.takeAllAuthority_loader_not_halted running, taken]

theorem State.takeAllAuthority_handover (k : CtxId) : (s.takeAllAuthority e).handover k = none :=
  (s.takeAllAuthority_calm e).2 k

theorem State.takeAllAuthority_frame (s : State) (e : AbortEvent) :
    s.sameBut haltParts (s.takeAllAuthority e) :=
  (s.takeAuthority_sameBut _ _).trans ((State.furtherAll_sameBut _ _ _).mono (by simp [haltParts]))

theorem State.takeAllAuthority_tells (s : State) (e : AbortEvent) :
    ∃ a b, s.tells a b (s.takeAllAuthority e) := by
  obtain ⟨a, b, tells⟩ := s.takeAuthority_tells (List.finRange 32) e
  exact ⟨a, b, tells.before (State.furtherAll_sameBut _ _ _)⟩

end

/-! ## STOP_ALL -/

/-- A notice that finds fewer than 32 replies stands last in the queue (07 R143). -/
theorem OutQueue.join_notice_last {q : OutQueue} (n : Notice)
    (replies : q.frames.countP Frame.isReply < 32) :
    (q.join ⟨0, .notice n⟩).frames.getLast? = some ⟨0, .notice n⟩ := by
  by_cases room : q.frames.length < 32
  · rw [OutQueue.join_of_room (Frame.notice_newTo _ _ _) room]
    simp
  · have full : 32 ≤ q.frames.length := by omega
    cases reports : q.frames.any Frame.isReport with
    | true =>
      rw [OutQueue.join_spends_report (Frame.notice_newTo _ _ _) full reports]
      simp [OutQueue.drop]
    | false =>
      cases notices : q.frames.any Frame.isNotice with
      | true =>
        rw [OutQueue.join_spends_notice full reports rfl notices]
        simp [OutQueue.drop]
      | false =>
        have all : ∀ f ∈ q.frames, f.isReply = true := fun f hf =>
          Frame.isReply_of_others
            (Bool.eq_false_iff.mpr fun h => by simpa [h] using List.any_eq_false.mp reports f hf)
            (Bool.eq_false_iff.mpr fun h => by simpa [h] using List.any_eq_false.mp notices f hf)
        rw [List.countP_eq_length.mpr all] at replies
        omega

theorem State.tellSup_last {s : State} (n : Notice)
    (replies : s.supQueue.frames.countP Frame.isReply < 32) :
    (s.tellSup n).supQueue.frames.getLast? = some ⟨0, .notice n⟩ :=
  OutQueue.join_notice_last n replies

/-- The STOP_CHANGE of an assertion (06 R127): the loaders that lose their authority to a new halt
record, and those that take a further cause. -/
def State.stopNotice (s : State) : Notice :=
  .stopChange true s.seconds
    ((List.finRange 32).countP fun l =>
      (s.loader l).hasAuthority && (s.loader l).prior != some .halted)
    ((List.finRange 32).countP fun l => (s.loader l).state == .halted ||
      ((s.loader l).hasAuthority && (s.loader l).prior == some .halted))

theorem State.stopNotice_eq :
    s.stopNotice = .stopChange true s.seconds s.toHalt.length s.toMark.length := by
  rw [State.toHalt, State.toMark, s.loadersWhere_length, s.loadersWhere_length, State.stopNotice]

theorem State.stopEverything_eq : s.stopEverything =
    ((({ s with stopAll := true }.takeAllAuthority .stopAll).checkClosures).tellSup
      s.stopNotice) := by
  have seconds := ((State.takeAllAuthority_frame { s with stopAll := true } .stopAll).mono
    (qs := eventParts) (by simp [haltParts])).trans
      ((State.checkClosures_sameBut _ fun _ => true).mono (by simp))
  rw [State.stopEverything, seconds.seconds, s.stopNotice_eq]

/-- Settles O54. -/
theorem stopAllTakesAuthority : Obligations.StopAllTakesAuthority := by
  unfold Obligations.StopAllTakesAuthority
  intro s released
  refine ⟨fun clear => ?_, fun asserted => ?_, fun asserted => ?_, fun clear => ?_⟩
  · let a : State := { s.setStopInput true with stopAll := true }
    let b := a.takeAllAuthority .stopAll
    let c := b.checkClosures
    let n := s.stopNotice
    have next : exec .stopAllAssertion s = .next (c.tellSup n) := by
      have gate : exec .stopAllAssertion s = .next s.assertStop := rfl
      have running : (s.setStopInput true).inReset = false := released
      rw [gate, State.assertStop]
      simp only [(s.setStopInput true).running_of _ running, clear, Bool.not_false, if_true,
        State.stopEverything_eq]
      rfl
    have before : s.sameBut [.stopAll, .inputs] a := by
      intro p other
      cases p <;> simp_all [Part.same, a, State.setStopInput]
    have taken := a.takeAllAuthority_frame .stopAll
    have checked := b.checkClosures_sameBut fun _ => true
    have told := c.tellSup_sameBut n
    have loader : ∀ l, (c.tellSup n).loader l = b.loader l := fun l => by
      rw [told.loader, checked.loader]
    refine ⟨_, next, ?_, ?_, fun k => ?_, fun l authority => ?_, fun l unnamed => ?_,
      fun l k x law flight => ?_, fun room => ?_, ?_⟩
    · rw [told.stopAll, checked.stopAll, taken.stopAll]
    · have inputs := ((taken.mono (qs := eventParts) (by simp [haltParts])).trans
        (checked.mono (by simp))).trans (told.mono (by simp))
      exact inputs .inputs (by decide)
    · rw [told.handover, checked.handover, State.takeAllAuthority_handover]
    · rw [loader]
      exact State.takeAllAuthority_out (s := a) AbortEvent.halts_stopAll authority
    · rw [loader]
      exact State.takeAllAuthority_unnamed (s := a) unnamed
    · rw [loader]
      exact State.takeAllAuthority_inFlight (s := a) AbortEvent.halts_stopAll law flight
    · obtain ⟨i, j, tells⟩ := a.takeAllAuthority_tells .stopAll
      have count := ((tells.trans (b.checkClosures_tells fun _ => true)) .supervisor).countP
      have replies : c.supQueue.frames.countP Frame.isReply < 32 := lt_of_eq_of_lt count room
      exact State.tellSup_last n replies
    · exact (before.mono (by simp)).trans (((taken.mono (by simp [haltParts])).trans
        (checked.mono (by simp))).trans (told.mono (by simp)))
  · have gate : exec .stopAllRelease s = .next s.releaseStop := rfl
    have running : (s.setStopInput false).inReset = false := released
    rw [gate, State.releaseStop]
    simp only [(s.setStopInput false).running_of _ running, asserted, if_true]
    rfl
  · have gate : exec .stopAllAssertion s = .next s.assertStop := rfl
    have running : (s.setStopInput true).inReset = false := released
    rw [gate, State.assertStop]
    simp only [(s.setStopInput true).running_of _ running, asserted, Bool.not_true,
      Bool.false_eq_true, if_false]
    rw [← asserted, State.setStopInput]
  · have gate : exec .stopAllRelease s = .next s.releaseStop := rfl
    have running : (s.setStopInput false).inReset = false := released
    rw [gate, State.releaseStop]
    simp only [(s.setStopInput false).running_of _ running, clear, Bool.false_eq_true, if_false]
    rw [← clear, State.setStopInput]

end Sys2Proof.Machine
end

section
/-! PROOF. WITHDRAW (06 R130, R131) and ISOLATE (03 R63). -/

namespace Sys2Proof.Machine

-- One theorem after another, so that the compile stays within its memory.
set_option Elab.async false

/-! ## WITHDRAW -/

theorem Loader.enrolled_of_authority {r : Loader} (authority : r.hasAuthority = true) :
    r.state ≠ .unenrolled := fun out => by
  rw [Loader.hasAuthority, out] at authority
  exact absurd authority (by decide)

theorem State.examineWithdraw_ok {a : State} {h : Header} {scope number filter : Byte} {x : Scope}
    {f : Option Mode} (sender : h.sender = .supervisor) (scope_x : scopeOf scope number = some x)
    (filter_f : filterOf filter = some f)
    (named : ∀ n, x = .loader n → (a.loader n).hasAuthority = true) :
    a.examineWithdraw h scope number filter = .ok (x, f) := by
  have enrolled : ∀ n, x = .loader n → (a.loader n).state ≠ .unenrolled := fun n is_n =>
    Loader.enrolled_of_authority (named n is_n)
  simp only [State.examineWithdraw, fromSup_of sender, scope_x, filter_f, meaning_some, ok_bind]
  cases x with
  | loader n =>
    simp only [State.enrolled, ensure_of (enrolled n rfl), ensure_of (named n rfl), ok_bind]
  | chair c => rfl
  | all => rfl

/-- The HALTED loaders that take WITHDRAWN as a further cause (06 R131). -/
def State.furtherWithdrawn (a : State) (x : Scope) (f : Option Mode) : List LoaderId :=
  if x = .all ∧ f = none then a.haltedLoaders else []

/-- The reply of a WITHDRAW that is accepted (06 R131). -/
def State.withdrawReplied (a : State) (h : Header) (x : Scope) (f : Option Mode) : State :=
  a.ok h .withdraw (.count ((a.affected x f).length + (a.furtherWithdrawn x f).length))

theorem State.takeWithdraw_of {a : State} {h : Header} {scope number filter : Byte} {x : Scope}
    {f : Option Mode} (examine : a.examineWithdraw h scope number filter = .ok (x, f)) :
    a.takeWithdraw h scope number filter =
      (((a.withdrawReplied h x f).takeAuthority (a.affected x f) .withdrawn).checkClosures).furtherAll
        (a.furtherWithdrawn x f) .withdrawn := by
  simp only [State.takeWithdraw, State.examined, examine]
  rfl

/-- Settles O24: the reply joins first, the aborts and halts take the loaders of the scope, and the
further causes touch none of them. -/
theorem withdrawHaltsItsScope : Obligations.WithdrawHaltsItsScope := by
  unfold Obligations.WithdrawHaltsItsScope
  intro s a h scope number filter x f covered sender ready heard scope_x filter_f covered_eq named
  let ls := a.affected x f
  let marked := a.furtherWithdrawn x f
  let r := a.withdrawReplied h x f
  let b := r.takeAuthority ls .withdrawn
  let c := b.checkClosures
  let t := c.furtherAll marked .withdrawn
  have next : exec (.withdraw h scope number filter) s = .next t := by
    have taken : a.takeWithdraw h scope number filter = t :=
      State.takeWithdraw_of (State.examineWithdraw_ok sender scope_x filter_f named)
    have gate : exec (.withdraw h scope number filter) s =
        .next (a.takeWithdraw h scope number filter) := exec_of_ready rfl ready heard
    rw [gate, taken]
  have as_heard : a.seconds = s.seconds ∧ a.queue h.sender.port = s.queue h.sender.port := by
    rw [heard, sender]
    exact ⟨rfl, rfl⟩
  obtain ⟨seconds, queue⟩ := as_heard
  have covers : ∀ l, (x.covers l (a.loader l) && (f.isNone || f == a.filteredMode l)) = covered l := by
    intro l
    rw [covered_eq]
    simp only [Scope.covers, Loader.heldBy, Loader.holderChair, State.filteredMode, Loader.heldMode]
    cases x <;> cases f <;> cases (a.loader l).holder <;> simp [Bool.beq_comm]
  have nodup : ls.Nodup := (List.nodup_finRange 32).filter _
  have listed : ∀ l, l ∈ ls ↔ covered l = true := fun l => by
    simp [ls, State.affected, covers]
  have authority : ∀ l, covered l = true → (a.loader l).hasAuthority = true := fun l h => by
    rw [covered_eq, Bool.and_eq_true, Bool.and_eq_true] at h
    exact h.1.1
  have halted : ∀ l, l ∈ marked ↔ (x = .all ∧ f = none) ∧ (a.loader l).state = .halted := fun l => by
    by_cases both : x = .all ∧ f = none
    · simp [marked, State.furtherWithdrawn, both, State.mem_haltedLoaders]
    · simp only [marked, State.furtherWithdrawn, both, false_and, ite_false, List.not_mem_nil]
  have marked_nodup : marked.Nodup := by
    by_cases both : x = .all ∧ f = none
    · simpa only [marked, State.furtherWithdrawn, if_pos both] using a.haltedLoaders_nodup
    · simp only [marked, State.furtherWithdrawn, if_neg both, List.nodup_nil]
  have replied : a.sameBut [.supQueue] r := a.ok_sameBut_supQueue sender .withdraw _
  have frame : r.sameBut haltParts b := r.takeAuthority_sameBut ls .withdrawn
  have checked := b.checkClosures_sameBut fun _ => true
  have further := c.furtherAll_sameBut marked .withdrawn
  have unmarked : ∀ l, covered l = true → t.loader l = b.loader l := fun l h => by
    have out : l ∉ marked := fun mem =>
      Loader.not_halted_of_authority (authority l h) ((halted l).mp mem).2
    rw [State.furtherAll_loader_not_mem _ _ out, checked.loader]
  refine ⟨t, next, fun l h => ?_, fun l h _ outside => ?_, fun l k y h law flight => ?_,
    fun l h => ?_, fun k y used => ?_, ?_, ?_⟩
  · rw [unmarked l h]
    exact State.takeAuthority_out AbortEvent.halts_withdrawn nodup ((listed l).mpr h)
      (by rw [replied.loader]; exact authority l h)
  · have taken := State.takeAuthority_unnamed (s := r) (e := .withdrawn) nodup ((listed l).mpr h)
      fun k y used => outside k y (by rw [← replied.handover]; exact used)
    rw [replied.loader, if_pos (authority l h), replied.seconds, seconds] at taken
    rw [unmarked l h]
    exact taken
  · have taken := State.takeAuthority_inFlight (s := r) (l := l) (k := k) (x := y)
      AbortEvent.halts_withdrawn ((listed l).mpr h) (replied.inFlight flight)
      fun n z used named => law.only flight (by rw [← replied.handover]; exact used) named
    rw [replied.loader, replied.seconds, seconds] at taken
    rw [unmarked l h]
    exact taken
  · have out : l ∉ ls := fun mem => by simp [(listed l).mp mem] at h
    have kept : c.loader l = a.loader l := by
      rw [checked.loader, State.takeAuthority_loader_not_mem out, replied.loader]
    by_cases mem : l ∈ marked
    · obtain ⟨⟨all, both⟩, is_halted⟩ := (halted l).mp mem
      rw [State.furtherAll_loader_mem marked_nodup mem, kept, if_pos ⟨all, both, is_halted⟩]
    · rw [State.furtherAll_loader_not_mem _ _ mem, kept, if_neg]
      rintro ⟨all, both, is_halted⟩
      exact mem ((halted l).mpr ⟨⟨all, both⟩, is_halted⟩)
  · rw [further.handover, checked.handover, State.takeAuthority_handover k y
      (by rw [replied.handover]; exact used)]
    simp only [listed]
  · have room : (a.queue h.sender.port).fullOfReplies = false := by
      rw [queue]
      exact ready.2
    obtain ⟨i, j, tells⟩ := r.takeAuthority_tells ls .withdrawn
    have length : ls.length + marked.length = (List.finRange 32).countP covered +
        if x = .all ∧ f = none then
          (List.finRange 32).countP fun l => (a.loader l).state == .halted else 0 := by
      congr 1
      · rw [← length_filter_finRange]
        simp only [ls, State.affected, covers]
      · by_cases both : x = .all ∧ f = none
        · simp only [marked, State.furtherWithdrawn, if_pos both, State.haltedLoaders, a.loadersWhere_length]
        · simp only [marked, State.furtherWithdrawn, if_neg both, List.length_nil]
    have queued := a.ok_queued room .withdraw (.count (ls.length + marked.length))
    rw [sender] at queued
    rw [← length]
    exact ((tells.trans (b.checkClosures_tells fun _ => true)).before further).queued_reply rfl queued
  · exact (replied.mono (by simp)).trans (((frame.mono (by simp [haltParts])).trans
      (checked.mono (by simp))).trans (further.mono (by simp)))

/-! ## ISOLATE -/

variable (s : State)

/-- What the first step of an isolation leaves of the record (03 R62, 04 R89). -/
structure State.unabortedRecord (s t : State) (l : LoaderId) : Prop where
  holder : (t.loader l).holder = (s.loader l).holder
  epoch : (t.loader l).epoch = (s.loader l).epoch
  position : (t.loader l).position = (s.loader l).position
  silence : (t.loader l).silence = (s.loader l).silence

theorem State.unabortedRecord.of_eq {s t : State} {l : LoaderId} (same : t.loader l = s.loader l) :
    s.unabortedRecord t l := by
  constructor <;> rw [same]

theorem State.abort_isolated_record (k : CtxId) (l : LoaderId) :
    s.unabortedRecord (s.abort k .isolated) l := by
  by_cases named : ∃ x, s.handover k = some x ∧ x.loader = l
  · obtain ⟨x, used, rfl⟩ := named
    have record : (s.abort k .isolated).loader x.loader =
        (s.loader x.loader).reverted (s.priorOf x.loader) x s.params.driveLapse :=
      State.abort_loader_own used _
    constructor
    · rw [record, Loader.reverted_holder]
    · rw [record, Loader.reverted_epoch]
    · rw [record]
      cases s.priorOf x.loader <;> rfl
    · rw [record]
      cases s.priorOf x.loader <;> rfl
  · exact .of_eq (State.abort_loader_other (fun x used is_l => named ⟨x, used, is_l⟩) _)

theorem State.isolateAbort_record (l : LoaderId) : s.unabortedRecord (s.isolateAbort l) l := by
  unfold State.isolateAbort
  split
  · exact s.abort_isolated_record _ l
  · exact .of_eq rfl

theorem State.isolateAbort_calm {l : LoaderId} (calm : (s.loader l).state ≠ .transfer) :
    s.isolateAbort l = s := by
  unfold State.isolateAbort
  split
  · next transfer _ => exact absurd transfer calm
  · rfl

theorem State.isolateAbort_inFlight {l : LoaderId} {k : CtxId} {x : Handover}
    (flight : s.inFlight l k x) : s.isolateAbort l = s.abort k .isolated := by
  obtain ⟨transfer, named, -⟩ := flight
  rw [State.isolateAbort, transfer, named]

theorem State.isolateAbort_sameBut (l : LoaderId) : s.sameBut haltParts (s.isolateAbort l) := by
  unfold State.isolateAbort
  split
  · exact s.abort_sameBut _ _
  · exact .refl _ s

theorem State.isolateAbort_tells (l : LoaderId) : s.tells 3 2 (s.isolateAbort l) := by
  unfold State.isolateAbort
  split
  · exact s.abort_tells _ _
  · exact .refl _ _ _

theorem State.isolateBegun_tells (l : LoaderId) : s.tells 1 0 (s.isolateBegun l) := by
  unfold State.isolateBegun
  split
  · exact ((State.tellChair_tells _ _ _).after (State.modLoader_sameBut _ l _)).after
      (s.vacate_sameBut l)
  · exact .of_frame _ _ ((s.vacate_sameBut l).mono (qs := [.loaders, .chairs, .watch]) (by simp)
      |>.trans ((State.modLoader_sameBut _ l _).mono (by simp)))

theorem State.isolateRest_tells (l : LoaderId) : s.tells 1 1 (s.isolateRest l) := by
  rw [s.isolateRest_eq]
  exact ((s.isolateBegun_tells l).before (State.emitHold_sameBut _ l)).before
    (State.updateLamps_sameBut _) |>.trans (State.checkZoneOf_tells _ l)

/-- The notice, the lamps and the check of the zone come after the record, the slot and the HOLD. -/
theorem State.isolateRest_afterHold (l : LoaderId) :
    ((s.isolateBegun l).emitHold l).sameBut [.lamps, .zones, .closures, .queues, .supQueue]
      (s.isolateRest l) := by
  rw [s.isolateRest_eq]
  exact ((State.updateLamps_sameBut _).mono (by simp)).trans
    ((State.checkZoneOf_sameBut _ l).mono (by simp))

theorem State.isolateRest_loader (l : LoaderId) :
    (s.isolateRest l).loader l =
      { (s.loader l).isolated with holdRefresh := some ⟨500, 0⟩ } := by
  have idle : ((s.isolateBegun l).loader l).state ∈ [LoaderState.parked, .halted, .isolated] := by
    rw [s.isolateBegun_loader]
    simp [Loader.isolated]
  rw [(s.isolateRest_afterHold l).loader, State.emitHold_loader_of_idle _ idle, s.isolateBegun_loader]

theorem State.isolateRest_others (l : LoaderId) : s.otherLoaders l (s.isolateRest l) := by
  intro n ne
  rw [(s.isolateRest_afterHold l).loader, State.emitHold_loader_ne _ ne,
    s.isolateBegun_loader_ne ne]

theorem State.isolateRest_fleet (l : LoaderId) : (s.isolateRest l).fleet = s.ordered l .hold := by
  rw [(s.isolateRest_afterHold l).fleet, State.emitHold_fleet,
    (s.isolateBegun_after l).ordered, (State.modLoader_sameBut _ l _).ordered,
    (s.vacate_sameBut l).ordered]

theorem State.isolateRest_slot (l : LoaderId) (c : ChairId) (i : SlotId) :
    (s.isolateRest l).slot c i =
      { s.slot c i with
        contents := if (s.loader l).heldAt c i then .empty else (s.slot c i).contents } := by
  rw [(s.isolateRest_afterHold l).slot, (State.emitHold_sameBut _ l).slot,
    (s.isolateBegun_after l).slot, State.modLoader_slot, s.vacate_slot]

theorem State.isolateRest_sameBut (l : LoaderId) : s.sameBut [.loaders, .chairs, .watch, .queues,
    .supQueue, .fleet, .lamps, .zones, .closures] (s.isolateRest l) :=
  (((((s.vacate_sameBut l).mono (by simp)).trans ((State.modLoader_sameBut _ l _).mono (by simp))).trans
    ((s.isolateBegun_after l).mono (by simp))).trans
    ((State.emitHold_sameBut _ l).mono (by simp))).trans
    ((s.isolateRest_afterHold l).mono (by simp))

/-- Settles O23: the abort keeps the holder's hands on the loader, and the rest takes them off. -/
theorem isolateTakesLoaderOut : Obligations.IsolateTakesLoaderOut := by
  unfold Obligations.IsolateTakesLoaderOut
  intro s a h loader l sender ready heard is_l enrolled
  let r := a.ok h .isolate (.loader l)
  let b := r.isolateAbort l
  have gate : exec (.isolate h loader) s = .next (a.takeIsolate h loader) :=
    exec_of_ready rfl ready heard
  have examine : a.examineSup h loader = .ok l :=
    a.examineSup_ok.mpr ⟨fromSup_of sender, is_l, enrolled⟩
  have taken : a.takeIsolate h loader =
      if (a.loader l).state = .isolated then r else b.isolateRest l := a.examined_ok examine
  refine ⟨fun out => ?_, fun running => ⟨b.isolateRest l, by rw [gate, taken, if_neg running], ?_⟩⟩
  · rw [gate, taken, if_pos out, ← a.ok_sup_eq sender]
  have replied : a.sameBut [.supQueue] r := a.ok_sameBut_supQueue sender .isolate _
  have kept := r.isolateAbort_record l
  rw [b.isolateRest_loader]
  refine ⟨rfl, rfl, rfl, rfl, rfl, rfl, rfl, rfl, ?_, ?_, ?_, fun y holder => ?_, fun calm => ?_,
    fun k x flight => ?_, ?_, ?_⟩
  · exact kept.epoch.trans (by rw [replied.loader])
  · exact kept.position.trans (by rw [replied.loader])
  · exact kept.silence.trans (by rw [replied.loader])
  · have held : (b.loader l).heldAt y.chair y.slot = true :=
      ((b.loader l).heldAt_iff _ _).mpr ⟨y, by rw [kept.holder, replied.loader]; exact holder, rfl, rfl⟩
    rw [b.isolateRest_slot, held, if_pos rfl]
  · have same : b = r := r.isolateAbort_calm (by rw [replied.loader]; exact calm)
    rw [same]
    refine ⟨fun n ne => ?_, ?_, ?_⟩
    · rw [r.isolateRest_others l n ne, replied.loader]
    · rw [r.isolateRest_fleet, replied.ordered]
    · exact ((replied.mono (by simp)).trans (r.isolateRest_sameBut l)) .handovers (by simp)
  · have flight' := replied.inFlight flight
    have used := flight'.2.2.1
    have named := flight'.2.2.2
    have same : b = r.abort k .isolated := r.isolateAbort_inFlight flight'
    rw [(b.isolateRest_sameBut l).handover, same]
    refine ⟨by rw [State.abort_handover used, if_pos rfl], fun n ne => ?_, fun n ne => ?_⟩
    · rw [(State.isolateRest_sameBut _ l).handover, State.abort_handover used, if_neg ne,
        replied.handover]
    · rw [State.isolateRest_others _ l n ne,
        State.abort_loader_ne used _ (by rw [named]; exact ne), replied.loader]
  · have room : (a.queue h.sender.port).fullOfReplies = false := by
      rw [heard, sender]
      have := ready.2
      rw [sender] at this
      exact this
    have queued := a.ok_queued room .isolate (.loader l)
    rw [sender] at queued
    exact ((r.isolateAbort_tells l).trans (b.isolateRest_tells l)).queued_reply rfl queued
  · exact ((replied.mono (by simp)).trans ((r.isolateAbort_sameBut l).mono (by simp [haltParts]))).trans
      ((b.isolateRest_sameBut l).mono (by simp))

end Sys2Proof.Machine
end

section
/-! PROOF. The breach of a barrier (02 R38). -/

namespace Sys2Proof.Machine

-- One theorem after another, so that the compile stays within its memory.
set_option Elab.async false

variable (s : State)

/-- A halt leaves the same of a record that an abort has sent back as of the record before. -/
theorem Loader.haltedBy.of_reverted {r r' : Loader} {prior : LoaderState} {x : Handover}
    {lapse : Nat} {cause : Cause} {sec : Word32}
    (h : (r.reverted prior x lapse).haltedBy r' cause sec) : r.haltedBy r' cause sec := by
  cases prior <;> exact h

theorem Loader.reverted_position {r : Loader} {prior : LoaderState} {x : Handover} {lapse : Nat} :
    (r.reverted prior x lapse).position = r.position := by
  cases prior <;> rfl

/-- A record that has gone back to PARKED or HALTED (04 R89). -/
theorem Loader.reverted_backFrom {r : Loader} {prior : LoaderState} {x : Handover} {lapse : Nat}
    (from_prior : r.prior = some prior) (back : prior ∈ [LoaderState.parked, .halted]) :
    r.backFrom (r.reverted prior x lapse) x.held := by
  simp only [List.mem_cons, List.not_mem_nil, or_false] at back
  unfold Loader.backFrom
  rw [from_prior]
  rcases back with rfl | rfl <;> rfl

/-- The handover is one that a breach of the level ends (02 R38, step 1). -/
def State.breachEnds (s : State) (n : LevelId) (x : Handover) : Prop :=
  (s.loader x.loader).onLevel n = true ∧
    ((s.loader x.loader).holder.map (·.mode) = some .supervised ∨ x.target = .supervised)

/-- The record is one that a breach of the level halts (02 R38, step 2). -/
def Loader.breachHalts (r : Loader) (n : LevelId) : Prop :=
  r.state ∈ [LoaderState.supervised, .orphaned] ∧ r.onLevel n = true

theorem State.mem_breachContexts {n : LevelId} {k : CtxId} {x : Handover}
    (used : s.handover k = some x) : k ∈ s.breachContexts n ↔ s.breachEnds n x := by
  rw [State.breachContexts, s.mem_contextsWhere, State.breachEnds]
  simp [used, Loader.heldMode]

theorem State.mem_breachLoaders {n : LevelId} {l : LoaderId} :
    l ∈ s.breachLoaders n ↔ (s.loader l).breachHalts n := by
  rw [State.breachLoaders, s.mem_loadersWhere, Loader.breachHalts]
  simp

theorem State.breachEnds_congr {s t : State} {n : LevelId} {x : Handover}
    (same : t.loader x.loader = s.loader x.loader) : t.breachEnds n x ↔ s.breachEnds n x := by
  rw [State.breachEnds, State.breachEnds, same]

/-- The handovers are ended. -/
def State.breachAborted (s : State) (n : LevelId) : State :=
  s.abortAll (s.breachContexts n) fun _ => .barrier

/-- The loaders are halted. -/
def State.breachHalted (s : State) (n : LevelId) : State :=
  (s.breachAborted n).haltAll ((s.breachAborted n).breachLoaders n) .barrier

theorem State.breach_eq (n : LevelId) : s.breach n =
    ((((s.setBarrier n true).breachHalted n).checkClosures fun z => levelOf z == n).tellSup
      (.barrierChange n true ((s.setBarrier n true).breachContexts n).length
        (((s.setBarrier n true).breachAborted n).breachLoaders n).length)) := rfl

theorem State.breachHalted_sameBut (n : LevelId) : s.sameBut haltParts (s.breachHalted n) :=
  (s.abortAll_sameBut _ _).trans ((State.haltAll_sameBut _ _ _).mono (by simp [haltParts]))

theorem State.breachHalted_handover {n : LevelId} {k : CtxId} {x : Handover}
    (used : s.handover k = some x) :
    (s.breachEnds n x → (s.breachHalted n).handover k = none) ∧
      (¬ s.breachEnds n x → (s.breachHalted n).handover k = some x) := by
  rw [State.breachHalted, (State.haltAll_sameBut _ _ _).handover, State.breachAborted,
    State.abortAll_handover, used, ← s.mem_breachContexts used]
  exact ⟨fun ended => if_pos ended, fun other => if_neg other⟩

theorem State.breachHalted_halts {s : State} {n : LevelId} {l : LoaderId}
    (halts : ((s.breachAborted n).loader l).breachHalts n) :
    ((s.breachAborted n).loader l).haltedBy ((s.breachHalted n).loader l) .barrier s.seconds := by
  have halted := State.haltAll_loader_mem (s := s.breachAborted n) (cause := .barrier)
    ((s.breachAborted n).loadersWhere_nodup _) ((s.breachAborted n).mem_breachLoaders.mpr halts)
  rw [State.breachAborted, (s.abortAll_sameBut _ _).seconds] at halted
  exact halted

theorem State.breachHalted_keeps {s : State} {n : LevelId} {l : LoaderId}
    (calm : ¬ ((s.breachAborted n).loader l).breachHalts n) :
    (s.breachHalted n).loader l = (s.breachAborted n).loader l :=
  State.haltAll_loader_not_mem _ _ fun mem => calm ((s.breachAborted n).mem_breachLoaders.mp mem)

/-- A loader of no ended handover. -/
theorem State.breachHalted_unended {n : LevelId} {l : LoaderId}
    (unended : ∀ k x, s.handover k = some x → x.loader = l → ¬ s.breachEnds n x) :
    ((s.loader l).breachHalts n →
      (s.loader l).haltedBy ((s.breachHalted n).loader l) .barrier s.seconds) ∧
    (¬ (s.loader l).breachHalts n → (s.breachHalted n).loader l = s.loader l) := by
  have kept : (s.breachAborted n).loader l = s.loader l :=
    s.abortAll_loader_unnamed _ fun k hk x used is_l =>
      unended k x used is_l ((s.mem_breachContexts used).mp hk)
  refine ⟨fun halts => ?_, fun calm => by rw [State.breachHalted_keeps (kept ▸ calm), kept]⟩
  have halted := State.breachHalted_halts (n := n) (l := l) (kept ▸ halts)
  rw [kept] at halted
  exact halted

/-- The record of a loader whose handover the breach ends. -/
theorem State.breachAborted_ended {s : State} {n : LevelId} {l : LoaderId} {k : CtxId}
    {x : Handover} {prior : LoaderState} (law : s.transferLaw) (flight : s.inFlight l k x)
    (from_prior : (s.loader l).prior = some prior) (ends : s.breachEnds n x) :
    (s.breachAborted n).loader l = (s.loader l).reverted prior x s.params.driveLapse := by
  have only : ∀ m ∈ s.breachContexts n, ∀ y ∈ s.handover m, y.loader = x.loader → m = k :=
    fun m _ y used named => law.only flight used (named.trans flight.2.2.2)
  obtain ⟨-, -, used, rfl⟩ := flight
  have record : (s.breachAborted n).loader x.loader = s.abortRecord x .barrier :=
    State.abortAll_loader_named (fun _ => .barrier) ((s.mem_breachContexts used).mpr ends) used only
  rw [record, State.abortRecord_revert rfl from_prior]

/-- What the breach leaves of a loader in flight. -/
theorem State.breachHalted_inFlight {n : LevelId} {l : LoaderId} {k : CtxId} {x : Handover}
    {p : LoaderState} (law : s.transferLaw) (flight : s.inFlight l k x)
    (from_prior : (s.loader l).prior = some p) (ends : s.breachEnds n x) :
    (∀ i ∈ x.slot, ((s.breachHalted n).slot x.taking i).contents = .empty) ∧
    (p ∈ [LoaderState.supervised, .orphaned] →
      (s.loader l).haltedBy ((s.breachHalted n).loader l) .barrier s.seconds) ∧
    (p ∉ [LoaderState.supervised, .orphaned] →
      (s.breachHalted n).loader l = (s.loader l).reverted p x s.params.driveLapse) := by
  have record := State.breachAborted_ended law flight from_prior ends
  have listed := (s.mem_breachContexts flight.2.2.1).mpr ends
  have here : (s.loader l).onLevel n = true := flight.2.2.2 ▸ ends.1
  refine ⟨fun i slot => ?_, fun halts => ?_, fun back => ?_⟩
  · exact State.haltAll_emptied _ (State.abortAll_takingSlot listed flight.2.2.1 slot)
  · refine Loader.haltedBy.of_reverted (prior := p) (x := x) (lapse := s.params.driveLapse) ?_
    rw [← record]
    refine State.breachHalted_halts ?_
    rw [record]
    refine ⟨by rw [Loader.reverted_state]; exact halts, ?_⟩
    rw [Loader.onLevel, Loader.reverted_position]
    exact here
  · rw [State.breachHalted_keeps, record]
    rw [record]
    rintro ⟨state, -⟩
    rw [Loader.reverted_state] at state
    exact back state

/-- Settles O43. -/
theorem barrierBreachHaltsSupervised : Obligations.BarrierBreachHaltsSupervised := by
  unfold Obligations.BarrierBreachHaltsSupervised
  intro s n released
  refine ⟨fun clear => ?_, fun asserted => ?_, fun asserted => ?_, fun clear => ?_⟩
  · let a : State := (s.setBarrierInput n true).setBarrier n true
    let b := a.breachHalted n
    have before : s.sameBut [.barriers, .inputs] a := by
      intro p other
      cases p <;> simp_all [Part.same, a, State.setBarrierInput, State.setBarrier]
    let c := b.checkClosures fun z => levelOf z == n
    let t := c.tellSup (.barrierChange n true (a.breachContexts n).length
      ((a.breachAborted n).breachLoaders n).length)
    have next : exec (.barrierBreach n) s = .next t := by
      have gate : exec (.barrierBreach n) s = .next (s.assertBarrier n) := rfl
      have running : (s.setBarrierInput n true).inReset = false := released
      rw [gate, State.assertBarrier]
      simp only [(s.setBarrierInput n true).running_of _ running, clear, Bool.not_false, if_true,
        State.breach_eq]
      rfl
    have halted : a.sameBut haltParts b := a.breachHalted_sameBut n
    have after : b.sameBut [.zones, .closures, .queues, .supQueue] t :=
      (b.checkClosures_sameBut _).trans ((c.tellSup_sameBut _).mono (by simp))
    have changed : a.sameBut eventParts t :=
      (halted.mono (by simp [haltParts])).trans (after.mono (by simp))
    have ends : ∀ x, a.breachEnds n x ↔ (s.loader x.loader).onLevel n = true ∧
        ((s.loader x.loader).holder.map (·.mode) = some .supervised ∨ x.target = .supervised) :=
      fun x => State.breachEnds_congr (before.loader _)
    refine ⟨t, next, ?_, ?_, fun l unnamed => ?_, fun k x used => ?_,
      fun l k x p law flight from_prior => ?_, ?_⟩
    · exact changed .barriers (by decide)
    · exact changed .inputs (by decide)
    · have left := a.breachHalted_unended (n := n) (l := l)
        fun k x used is_l _ => unnamed k x (by rw [← before.handover]; exact used) is_l
      rw [before.loader, before.seconds] at left
      rw [after.loader]
      split
      · next halts => exact left.1 halts
      · next calm => exact left.2 calm
    · obtain ⟨ended, other⟩ :=
        a.breachHalted_handover (n := n) (k := k) (x := x) (by rw [before.handover]; exact used)
      rw [ends] at ended other
      rw [after.handover]
      split
      · next both => exact ended both
      · next unended => exact other unended
    · have flight' := before.inFlight flight
      have law' : a.transferLaw := law
      have is_l := flight.2.2.2
      split
      · next both =>
        have ended : a.breachEnds n x := (ends x).mpr (is_l ▸ both)
        obtain ⟨emptied, halts, back⟩ := a.breachHalted_inFlight law' flight'
          (by rw [before.loader]; exact from_prior) ended
        rw [before.loader, before.seconds] at halts
        rw [before.loader, before.params] at back
        refine ⟨fun i slot => by rw [after.slot]; exact emptied i slot, fun prior => ?_,
          fun prior => ?_, fun prior => ?_⟩
        · rw [after.loader]
          exact halts prior
        · rw [after.loader, back (by simp [prior]), prior]
          rfl
        · rw [after.loader, back (by
            simp only [List.mem_cons, List.not_mem_nil, or_false] at prior
            rcases prior with rfl | rfl <;> simp)]
          exact Loader.reverted_backFrom from_prior prior
      · next other =>
        have left := a.breachHalted_unended (n := n) (l := l) fun m y used named ended => by
          have same := law'.only flight' used named
          subst same
          rw [flight'.2.2.1] at used
          cases used
          exact other (is_l ▸ (ends x).mp ended)
        have calm : ¬ (a.loader l).breachHalts n := fun h => by
          have state := h.1
          rw [flight'.1] at state
          exact absurd state (by decide)
        rw [after.loader, left.2 calm, before.loader]
    · exact (before.mono (by simp)).trans (changed.mono (by simp [eventParts]))
  · have gate : exec (.barrierRelease n) s = .next (s.releaseBarrier n) := rfl
    have running : (s.setBarrierInput n false).inReset = false := released
    rw [gate, State.releaseBarrier]
    simp only [(s.setBarrierInput n false).running_of _ running, asserted, if_true]
    rfl
  · have gate : exec (.barrierBreach n) s = .next (s.assertBarrier n) := rfl
    have running : (s.setBarrierInput n true).inReset = false := released
    rw [gate, State.assertBarrier]
    simp only [(s.setBarrierInput n true).running_of _ running, asserted, Bool.not_true,
      Bool.false_eq_true, if_false]
    rfl
  · have gate : exec (.barrierRelease n) s = .next (s.releaseBarrier n) := rfl
    have running : (s.setBarrierInput n false).inReset = false := released
    rw [gate, State.releaseBarrier]
    simp only [(s.setBarrierInput n false).running_of _ running, clear, Bool.false_eq_true, if_false]
    rfl

end Sys2Proof.Machine
end

section
/-! PROOF. CLOSE_ZONE and CANCEL_CLOSURE (02 R34, R35, R37). -/

namespace Sys2Proof.Machine

-- One theorem after another, so that the compile stays within its memory.
set_option Elab.async false

variable (s : State)

theorem State.sameBut.transferLaw {ps : List Part} {s t : State} (frame : s.sameBut ps t)
    (law : s.transferLaw) (loaders : Part.loaders ∉ ps := by decide)
    (handovers : Part.handovers ∉ ps := by decide) : t.transferLaw := by
  unfold State.transferLaw at law ⊢
  simpa only [frame.loader _ loaders, frame.handover _ handovers] using law

/-! ## The steps of a closure's beginning -/

/-- The context is taken and the zone is Closing (02 R34, step 1). -/
def State.closureBegun (s : State) (z : ZoneId) (k : ClosureId) (time : Nat) : State :=
  (s.setClosure k (some ⟨z, time, ⟨1000 * time, 0⟩, s.seconds⟩)).modZone z
    fun x => { x with closing := some k }

/-- The handovers in the zone are ended (02 R34, step 2). -/
def State.closureAborted (s : State) (z : ZoneId) (k : ClosureId) (time : Nat) : State :=
  (s.closureBegun z k time).abortAll ((s.closureBegun z k time).contextsIn z) fun _ => .closing

/-- Holders are told to leave (02 R34, step 3). -/
def State.tellAllEvacuate (s : State) (ls : List LoaderId) (z : ZoneId) (time : Nat) : State :=
  ls.foldl (fun s l => s.tellEvacuate z time l) s

/-- The closure stands before the zone is first checked. -/
def State.closureTold (s : State) (z : ZoneId) (k : ClosureId) (time : Nat) : State :=
  (s.closureAborted z k time).tellAllEvacuate ((s.closureAborted z k time).authorityIn z) z time

theorem State.beginClosure_eq (z : ZoneId) (k : ClosureId) (time : Nat) :
    s.beginClosure z k time = (s.closureTold z k time).checkClosure z := by
  have span : Timer.start (Machine.seconds time) = ⟨1000 * time, 0⟩ := by
    rw [Timer.start, Machine.seconds, Nat.mul_comm]
  rw [State.beginClosure, span]
  rfl

theorem State.closureBegun_sameBut (z : ZoneId) (k : ClosureId) (time : Nat) :
    s.sameBut [.closures, .zones] (s.closureBegun z k time) :=
  ((s.setClosure_sameBut k _).mono (by simp)).trans ((State.modZone_sameBut _ z _).mono (by simp))

theorem State.closureBegun_closure (z : ZoneId) (k n : ClosureId) (time : Nat) :
    (s.closureBegun z k time).closure n =
      if n = k then some ⟨z, time, ⟨1000 * time, 0⟩, s.seconds⟩ else s.closure n := by
  rw [State.closureBegun, (State.modZone_sameBut _ z _).closure]
  by_cases same : n = k
  · rw [if_pos same, same, State.setClosure_closure_self]
  · rw [if_neg same, State.setClosure_closure_ne _ same]

theorem State.closureBegun_zone (z y : ZoneId) (k : ClosureId) (time : Nat) :
    (s.closureBegun z k time).zone y =
      if y = z then { s.zone z with closing := some k } else s.zone y := by
  rw [State.closureBegun]
  by_cases same : y = z
  · rw [if_pos same, same, State.modZone_zone_self, (s.setClosure_sameBut k _).zone]
  · rw [if_neg same, State.modZone_zone_ne _ same, (s.setClosure_sameBut k _).zone]

theorem State.tellEvacuate_sameBut (z : ZoneId) (time : Nat) (l : LoaderId) :
    s.sameBut [.queues, .supQueue] (s.tellEvacuate z time l) := s.tellChair?_sameBut _ _

theorem State.tellAllEvacuate_sameBut (ls : List LoaderId) (z : ZoneId) (time : Nat) :
    s.sameBut [.queues, .supQueue] (s.tellAllEvacuate ls z time) :=
  State.sameBut.foldl (fun s l => s.tellEvacuate_sameBut z time l) ls s

theorem State.tellEvacuate_tells (z : ZoneId) (time : Nat) (l : LoaderId) :
    s.tells 1 0 (s.tellEvacuate z time l) := s.tellChair?_tells _ _

theorem State.tellAllEvacuate_tells (ls : List LoaderId) (z : ZoneId) (time : Nat) :
    s.tells ls.length 0 (s.tellAllEvacuate ls z time) :=
  (State.tells.foldl (fun s l => s.tellEvacuate_tells z time l) ls s).mono

theorem State.tellAllEvacuate_cons (l : LoaderId) (ls : List LoaderId) (z : ZoneId) (time : Nat) :
    s.tellAllEvacuate (l :: ls) z time = (s.tellEvacuate z time l).tellAllEvacuate ls z time := rfl

/-- The holder of a listed loader receives EVACUATE, where its queue has room for all of them. -/
theorem State.tellAllEvacuate_queued {s : State} {ls : List LoaderId} {z : ZoneId} {time : Nat}
    {l : LoaderId} {c : ChairId} (listed : l ∈ ls) (held : (s.loader l).heldBy c = true)
    (up : s.isUp c = true) (room : (s.queue (.chair c)).frames.length + ls.length ≤ 32) :
    (s.tellAllEvacuate ls z time).queued (.chair c) ⟨0, .notice (.evacuate z l time)⟩ := by
  induction ls generalizing s with
  | nil => exact absurd listed (by simp)
  | cons n ls ih =>
    have first := s.tellEvacuate_tells z time n
    have length : ((s.tellEvacuate z time n).queue (.chair c)).frames.length + ls.length ≤ 32 := by
      rw [List.length_cons] at room
      have grown := first.length (p := .chair c) (by simp only [noticeCount]; omega)
      simp only [noticeCount] at grown
      omega
    rw [s.tellAllEvacuate_cons]
    by_cases same : l = n
    · subst same
      have told : s.tellEvacuate z time l = s.tellChair c (.evacuate z l time) := by
        rw [State.tellEvacuate, Loader.heldBy_some.mp held]
        rfl
      refine (State.tellAllEvacuate_tells _ ls z time).queued (by exact length) ?_
      rw [told]
      exact State.tellChair_queued up _ (by simp at room; omega)
    · refine ih ((List.mem_cons.mp listed).resolve_left same) ?_ ?_ length
      · rw [(s.tellEvacuate_sameBut z time n).loader]
        exact held
      · rw [State.isUp, (s.tellEvacuate_sameBut z time n).link]
        exact up

theorem State.mem_contextsIn {z : ZoneId} {k : CtxId} :
    k ∈ s.contextsIn z ↔ ∃ x, s.handover k = some x ∧ (s.loader x.loader).inZone z = true :=
  s.mem_contextsWhere

theorem State.mem_authorityIn {z : ZoneId} {l : LoaderId} :
    l ∈ s.authorityIn z ↔ (s.loader l).hasAuthority = true ∧ (s.loader l).inZone z = true := by
  rw [State.authorityIn, s.mem_loadersWhere, Bool.and_eq_true]

/-- What the check of a zone leaves of its context and its descriptor (02 R35). -/
structure State.closureLeft (s t : State) (z : ZoneId) (k : ClosureId) (time : Nat) : Prop where
  waits : (∃ l, (t.loader l).hasAuthority = true ∧ (t.loader l).inZone z = true) →
    t.closure k = some ⟨z, time, ⟨1000 * time, 0⟩, s.seconds⟩ ∧
      t.zone z = { s.zone z with closing := some k }
  completes : (¬ ∃ l, (t.loader l).hasAuthority = true ∧ (t.loader l).inZone z = true) →
    t.closure k = none ∧ t.zone z = (s.zone z).closed
  otherClosures : ∀ n, n ≠ k → t.closure n = s.closure n
  otherZones : ∀ y, y ≠ z → t.zone y = s.zone y

theorem State.closureTold_sameBut (z : ZoneId) (k : ClosureId) (time : Nat) :
    (s.closureBegun z k time).sameBut haltParts (s.closureTold z k time) :=
  (State.abortAll_sameBut _ _ _).trans
    ((State.tellAllEvacuate_sameBut _ _ z time).mono (by simp [haltParts]))

theorem State.closureTold_waits {z : ZoneId} {k : ClosureId} {time : Nat} {l : LoaderId}
    (authority : ((s.closureTold z k time).loader l).hasAuthority = true)
    (here : ((s.closureTold z k time).loader l).inZone z = true) :
    s.beginClosure z k time = s.closureTold z k time := by
  rw [s.beginClosure_eq, State.checkClosure_waits 0 authority here]

theorem State.closureTold_closing (z : ZoneId) (k : ClosureId) (time : Nat) :
    ((s.closureTold z k time).zone z).closing = some k := by
  rw [(s.closureTold_sameBut z k time).zone, s.closureBegun_zone, if_pos rfl]

theorem State.beginClosure_afterTold (z : ZoneId) (k : ClosureId) (time : Nat) :
    (s.closureTold z k time).sameBut [.closures, .zones, .supQueue] (s.beginClosure z k time) := by
  rw [s.beginClosure_eq]
  exact (State.checkClosure_sameBut_supQueue _ z 0).mono (by simp)

theorem State.beginClosure_left (z : ZoneId) (k : ClosureId) (time : Nat) :
    s.closureLeft (s.beginClosure z k time) z k time := by
  have told := s.closureTold_sameBut z k time
  have loader : ∀ l, (s.beginClosure z k time).loader l = (s.closureTold z k time).loader l :=
    (s.beginClosure_afterTold z k time).loader
  have zone : ∀ y, (s.closureTold z k time).zone y =
      if y = z then { s.zone z with closing := some k } else s.zone y := fun y => by
    rw [told.zone, s.closureBegun_zone]
  have closure : ∀ n, (s.closureTold z k time).closure n =
      if n = k then some ⟨z, time, ⟨1000 * time, 0⟩, s.seconds⟩ else s.closure n := fun n => by
    rw [told.closure, s.closureBegun_closure]
  by_cases waits : ∃ l, ((s.closureTold z k time).loader l).hasAuthority = true ∧
      ((s.closureTold z k time).loader l).inZone z = true
  · obtain ⟨l, authority, here⟩ := waits
    rw [s.closureTold_waits authority here]
    refine ⟨fun _ => ⟨by rw [closure, if_pos rfl], by rw [zone, if_pos rfl]⟩,
      fun calm => absurd ⟨l, authority, here⟩ calm, fun n ne => by rw [closure, if_neg ne],
      fun y ne => by rw [zone, if_neg ne]⟩
  · have complete : s.beginClosure z k time = (s.closureTold z k time).completeClosure z k 0 := by
      rw [s.beginClosure_eq]
      refine State.checkClosure_complete 0 (s.closureTold_closing z k time) fun l authority => ?_
      exact Bool.eq_false_iff.mpr fun here => waits ⟨l, authority, here⟩
    refine ⟨fun busy => absurd ?_ waits, fun _ => ?_, fun n ne => ?_, fun y ne => ?_⟩
    · simpa only [loader] using busy
    · rw [complete, State.completeClosure_closure, if_pos rfl, State.completeClosure_zone, if_pos rfl,
        zone, if_pos rfl]
      exact ⟨rfl, rfl⟩
    · rw [complete, State.completeClosure_closure, if_neg ne, closure, if_neg ne]
    · rw [complete, State.completeClosure_zone, if_neg ne, zone, if_neg ne]

theorem State.beginClosure_tells (z : ZoneId) (k : ClosureId) (time : Nat) :
    ∃ a b, s.tells a b (s.beginClosure z k time) := by
  rw [s.beginClosure_eq]
  exact ⟨_, _, (((State.abortAll_tells _ _ _).after (s.closureBegun_sameBut z k time)).trans
    (State.tellAllEvacuate_tells _ _ z time)).trans (State.checkClosure_tells _ z 0)⟩

/-- The records, slots and handovers are those that the aborts leave. -/
theorem State.beginClosure_afterAborts (z : ZoneId) (k : ClosureId) (time : Nat) :
    (s.closureAborted z k time).sameBut [.closures, .zones, .queues, .supQueue]
      (s.beginClosure z k time) :=
  ((State.tellAllEvacuate_sameBut _ _ z time).mono (by simp)).trans
    ((s.beginClosure_afterTold z k time).mono (by simp))

theorem State.beginClosure_handover (z : ZoneId) (k : ClosureId) (time : Nat) (n : CtxId) :
    (s.beginClosure z k time).handover n =
      if ∃ x ∈ s.handover n, (s.loader x.loader).inZone z = true then none else s.handover n := by
  have begun := s.closureBegun_sameBut z k time
  rw [(s.beginClosure_afterAborts z k time).handover, State.closureAborted, State.abortAll_handover]
  refine if_congr ?_ rfl (begun.handover n)
  rw [State.mem_contextsIn, begun.handover]
  simp only [begun.loader, Option.mem_def]

theorem State.beginClosure_loader_out {s : State} {z : ZoneId} {l : LoaderId} (k : ClosureId)
    (time : Nat) (out : ∀ n x, s.handover n = some x → x.loader = l → (s.loader l).inZone z = false) :
    (s.beginClosure z k time).loader l = s.loader l := by
  have begun := s.closureBegun_sameBut z k time
  rw [(s.beginClosure_afterAborts z k time).loader, State.closureAborted,
    State.abortAll_loader_unnamed, begun.loader]
  rintro n listed x used rfl
  obtain ⟨y, used', here⟩ := (State.mem_contextsIn _).mp listed
  rw [used] at used'
  cases used'
  rw [begun.handover] at used
  rw [begun.loader, out n x used rfl] at here
  cases here

theorem State.beginClosure_inFlight {s : State} {z : ZoneId} {l : LoaderId} {n : CtxId}
    {x : Handover} {p : LoaderState} (k : ClosureId) (time : Nat) (law : s.transferLaw)
    (flight : s.inFlight l n x) (here : (s.loader l).inZone z = true)
    (from_prior : (s.loader l).prior = some p) :
    (s.beginClosure z k time).loader l = (s.loader l).reverted p x s.params.driveLapse ∧
      ∀ i ∈ x.slot, ((s.beginClosure z k time).slot x.taking i).contents = .empty := by
  have begun := s.closureBegun_sameBut z k time
  have flight' := begun.inFlight flight
  have law' : (s.closureBegun z k time).transferLaw := law
  have is_l := flight.2.2.2
  have used := flight'.2.2.1
  have listed : n ∈ (s.closureBegun z k time).contextsIn z :=
    (State.mem_contextsIn _).mpr ⟨x, used, by rw [begun.loader, is_l]; exact here⟩
  have after := s.beginClosure_afterAborts z k time
  refine ⟨?_, fun i slot => ?_⟩
  · have record := State.abortAll_loader_named (fun _ => AbortEvent.closing) listed used
      fun m _ y used' named => law'.only flight' used' (named.trans is_l)
    rw [State.abortRecord_revert rfl (prior := p) (by rw [begun.loader, is_l]; exact from_prior),
      is_l, begun.loader, begun.params] at record
    rw [after.loader]
    exact record
  · rw [after.slot]
    exact State.abortAll_takingSlot listed used slot

theorem State.beginClosure_sameBut (z : ZoneId) (k : ClosureId) (time : Nat) :
    s.sameBut eventParts (s.beginClosure z k time) :=
  (((s.closureBegun_sameBut z k time).mono (by simp)).trans
    ((State.abortAll_sameBut _ _ _).mono (by simp [haltParts]))).trans
    ((s.beginClosure_afterAborts z k time).mono (by simp))

/-- With no handover in the zone only the queues see the closure begin. -/
theorem State.closureAborted_calm {s : State} {z : ZoneId} (k : ClosureId) (time : Nat)
    (calm : ∀ n, ∀ x ∈ s.handover n, (s.loader x.loader).inZone z = false) :
    s.closureAborted z k time = s.closureBegun z k time := by
  have begun := s.closureBegun_sameBut z k time
  have none_ended : (s.closureBegun z k time).contextsIn z = [] := by
    refine List.eq_nil_iff_forall_not_mem.mpr fun n listed => ?_
    obtain ⟨x, used, here⟩ := (State.mem_contextsIn _).mp listed
    rw [begun.handover] at used
    rw [begun.loader, calm n x used] at here
    cases here
  rw [State.closureAborted, none_ended]
  rfl

theorem State.beginClosure_sameBut_calm {s : State} {z : ZoneId} (k : ClosureId) (time : Nat)
    (calm : ∀ n, ∀ x ∈ s.handover n, (s.loader x.loader).inZone z = false) :
    s.sameBut [.closures, .zones, .queues, .supQueue] (s.beginClosure z k time) := by
  have after := s.beginClosure_afterAborts z k time
  rw [State.closureAborted_calm k time calm] at after
  exact ((s.closureBegun_sameBut z k time).mono (by simp)).trans after

theorem State.beginClosure_evacuates {s : State} {z : ZoneId} (k : ClosureId) (time : Nat)
    (calm : ∀ n, ∀ x ∈ s.handover n, (s.loader x.loader).inZone z = false) {l : LoaderId}
    {c : ChairId} (authority : (s.loader l).hasAuthority = true)
    (here : (s.loader l).inZone z = true) (held : (s.loader l).heldBy c = true)
    (up : (s.link c).state = .up) (empty : (s.queue (.chair c)).frames = []) :
    (s.beginClosure z k time).queued (.chair c) ⟨0, .notice (.evacuate z l time)⟩ := by
  have begun := s.closureBegun_sameBut z k time
  have told := State.tellAllEvacuate_sameBut (s.closureBegun z k time)
    ((s.closureBegun z k time).authorityIn z) z time
  have stands : s.beginClosure z k time = s.closureTold z k time := by
    refine s.closureTold_waits (l := l) ?_ ?_ <;>
      rw [State.closureTold, State.closureAborted_calm k time calm, told.loader, begun.loader]
    · exact authority
    · exact here
  rw [stands, State.closureTold, State.closureAborted_calm k time calm]
  refine State.tellAllEvacuate_queued ((State.mem_authorityIn _).mpr ?_) ?_ ?_ ?_
  · rw [begun.loader]
    exact ⟨authority, here⟩
  · rw [begun.loader]
    exact held
  · rw [State.isUp, begun.link]
    exact beq_iff_eq.mpr up
  · rw [begun.queue, empty]
    exact (Nat.zero_add _).trans_le ((List.length_filter_le _ _).trans (by simp))

theorem State.freeClosure_of {k : ClosureId} (free : s.closure k = none)
    (first : ∀ n, n < k → s.closure n ≠ none) : s.freeClosure = some k := by
  refine find?_finRange_some (by rw [free]; rfl) fun n below => ?_
  rw [Option.isNone_eq_false_iff]
  exact Option.isSome_iff_ne_none.mpr (first n below)

/-- Settles O41. -/
theorem closureBeginsAndIsCancelled : Obligations.ClosureBeginsAndIsCancelled := by
  unfold Obligations.ClosureBeginsAndIsCancelled
  intro s a h zone time z k stored sender ready heard named time_eq
  have is_z : zoneOf zone = z := zoneOf_eq named
  have saturated : saturate 10 600 time.toNat = stored := by rw [time_eq]; rfl
  let r := a.ok h .closeZone (.closure k stored)
  have replied : a.sameBut [.supQueue] r := a.ok_sameBut_supQueue sender .closeZone _
  have seconds : r.seconds = s.seconds := by
    rw [replied.seconds, heard, sender]
    rfl
  have room : (a.queue h.sender.port).fullOfReplies = false := by
    have waiting := ready.2
    rw [heard, sender] at *
    exact waiting
  have gate : exec (.closeZone h zone time) s = .next (a.takeClose h zone time) :=
    exec_of_ready rfl ready heard
  have gate' : exec (.cancelClosure h zone) s = .next (a.takeCancelClosure h zone) :=
    exec_of_ready rfl ready heard
  have begins : (a.zone z).closing = none → a.closure k = none →
      (∀ n, n < k → a.closure n ≠ none) →
      exec (.closeZone h zone time) s = .next (r.beginClosure z k stored) := by
    intro unclosed free first
    have examine : a.examineClose h zone = .ok k :=
      a.examineClose_ok.mpr ⟨fromSup_of sender, by rw [is_z]; exact unclosed,
        a.freeClosure_of free first⟩
    have taken : a.takeClose h zone time = (a.ok h .closeZone
        (.closure k (saturate 10 600 time.toNat))).beginClosure (zoneOf zone) k
          (saturate 10 600 time.toNat) := a.examined_ok examine
    rw [gate, taken, saturated, is_z]
  have left := r.beginClosure_left z k stored
  have queued : (r.beginClosure z k stored).queued .supervisor
      ⟨h.tag, .reply .closeZone (.ok (.closure k stored))⟩ := by
    obtain ⟨i, j, tells⟩ := r.beginClosure_tells z k stored
    have joined := a.ok_queued room .closeZone (.closure k stored)
    rw [sender] at joined
    exact tells.queued_reply rfl joined
  have others : ∀ n, n ≠ k → (r.beginClosure z k stored).closure n = a.closure n := fun n ne => by
    rw [left.otherClosures n ne, replied.closure]
  have zones : ∀ y, y ≠ z → (r.beginClosure z k stored).zone y = a.zone y := fun y ne => by
    rw [left.otherZones y ne, replied.zone]
  have waits := left.waits
  have completes := left.completes
  rw [seconds, replied.zone] at waits
  rw [replied.zone] at completes
  refine ⟨fun unclosed free first calm => ⟨_, begins unclosed free first, ?_, queued, others, zones,
      ?_⟩, fun unclosed free first law => ⟨_, begins unclosed free first, fun n => ?_,
      fun l n x flight here => ?_, fun l out => ?_, ?_, queued, others, zones, ?_⟩,
    fun closing => ?_, fun unclosed full => ?_, fun n closing => ?_, fun unclosed => ?_⟩
  · have calm' : ∀ n, ∀ x ∈ r.handover n, (r.loader x.loader).inZone z = false := by
      intro n x used
      rw [replied.loader]
      exact calm n x (by rw [← replied.handover]; exact used)
    have frame := State.beginClosure_sameBut_calm k stored calm'
    have same : ∀ l, (r.beginClosure z k stored).loader l = a.loader l := fun l => by
      rw [frame.loader, replied.loader]
    simp only [same] at waits completes
    split
    · next busy =>
      obtain ⟨closure, zone'⟩ := waits busy
      refine ⟨closure, zone', fun l authority here c held up empty => ?_⟩
      exact State.beginClosure_evacuates k stored calm' (by rw [replied.loader]; exact authority)
        (by rw [replied.loader]; exact here) (by rw [replied.loader]; exact held)
        (by rw [replied.link]; exact up) (by
          rw [show r = _ from a.ok_sup_eq sender .closeZone _]; exact empty)
    · next idle => exact completes idle
  · have calm' : ∀ n, ∀ x ∈ r.handover n, (r.loader x.loader).inZone z = false := by
      intro n x used
      rw [replied.loader]
      exact calm n x (by rw [← replied.handover]; exact used)
    exact (replied.mono (by simp)).trans (State.beginClosure_sameBut_calm k stored calm')
  · rw [r.beginClosure_handover, replied.handover]
    simp only [replied.loader]
  · have flight' := replied.inFlight flight
    obtain ⟨p, from_prior, start⟩ : ∃ p, (a.loader l).prior = some p ∧
        p ∈ [LoaderState.driven, .supervised, .orphaned, .parked, .halted] := by
      have prior := (law.2 l flight.1).2
      simp only [List.mem_cons, List.not_mem_nil, or_false] at prior
      rcases prior with e | e | e | e | e <;> exact ⟨_, e, by simp⟩
    obtain ⟨record, emptied⟩ := State.beginClosure_inFlight k stored
      (replied.transferLaw law) flight' (by rw [replied.loader]; exact here)
      (by rw [replied.loader]; exact from_prior)
    rw [replied.loader, replied.params] at record
    obtain ⟨out, context, position, -, halt, -⟩ :=
      Loader.reverted_rest (r := a.loader l) (x := x) (lapse := a.params.driveLapse) start
    rw [record, Loader.reverted_state, Loader.reverted_holder, Loader.reverted_epoch]
    exact ⟨from_prior, out, context, rfl, rfl, position, halt, emptied⟩
  · refine (State.beginClosure_loader_out k stored fun n x used is_l => ?_).trans (replied.loader l)
    rw [replied.handover] at used
    rw [replied.loader]
    rcases out with calm | away
    · exact absurd is_l (law.unnamed calm n x used)
    · exact away
  · split
    · next busy => exact waits busy
    · next idle => exact completes idle
  · exact (replied.mono (by simp)).trans ((r.beginClosure_sameBut z k stored).mono (by simp [eventParts]))
  · rw [gate]
    refine congrArg Host.Outcome.next ((a.examined_error (r := .busy) ?_).trans
      (a.answer_sup sender _ _))
    rw [State.examineClose, fromSup_of sender, ok_bind, is_z,
      ensure_of_not (by rintro e; simp [e] at closing), error_bind]
  · rw [gate]
    have never : a.freeClosure = none := find?_finRange_none fun n => by
      rw [Option.isNone_eq_false_iff]
      exact Option.isSome_iff_ne_none.mpr (full n)
    refine congrArg Host.Outcome.next ((a.examined_error (r := .full) ?_).trans
      (a.answer_sup sender _ _))
    rw [State.examineClose, fromSup_of sender, ok_bind, is_z, ensure_of unclosed, ok_bind, never]
  · have examine : a.examineCancelClosure h zone = .ok n :=
      a.examineCancelClosure_ok.mpr ⟨fromSup_of sender, by rw [is_z]; exact closing⟩
    rw [gate']
    refine congrArg Host.Outcome.next ((a.examined_ok examine).trans ?_)
    rw [is_z, a.ok_sup_eq sender]
    rfl
  · rw [gate']
    refine congrArg Host.Outcome.next ((a.examined_error (r := .noClosure) ?_).trans
      (a.answer_sup sender _ _))
    rw [State.examineCancelClosure, fromSup_of sender, ok_bind, is_z, unclosed]

end Sys2Proof.Machine
end

section
/-! PROOF. RESTART (09 R169). -/

namespace Sys2Proof.Machine

-- One theorem after another, so that the compile stays within its memory.
set_option Elab.async false

variable (s : State)

/-! ## What no loss of authority touches -/

/-- The fields that a loss of authority leaves of a record: the epoch and what the reports wrote. -/
structure Loader.sameReport (r r' : Loader) : Prop where
  epoch : r'.epoch = r.epoch
  position : r'.position = r.position
  lastCount : r'.lastCount = r.lastCount
  silence : r'.silence = r.silence
  radioSilent : r'.radioSilent = r.radioSilent

theorem Loader.sameReport.refl (r : Loader) : r.sameReport r := ⟨rfl, rfl, rfl, rfl, rfl⟩

theorem Loader.sameReport.trans {r r' r'' : Loader} (h : r.sameReport r') (h' : r'.sameReport r'') :
    r.sameReport r'' :=
  ⟨h'.epoch.trans h.epoch, h'.position.trans h.position, h'.lastCount.trans h.lastCount,
    h'.silence.trans h.silence, h'.radioSilent.trans h.radioSilent⟩

theorem Loader.haltedBy.sameReport {r r' : Loader} {cause : Cause} {sec : Word32}
    (h : r.haltedBy r' cause sec) : r.sameReport r' := by
  rw [Loader.haltedBy] at h
  subst h
  exact ⟨rfl, rfl, rfl, rfl, rfl⟩

theorem Loader.haltedFrom.sameReport {r r' : Loader} {held : Option HaltRecord} {cause : Cause}
    {sec : Word32} (h : r.haltedFrom r' held cause sec) : r.sameReport r' := by
  unfold Loader.haltedFrom at h
  split at h
  · subst h
    exact ⟨rfl, rfl, rfl, rfl, rfl⟩
  · exact Loader.haltedBy.sameReport h

theorem State.abort_sameReport {s : State} {e : AbortEvent} (halts : e.halts) (k : CtxId)
    (l : LoaderId) : (s.loader l).sameReport ((s.abort k e).loader l) := by
  by_cases named : ∃ x, s.handover k = some x ∧ x.loader = l
  · obtain ⟨x, used, rfl⟩ := named
    rw [State.abort_loader_own used]
    exact (State.abortRecord_halt (halts _ _)).sameReport
  · rw [State.abort_loader_other fun x used is_l => named ⟨x, used, is_l⟩]
    exact .refl _

theorem State.abortAll_sameReport {s : State} {e : AbortEvent} (halts : e.halts) (ks : List CtxId)
    (l : LoaderId) : (s.loader l).sameReport ((s.abortAll ks fun _ => e).loader l) := by
  induction ks generalizing s with
  | nil => exact .refl _
  | cons k ks ih => exact (State.abort_sameReport halts k l).trans ih

theorem State.haltAll_sameReport {ls : List LoaderId} (nodup : ls.Nodup) (cause : Cause)
    (l : LoaderId) : (s.loader l).sameReport ((s.haltAll ls cause).loader l) := by
  by_cases listed : l ∈ ls
  · exact (State.haltAll_loader_mem nodup listed).sameReport
  · rw [State.haltAll_loader_not_mem _ cause listed]
    exact .refl _

theorem State.furtherAll_sameReport {ls : List LoaderId} (nodup : ls.Nodup) (cause : Cause)
    (l : LoaderId) : (s.loader l).sameReport ((s.furtherAll ls cause).loader l) := by
  by_cases listed : l ∈ ls
  · rw [State.furtherAll_loader_mem nodup listed]
    exact ⟨rfl, rfl, rfl, rfl, rfl⟩
  · rw [State.furtherAll_loader_not_mem _ cause listed]
    exact .refl _

theorem State.takeAllAuthority_sameReport {e : AbortEvent} (halts : e.halts) (l : LoaderId) :
    (s.loader l).sameReport ((s.takeAllAuthority e).loader l) := by
  rw [s.takeAllAuthority_eq, State.takeAuthority_eq]
  exact ((State.abortAll_sameReport halts _ l).trans
    (State.haltAll_sameReport _ ((List.nodup_finRange 32).filter _) _ l)).trans
    (State.furtherAll_sameReport _ s.haltedLoaders_nodup _ l)

theorem State.abortAll_slotsOnly (ks : List CtxId) (e : CtxId → AbortEvent) :
    s.slotsOnly (s.abortAll ks e) := by
  induction ks generalizing s with
  | nil => exact .of_frame (.refl [] s)
  | cons k ks ih => exact (s.abort_slotsOnly k (e k)).trans (ih _)

theorem State.haltAll_slotsOnly (ls : List LoaderId) (cause : Cause) :
    s.slotsOnly (s.haltAll ls cause) := by
  induction ls generalizing s with
  | nil => exact .of_frame (.refl [] s)
  | cons l ls ih => exact (s.enterHaltedWith_slotsOnly l cause none).trans (ih _)

theorem State.takeAllAuthority_slotsOnly (e : AbortEvent) : s.slotsOnly (s.takeAllAuthority e) := by
  rw [s.takeAllAuthority_eq, State.takeAuthority_eq]
  exact ((s.abortAll_slotsOnly _ _).trans (State.haltAll_slotsOnly _ _ _)).trans
    (.of_frame (State.furtherAll_sameBut _ _ _))

/-- An enrolled loader stays enrolled. -/
theorem State.takeAllAuthority_enrolled {e : AbortEvent} (halts : e.halts) {l : LoaderId}
    (enrolled : (s.loader l).state ≠ .unenrolled) :
    ((s.takeAllAuthority e).loader l).state ≠ .unenrolled := by
  by_cases authority : (s.loader l).hasAuthority = true
  · rw [(State.takeAllAuthority_out halts authority).1]
    decide
  · by_cases named : ∃ k x, s.handover k = some x ∧ x.loader = l
    · obtain ⟨k, x, used, rfl⟩ := named
      have out : ((s.authorityAborted (List.finRange 32) e).loader x.loader).out :=
        State.abortAll_out_of halts
          (.inr ⟨k, s.mem_contextsWhere.mpr ⟨x, used, by simp⟩, x, used, rfl⟩)
      have calm : x.loader ∉
          (s.authorityAborted (List.finRange 32) e).withAuthority (List.finRange 32) := fun mem => by
        have has := (List.mem_filter.mp mem).2
        simp only [out.noAuthority, Bool.false_eq_true] at has
      have state : ((s.takeAllAuthority e).loader x.loader).state =
          ((s.authorityAborted (List.finRange 32) e).loader x.loader).state := by
        rw [s.takeAllAuthority_eq, s.takeAuthority_eq]
        by_cases listed : x.loader ∈ s.haltedLoaders
        · rw [State.furtherAll_loader_mem s.haltedLoaders_nodup listed,
            State.haltAll_loader_not_mem _ _ calm]
        · rw [State.furtherAll_loader_not_mem _ _ listed, State.haltAll_loader_not_mem _ _ calm]
      rw [state, out.1]
      decide
    · have left := State.takeAllAuthority_unnamed (e := e) fun k x used is_l =>
        named ⟨k, x, used, is_l⟩
      rw [if_neg authority] at left
      split at left <;> rw [left] <;> exact enrolled

/-! ## The records -/

theorem Loader.restarted_of_enrolled {r : Loader} (enrolled : r.state ≠ .unenrolled) :
    r.restarted = { r with age := 65535, lapse := false, lapseTimer := none } := by
  rw [Loader.restarted, if_neg enrolled]
  rfl

theorem Loader.restarted_sameReport (r : Loader) : r.sameReport r.restarted := by
  unfold Loader.restarted
  split
  · exact .refl r
  · exact ⟨rfl, rfl, rfl, rfl, rfl⟩

theorem Loader.out.restarted {r : Loader} (out : r.out) : r.restarted.out := by
  unfold Loader.restarted
  split <;> exact out

theorem Loader.haltedBy.restarted {r r' : Loader} {cause : Cause} {sec : Word32}
    (h : r.haltedBy r' cause sec) :
    Loader.haltedBy { r with age := 65535 } r'.restarted cause sec := by
  rw [Loader.restarted_of_enrolled (by rw [h.out.1]; decide)]
  rw [Loader.haltedBy] at h ⊢
  rw [h]

theorem Loader.haltedFrom.restarted {r r' : Loader} {held : Option HaltRecord} {cause : Cause}
    {sec : Word32} (h : r.haltedFrom r' held cause sec) :
    Loader.haltedFrom { r with age := 65535 } r'.restarted held cause sec := by
  by_cases from_halted : ∃ x, r.prior = some .halted ∧ held = some x
  · obtain ⟨x, prior, rfl⟩ := from_halted
    rw [Loader.restarted_of_enrolled (by rw [h.out.1]; decide)]
    simp only [Loader.haltedFrom, prior] at h ⊢
    rw [h]
  · have plain : ∀ q : Loader, r.prior = q.prior → ∀ q',
        q.haltedFrom q' held cause sec = q.haltedBy q' cause sec := by
      intro q same q'
      unfold Loader.haltedFrom
      split
      · next prior => exact absurd ⟨_, same.trans prior, rfl⟩ from_halted
      · rfl
    rw [plain r rfl] at h
    rw [plain { r with age := 65535 } rfl]
    exact Loader.haltedBy.restarted h

/-! ## Every closure completes -/

/-- The completion of the closure in one context, if any. -/
def State.completeOne (s : State) (k : ClosureId) : State :=
  match s.closure k with
  | some x => s.completeClosure x.zone k 0
  | none => s

theorem State.completeAll_eq : s.completeAll = (List.finRange 4).foldl State.completeOne s := rfl

theorem State.completeOne_sameBut (k : ClosureId) :
    s.sameBut [.zones, .closures, .supQueue] (s.completeOne k) := by
  unfold State.completeOne
  split
  · exact s.completeClosure_sameBut_supQueue _ k 0
  · exact .refl _ s

theorem State.completeOne_tells (k : ClosureId) : s.tells 0 1 (s.completeOne k) := by
  unfold State.completeOne
  split
  · exact s.completeClosure_tells _ k 0
  · exact .refl _ _ _

theorem State.completeOne_closure (k n : ClosureId) :
    (s.completeOne k).closure n = if n = k then none else s.closure n := by
  unfold State.completeOne
  split
  · next x used => rw [State.completeClosure_closure]
  · next free =>
    split
    · next same => rw [same, free]
    · rfl

theorem State.completeAll_closure_of {ks : List ClosureId} (k : ClosureId) :
    (ks.foldl State.completeOne s).closure k = if k ∈ ks then none else s.closure k := by
  induction ks generalizing s with
  | nil => rfl
  | cons n ks ih =>
    rw [List.foldl_cons, ih, s.completeOne_closure]
    by_cases same : k = n <;> simp [same]

theorem State.completeAll_closure (k : ClosureId) : s.completeAll.closure k = none := by
  rw [s.completeAll_eq, s.completeAll_closure_of, if_pos (List.mem_finRange k)]

/-- A zone that no context in the list names stays as it is. -/
theorem State.completeAll_zone_unnamed {ks : List ClosureId} {z : ZoneId}
    (unnamed : ∀ k, ∀ x ∈ s.closure k, x.zone ≠ z) :
    (ks.foldl State.completeOne s).zone z = s.zone z := by
  induction ks generalizing s with
  | nil => rfl
  | cons n ks ih =>
    rw [List.foldl_cons, ih]
    · unfold State.completeOne
      split
      · next x used => rw [State.completeClosure_zone, if_neg (unnamed n x used).symm]
      · rfl
    · intro k x used
      rw [s.completeOne_closure] at used
      split at used
      · cases used
      · exact unnamed k x used

/-- The zone is Closed, and not Closing. -/
def Zone.shut (z : Zone) : Prop := z.cls = .closed ∧ z.closing = none

theorem State.completeOne_shut {z : ZoneId} {k : ClosureId}
    (shut : (s.zone z).shut ∨ ∃ x, s.closure k = some x ∧ x.zone = z) :
    ((s.completeOne k).zone z).shut := by
  unfold State.completeOne
  split
  · next x used =>
    rw [State.completeClosure_zone]
    split
    · exact ⟨rfl, rfl⟩
    · next other =>
      refine shut.resolve_right ?_
      rintro ⟨y, used', named⟩
      rw [used] at used'
      cases used'
      exact other named.symm
  · next free =>
    refine shut.resolve_right ?_
    rintro ⟨y, used, -⟩
    rw [free] at used
    cases used

theorem State.completeAll_shut {ks : List ClosureId} {z : ZoneId}
    (shut : (s.zone z).shut ∨ ∃ k ∈ ks, ∃ x, s.closure k = some x ∧ x.zone = z) :
    ((ks.foldl State.completeOne s).zone z).shut := by
  induction ks generalizing s with
  | nil => exact shut.resolve_right (by simp)
  | cons n ks ih =>
    refine ih _ ?_
    rcases shut with shut | ⟨k, listed, x, used, named⟩
    · exact .inl (s.completeOne_shut (.inl shut))
    · by_cases same : k = n
      · exact .inl (s.completeOne_shut (.inr ⟨x, same ▸ used, named⟩))
      · exact .inr ⟨k, (List.mem_cons.mp listed).resolve_left same, x,
          by rw [s.completeOne_closure, if_neg same, used], named⟩

theorem State.completeAll_sameBut : s.sameBut [.zones, .closures, .supQueue] s.completeAll :=
  State.sameBut.foldl (fun s k => s.completeOne_sameBut k) _ s

theorem State.completeAll_tells : s.tells 0 4 s.completeAll :=
  (State.tells.foldl (fun s k => s.completeOne_tells k) (List.finRange 4) s).mono (by simp) (by simp)

/-! ## The blocks -/

/-- Step 2 of a RESTART. -/
def State.restartLoaders (s : State) : State :=
  { s with loaders := s.loaders.map Loader.restarted }

theorem State.restartLoaders_loader (l : LoaderId) :
    s.restartLoaders.loader l = (s.loader l).restarted := Vector.getElem_map _ _

theorem State.restartLoaders_sameBut : s.sameBut [.loaders] s.restartLoaders := by
  intro p other
  cases p
  case loaders => simp at other
  all_goals rfl

theorem State.restartBlocks_eq : s.restartBlocks =
    { s.restartLoaders.completeAll with
      chairs := s.restartLoaders.completeAll.chairs.map Chair.restarted
      links := s.restartLoaders.completeAll.links.map
        fun k => k.restarted s.restartLoaders.completeAll.params
      supLink := { s.restartLoaders.completeAll.supLink with errors := 0, tally := 0 } } := rfl

theorem State.restartBlocks_afterClosures :
    s.restartLoaders.completeAll.sameBut [.chairs, .links, .supLink] s.restartBlocks := by
  rw [s.restartBlocks_eq]
  intro p other
  cases p
  case chairs => simp at other
  case links => simp at other
  case supLink => simp at other
  all_goals rfl

theorem State.restartBlocks_beforeChairs :
    s.sameBut [.loaders, .zones, .closures, .supQueue] s.restartLoaders.completeAll :=
  (s.restartLoaders_sameBut.mono (by simp)).trans ((State.completeAll_sameBut _).mono (by simp))

theorem State.restartBlocks_loader (l : LoaderId) :
    s.restartBlocks.loader l = (s.loader l).restarted := by
  rw [s.restartBlocks_afterClosures.loader, (State.completeAll_sameBut _).loader,
    s.restartLoaders_loader]

theorem State.restartBlocks_chair (c : ChairId) :
    s.restartBlocks.chair c = (s.chair c).restarted := by
  rw [← s.restartBlocks_beforeChairs.chair]
  exact Vector.getElem_map _ _

theorem State.restartBlocks_link (c : ChairId) :
    s.restartBlocks.link c = (s.link c).restarted s.params := by
  rw [← s.restartBlocks_beforeChairs.link, ← s.restartBlocks_beforeChairs.params]
  exact Vector.getElem_map _ _

theorem State.restartBlocks_supLink :
    s.restartBlocks.supLink = { s.supLink with errors := 0, tally := 0 } := by
  rw [← s.restartBlocks_beforeChairs.supLink]
  rfl

theorem State.restartBlocks_tells : s.tells 0 4 s.restartBlocks :=
  ((State.completeAll_tells _).after s.restartLoaders_sameBut).before s.restartBlocks_afterClosures

theorem State.restartBlocks_closure (k : ClosureId) : s.restartBlocks.closure k = none := by
  rw [s.restartBlocks_afterClosures.closure, State.completeAll_closure]

theorem State.restartBlocks_zone_unnamed {z : ZoneId}
    (unnamed : ∀ k, ∀ x ∈ s.closure k, x.zone ≠ z) : s.restartBlocks.zone z = s.zone z := by
  rw [s.restartBlocks_afterClosures.zone, State.completeAll_eq,
    State.completeAll_zone_unnamed _ (by simpa only [s.restartLoaders_sameBut.closure] using unnamed),
    s.restartLoaders_sameBut.zone]

theorem State.restartBlocks_shut {k : ClosureId} {x : Closure} (used : s.closure k = some x) :
    (s.restartBlocks.zone x.zone).shut := by
  rw [s.restartBlocks_afterClosures.zone, State.completeAll_eq]
  exact State.completeAll_shut _ (.inr ⟨k, List.mem_finRange k, x,
    by rw [s.restartLoaders_sameBut.closure, used], rfl⟩)

theorem State.restartBlocks_sameBut : s.sameBut [.loaders, .zones, .closures, .supQueue, .chairs,
    .links, .supLink] s.restartBlocks :=
  (s.restartBlocks_beforeChairs.mono (by simp)).trans (s.restartBlocks_afterClosures.mono (by simp))

theorem State.emptyQueues_sameBut : s.sameBut [.watch, .queues, .supQueue] s.emptyQueues := by
  intro p other
  cases p
  case watch => simp at other
  case queues => simp at other
  case supQueue => simp at other
  all_goals rfl

theorem State.emptyQueues_queue (p : Port) : s.emptyQueues.queue p = (s.queue p).emptied := by
  cases p with
  | chair c => exact Vector.getElem_map _ _
  | supervisor => rfl

theorem OutQueue.emptied_frames (q : OutQueue) : q.emptied.frames = [] := rfl

theorem OutQueue.emptied_sending (q : OutQueue) : q.emptied.sending = q.sending := rfl

theorem Chair.restarted_slot (r : Chair) (i : SlotId) :
    r.restarted.slots[i] = { r.slots[i] with lastCount := none, outcome := .fresh } :=
  Vector.getElem_map _ _

theorem State.ok_queue_chair {s : State} {h : Header} (sender : h.sender = .supervisor)
    (k : ReqKind) (b : OkBody) (c : ChairId) : (s.ok h k b).queue (.chair c) = s.queue (.chair c) := by
  rw [s.ok_sup_eq sender]
  rfl

/-- A reply to the supervisor joins an emptied queue. -/
theorem State.ok_emptied_frames {s : State} {h : Header} {q : OutQueue}
    (sender : h.sender = .supervisor) (k : ReqKind) (b : OkBody)
    (emptied : s.queue .supervisor = q.emptied) :
    (s.ok h k b).supQueue.frames = [⟨h.tag, .reply k (.ok b)⟩] := by
  have empty : s.supQueue.frames = [] := congrArg OutQueue.frames emptied
  have joined : (s.ok h k b).supQueue = s.supQueue.join ⟨h.tag, .reply k (.ok b)⟩ := by
    rw [s.ok_sup_eq sender]
  rw [joined, OutQueue.join_of_room (OutQueue.newTo_of_not_report rfl) (by simp [empty]), empty]
  rfl

theorem State.restartCounts_eq : s.restartCounts = .restart
    ((List.finRange 8).countP fun k => (s.handover k).isSome)
    ((List.finRange 32).countP fun l =>
      (s.loader l).hasAuthority && (s.loader l).prior != some .halted)
    ((List.finRange 32).countP fun l => (s.loader l).state == .halted ||
      ((s.loader l).hasAuthority && (s.loader l).prior == some .halted))
    ((List.finRange 4).countP fun k => (s.closure k).isSome) := by
  rw [State.restartCounts, State.contextsInUse, State.toHalt, State.toMark, s.loadersWhere_length,
    s.loadersWhere_length, length_filter_finRange]

/-- Settles O53. -/
theorem restartClearsAuthority : Obligations.RestartClearsAuthority := by
  unfold Obligations.RestartClearsAuthority
  intro s a h sender ready heard
  let b := a.takeAllAuthority .restart
  let c := b.restartBlocks
  let d := c.emptyQueues
  let t := d.ok h .restart a.restartCounts
  have next : exec (.restart h) s = .next t := by
    have gate : exec (.restart h) s = .next (a.takeRestart h) := exec_of_ready rfl ready heard
    have taken : a.takeRestart h = t := a.examined_ok (fromSup_of sender)
    rw [gate, taken]
  have seconds : a.seconds = s.seconds := by
    rw [heard, sender]
    rfl
  have halts := AbortEvent.halts_restart
  have taken : a.sameBut haltParts b := a.takeAllAuthority_frame .restart
  have blocks := b.restartBlocks_sameBut
  have emptied := c.emptyQueues_sameBut
  have replied : d.sameBut [.supQueue] t := d.ok_sameBut_supQueue sender .restart _
  have loader : ∀ l, t.loader l = (b.loader l).restarted := fun l => by
    rw [replied.loader, emptied.loader, b.restartBlocks_loader]
  have chair : ∀ x, t.chair x = (b.chair x).restarted := fun x => by
    rw [replied.chair, emptied.chair, b.restartBlocks_chair]
  have zone : ∀ z, t.zone z = c.zone z := fun z => by rw [replied.zone, emptied.zone]
  have link : ∀ x, t.link x = (a.link x).restarted a.params := fun x => by
    rw [replied.link, emptied.link, b.restartBlocks_link, taken.link, taken.params]
  refine ⟨t, next, fun l authority => ?_, fun l unnamed holds => ?_, fun l k x law flight => ?_,
    fun l unnamed idle => ?_, fun l enrolled => ?_, fun l => ?_, fun k => ?_, fun k => ?_,
    fun k x used => ?_, fun z unnamed => ?_, fun x => ⟨?_, ?_, fun i => ?_⟩, fun x => ?_, ?_, ?_,
    fun x => ?_, ?_, ?_⟩
  · rw [loader]
    exact (State.takeAllAuthority_out halts authority).restarted
  · have left := State.takeAllAuthority_unnamed (e := .restart) unnamed
    have authority : (a.loader l).hasAuthority = true := by
      simp only [List.mem_cons, List.not_mem_nil, or_false] at holds
      rcases holds with e | e | e <;> rw [Loader.hasAuthority, e] <;> rfl
    rw [if_pos authority, seconds] at left
    rw [loader]
    exact Loader.haltedBy.restarted left
  · have left := State.takeAllAuthority_inFlight halts law flight
    rw [seconds] at left
    rw [loader]
    exact Loader.haltedFrom.restarted left
  · have left := State.takeAllAuthority_unnamed (e := .restart) unnamed
    have calm : ¬ (a.loader l).hasAuthority = true := by
      simp only [List.mem_cons, List.not_mem_nil, or_false] at idle
      rcases idle with e | e | e <;> rw [Loader.hasAuthority, e] <;> decide
    have enrolled : (a.loader l).state ≠ .unenrolled := by
      rintro e
      rw [e] at idle
      exact absurd idle (by decide)
    rw [if_neg calm] at left
    rw [loader, Loader.restarted_of_enrolled (a.takeAllAuthority_enrolled halts enrolled)]
    split
    · next halted =>
      rw [if_pos halted] at left
      rw [left]
      rfl
    · next other =>
      rw [if_neg other] at left
      rw [left]
  · rw [loader, Loader.restarted_of_enrolled (a.takeAllAuthority_enrolled halts enrolled)]
    exact ⟨rfl, rfl, rfl⟩
  · rw [loader]
    obtain ⟨epoch, position, lastCount, silence, radioSilent⟩ :=
      (a.takeAllAuthority_sameReport halts l).trans (Loader.restarted_sameReport _)
    exact ⟨epoch, position, lastCount, silence, radioSilent⟩
  · rw [replied.handover, emptied.handover, blocks.handover, State.takeAllAuthority_handover]
  · rw [replied.closure, emptied.closure, b.restartBlocks_closure]
  · rw [zone]
    exact b.restartBlocks_shut (by rw [taken.closure]; exact used)
  · rw [zone, b.restartBlocks_zone_unnamed (by simpa only [taken.closure] using unnamed), taken.zone]
  · rw [chair]
    rfl
  · have kept : (b.chair x).clearance = (a.chair x).clearance := by
      rw [a.takeAllAuthority_slotsOnly .restart x]
    rw [chair, ← kept]
    rfl
  · rw [State.slot, chair, Chair.restarted_slot]
    exact ⟨rfl, rfl⟩
  · rw [link, ChairLink.restarted]
    by_cases down : (a.link x).state = .down
    · simp [down]
    · simp [down, ChairLink.restartSilence, Timer.start]
  · rw [replied.supLink, emptied.supLink, b.restartBlocks_supLink, taken.supLink]
  · rw [replied.watch]
    rfl
  · have queue : t.queue (.chair x) = (c.queue (.chair x)).emptied := by
      rw [← c.emptyQueues_queue]
      exact State.ok_queue_chair sender .restart _ x
    obtain ⟨i, j, tells⟩ := a.takeAllAuthority_tells .restart
    have told : (c.queue (.chair x)).sending = (a.queue (.chair x)).sending :=
      ((tells.trans b.restartBlocks_tells) (.chair x)).sending
    rw [queue, OutQueue.emptied_sending, told]
    exact ⟨OutQueue.emptied_frames _, rfl⟩
  · rw [State.ok_emptied_frames sender .restart a.restartCounts (c.emptyQueues_queue .supervisor),
      a.restartCounts_eq]
  · exact (((taken.mono (by simp [haltParts])).trans (blocks.mono (by simp))).trans
      (emptied.mono (by simp))).trans (replied.mono (by simp))

end Sys2Proof.Machine
end

section
/-! PROOF. The loss of a chair link (06 R120, 08 R153). -/

namespace Sys2Proof.Machine

-- One theorem after another, so that the compile stays within its memory.
set_option Elab.async false

variable (s : State)

/-! ## The handovers of a chair are ended (06 R120, R129) -/

/-- The handovers in which the chair is a party are aborted: those toward it with one event, those
from it with the other. -/
def State.partyAborted (s : State) (c : ChairId) (taking releasing : AbortEvent) : State :=
  s.abortAll (s.partyContexts c) fun k => if s.isTaking c k then taking else releasing

section

variable {s} {c : ChairId} {taking releasing : AbortEvent}

theorem State.mem_partyContexts {k : CtxId} {x : Handover} (used : s.handover k = some x) :
    k ∈ s.partyContexts c ↔ x.taking = c ∨ x.releasing = some c := by
  rw [State.partyContexts, s.mem_contextsWhere]
  simp [used]

theorem State.isTaking_of {k : CtxId} {x : Handover} (used : s.handover k = some x) :
    s.isTaking c k = (x.taking == c) := by
  rw [State.isTaking, used]
  rfl

theorem State.partyAborted_sameBut : s.sameBut haltParts (s.partyAborted c taking releasing) :=
  s.abortAll_sameBut _ _

theorem State.partyAborted_handover (k : CtxId) : (s.partyAborted c taking releasing).handover k =
    if ∃ x ∈ s.handover k, x.taking = c ∨ x.releasing = some c then none else s.handover k := by
  rw [State.partyAborted, State.abortAll_handover]
  refine if_congr ?_ rfl rfl
  cases used : s.handover k with
  | none => simp [State.partyContexts, s.mem_contextsWhere, used]
  | some x => simp [State.mem_partyContexts used]

theorem State.partyAborted_unnamed {l : LoaderId}
    (unnamed : ∀ k, ∀ x ∈ s.handover k, x.loader ≠ l) :
    (s.partyAborted c taking releasing).loader l = s.loader l :=
  s.abortAll_loader_unnamed _ fun k _ x used => unnamed k x used

theorem State.partyAborted_named {l : LoaderId} {k : CtxId} {x : Handover} (law : s.transferLaw)
    (flight : s.inFlight l k x) (party : x.taking = c ∨ x.releasing = some c) :
    (s.partyAborted c taking releasing).loader l =
      s.abortRecord x (if x.taking = c then taking else releasing) := by
  have only : ∀ n ∈ s.partyContexts c, ∀ y ∈ s.handover n, y.loader = x.loader → n = k :=
    fun n _ y used named => law.only flight used (named.trans flight.2.2.2)
  obtain ⟨-, -, used, rfl⟩ := flight
  rw [State.partyAborted,
    State.abortAll_loader_named _ ((State.mem_partyContexts used).mpr party) used only,
    State.isTaking_of used]
  simp only [beq_iff_eq]

theorem State.partyAborted_other {l : LoaderId} {k : CtxId} {x : Handover} (law : s.transferLaw)
    (flight : s.inFlight l k x) (toward : x.taking ≠ c) (away : x.releasing ≠ some c) :
    (s.partyAborted c taking releasing).loader l = s.loader l := by
  refine s.abortAll_loader_unnamed _ fun n listed y used named => ?_
  have same := law.only flight used named
  subst same
  rw [flight.2.2.1] at used
  cases used
  exact ((State.mem_partyContexts flight.2.2.1).mp listed).elim toward away

end

theorem State.transferLaw.start {s : State} (law : s.transferLaw) {l : LoaderId} {k : CtxId}
    {x : Handover} {p : LoaderState} (flight : s.inFlight l k x)
    (from_prior : (s.loader l).prior = some p) :
    p ∈ [LoaderState.driven, .supervised, .orphaned, .parked, .halted] := by
  have prior := (law.2 l flight.1).2
  rw [from_prior] at prior
  simp only [List.mem_cons, List.not_mem_nil, or_false, Option.some.injEq] at prior
  rcases prior with e | e | e | e | e <;> simp [e]

/-- The record has gone back to its prior state, with its holder, epoch and grace (04 R89). -/
def Loader.wentBack (r r' : Loader) (p : LoaderState) (held : Option HaltRecord) : Prop :=
  r'.state = p ∧ r'.prior = none ∧ r'.context = none ∧ r'.holder = r.holder ∧ r'.epoch = r.epoch ∧
    r'.grace = r.grace ∧ (p = .halted → r'.halt = held)

theorem Loader.reverted_wentBack {r : Loader} {p : LoaderState} {x : Handover} {lapse : Nat}
    (start : p ∈ [LoaderState.driven, .supervised, .orphaned, .parked, .halted]) :
    r.wentBack (r.reverted p x lapse) p x.held := by
  obtain ⟨out, context, -, grace, halt, -⟩ := Loader.reverted_rest (r := r) (x := x) (lapse := lapse) start
  exact ⟨Loader.reverted_state, out, context, Loader.reverted_holder, Loader.reverted_epoch, grace,
    halt⟩

/-! ## The loaders that a lost link leaves -/

theorem State.foldl_loader_not_mem {f : State → LoaderId → State} {s : State} {ls : List LoaderId}
    {l : LoaderId} (other : ∀ (s : State) n m, m ≠ n → (f s n).loader m = s.loader m)
    (out : l ∉ ls) : (ls.foldl f s).loader l = s.loader l := by
  induction ls generalizing s with
  | nil => rfl
  | cons n ls ih =>
    simp only [List.mem_cons, not_or] at out
    rw [List.foldl_cons, ih out.2, other s n l out.1]

/-- A fold of an operation on one loader does to a loader in the list what the operation does to it
in a state that agrees on that loader. -/
theorem State.foldl_loader_mem {f : State → LoaderId → State} {ps : List Part} {s : State}
    {ls : List LoaderId} {l : LoaderId} (frame : ∀ (s : State) n, s.sameBut ps (f s n))
    (other : ∀ (s : State) n m, m ≠ n → (f s n).loader m = s.loader m) (nodup : ls.Nodup)
    (listed : l ∈ ls) :
    ∃ u, s.sameBut ps u ∧ u.loader l = s.loader l ∧ (ls.foldl f s).loader l = (f u l).loader l := by
  induction ls generalizing s with
  | nil => exact absurd listed (by simp)
  | cons n ls ih =>
    obtain ⟨first, rest⟩ := List.nodup_cons.mp nodup
    rw [List.foldl_cons]
    by_cases same : l = n
    · subst same
      exact ⟨s, .refl ps s, rfl, State.foldl_loader_not_mem other first⟩
    · obtain ⟨u, before, agrees, after⟩ := ih (s := f s n) rest
        ((List.mem_cons.mp listed).resolve_left same)
      exact ⟨u, (frame s n).trans before, by rw [agrees, other s n l same], after⟩

/-- What the halt or the orphaning of a loader may change. -/
abbrev lossParts : List Part := [.loaders, .chairs, .watch, .queues, .supQueue, .fleet, .lamps]

theorem State.loseLoader_frame (l : LoaderId) : s.sameBut lossParts (s.loseLoader l) := by
  unfold State.loseLoader
  split
  · exact s.enterHalted_sameBut l _
  · split
    · exact (s.orphan_sameBut l).mono (by simp)
    · exact s.enterHalted_sameBut l _
  · exact .refl _ s

theorem State.loseLoader_loader_ne {l n : LoaderId} (ne : n ≠ l) :
    (s.loseLoader l).loader n = s.loader n := by
  unfold State.loseLoader
  split
  · exact s.enterHalted_loader_ne _ ne
  · split
    · exact s.orphan_loader_ne ne
    · exact s.enterHalted_loader_ne _ ne
  · rfl

theorem State.loseLoader_driven {s : State} {l : LoaderId} (driven : (s.loader l).state = .driven) :
    (s.loader l).haltedBy ((s.loseLoader l).loader l) .chairLink s.seconds := by
  rw [State.loseLoader, driven]
  exact s.enterHalted_loader l .chairLink

theorem State.loseLoader_supervised {s : State} {l : LoaderId}
    (supervised : (s.loader l).state = .supervised) :
    if 0 < s.params.orphanGrace then
      (s.loseLoader l).loader l = (s.loader l).orphaned (1000 * s.params.orphanGrace)
    else (s.loader l).haltedBy ((s.loseLoader l).loader l) .chairLink s.seconds := by
  by_cases grace : 0 < s.params.orphanGrace
  · rw [if_pos grace, State.loseLoader, supervised]
    simp only [if_pos grace, s.orphan_loader]
  · rw [if_neg grace, State.loseLoader, supervised]
    simp only [if_neg grace]
    exact s.enterHalted_loader l .chairLink

/-- The loaders that are lost are halted or orphaned. -/
def State.loseLoaders (s : State) (c : ChairId) : State := (s.losable c).foldl State.loseLoader s

theorem State.mem_losable {c : ChairId} {l : LoaderId} : l ∈ s.losable c ↔
    ((s.loader l).state = .driven ∨ (s.loader l).state = .supervised) ∧
      (s.loader l).heldBy c = true := by
  rw [State.losable, s.mem_loadersWhere]
  simp

theorem State.loseLoaders_sameBut (c : ChairId) : s.sameBut lossParts (s.loseLoaders c) :=
  State.sameBut.foldl (fun s l => s.loseLoader_frame l) _ s

theorem State.loseLoaders_kept {s : State} {c : ChairId} {l : LoaderId} (out : l ∉ s.losable c) :
    (s.loseLoaders c).loader l = s.loader l :=
  State.foldl_loader_not_mem (fun s _ _ ne => s.loseLoader_loader_ne ne) out

theorem State.loseLoaders_lost {s : State} {c : ChairId} {l : LoaderId} (listed : l ∈ s.losable c) :
    ∃ u, s.sameBut lossParts u ∧ u.loader l = s.loader l ∧
      (s.loseLoaders c).loader l = (u.loseLoader l).loader l :=
  State.foldl_loader_mem (fun s n => s.loseLoader_frame n) (fun s _ _ ne => s.loseLoader_loader_ne ne)
    (s.loadersWhere_nodup _) listed

theorem State.loseLoaders_driven {s : State} {c : ChairId} {l : LoaderId}
    (driven : (s.loader l).state = .driven) (held : (s.loader l).heldBy c = true) :
    (s.loader l).haltedBy ((s.loseLoaders c).loader l) .chairLink s.seconds := by
  obtain ⟨u, frame, agrees, after⟩ :=
    State.loseLoaders_lost (s.mem_losable.mpr ⟨.inl driven, held⟩)
  have halted := State.loseLoader_driven (s := u) (l := l) (by rw [agrees]; exact driven)
  rw [agrees, frame.seconds] at halted
  rw [after]
  exact halted

theorem State.loseLoaders_supervised {s : State} {c : ChairId} {l : LoaderId}
    (supervised : (s.loader l).state = .supervised) (held : (s.loader l).heldBy c = true) :
    if 0 < s.params.orphanGrace then
      (s.loseLoaders c).loader l = (s.loader l).orphaned (1000 * s.params.orphanGrace)
    else (s.loader l).haltedBy ((s.loseLoaders c).loader l) .chairLink s.seconds := by
  obtain ⟨u, frame, agrees, after⟩ :=
    State.loseLoaders_lost (s.mem_losable.mpr ⟨.inr supervised, held⟩)
  have lost := State.loseLoader_supervised (s := u) (l := l) (by rw [agrees]; exact supervised)
  rw [agrees, frame.seconds, frame.params] at lost
  rw [after]
  exact lost

/-- No DRIVEN or SUPERVISED loader is left under the chair. -/
theorem State.loseLoaders_calm {c : ChairId} {l : LoaderId}
    (held : ((s.loseLoaders c).loader l).heldBy c = true) :
    ((s.loseLoaders c).loader l).state ≠ .driven ∧
      ((s.loseLoaders c).loader l).state ≠ .supervised := by
  by_cases listed : l ∈ s.losable c
  · obtain ⟨state, before⟩ := s.mem_losable.mp listed
    rcases state with driven | supervised
    · rw [(State.loseLoaders_driven driven before).out.1]
      decide
    · have lost := State.loseLoaders_supervised supervised before
      split at lost
      · rw [lost]
        simp [Loader.orphaned, Loader.left]
      · rw [lost.out.1]
        decide
  · rw [State.loseLoaders_kept listed] at held ⊢
    refine ⟨fun e => listed (s.mem_losable.mpr ⟨.inl e, held⟩),
      fun e => listed (s.mem_losable.mpr ⟨.inr e, held⟩)⟩

/-! ## The loss of a link -/

/-- The link is LOST (08 R153). -/
def State.linkDropped (s : State) (c : ChairId) : State :=
  s.modLink c fun k => { k.restartSilence s.params with state := .lost, run := 0 }

/-- The handovers and loaders of the chair are dealt with (06 R120, steps 1 and 2). -/
def State.linkBereft (s : State) (c : ChairId) : State :=
  ((s.linkDropped c).partyAborted c .linkTaking .linkReleasing).loseLoaders c

theorem State.loseLink_eq (c : ChairId) : ∃ n : Notice, s.loseLink c =
    (State.modQueue { (s.linkBereft c).checkClosures with
      watch := (s.linkBereft c).checkClosures.watch.forgetChair c } (.chair c)
        OutQueue.emptied).tellSup n := ⟨_, rfl⟩

/-- What follows the dealings with handovers and loaders. -/
theorem State.loseLink_afterBereft (c : ChairId) :
    (s.linkBereft c).sameBut [.zones, .closures, .watch, .queues, .supQueue] (s.loseLink c) := by
  obtain ⟨n, stands⟩ := s.loseLink_eq c
  rw [stands]
  exact ((((s.linkBereft c).checkClosures_sameBut _).mono (by simp)).trans
    ((State.setWatch_sameBut _ _).mono (by simp))).trans
      (((State.modQueue_sameBut _ _ _).mono (by simp)).trans
        ((State.tellSup_sameBut _ n).mono (by simp)))

theorem State.linkDropped_sameBut (c : ChairId) : s.sameBut [.links] (s.linkDropped c) :=
  s.modLink_sameBut c _

theorem State.linkBereft_sameBut (c : ChairId) :
    (s.linkDropped c).sameBut haltParts (s.linkBereft c) :=
  State.partyAborted_sameBut.trans ((State.loseLoaders_sameBut _ c).mono (by simp [haltParts]))

theorem State.loseLink_link (c : ChairId) : (s.loseLink c).link c =
    { (s.link c).restartSilence s.params with state := .lost, run := 0 } := by
  rw [(s.loseLink_afterBereft c).link, (s.linkBereft_sameBut c).link, State.linkDropped,
    State.modLink_link_self]

theorem State.tellSup_queue_chair (n : Notice) (c : ChairId) :
    (s.tellSup n).queue (.chair c) = s.queue (.chair c) := State.modQueue_queue_ne _ (by simp) _

theorem State.loseLink_queue (c : ChairId) : ((s.loseLink c).queue (.chair c)).frames = [] := by
  obtain ⟨n, stands⟩ := s.loseLink_eq c
  rw [stands, State.tellSup_queue_chair, State.modQueue_queue_self]
  rfl

theorem State.loseLink_pinned (c : ChairId) (n : PinnedId) :
    ∀ e ∈ (s.loseLink c).watch.pinned[n], e.chair = c → e.locked = true := by
  obtain ⟨m, stands⟩ := s.loseLink_eq c
  rw [stands, (State.tellSup_sameBut _ m).watch, (State.modQueue_sameBut _ _ _).watch]
  intro e listed own
  simp only [WatchTable.forgetChair, WatchTable.invalidate, Fin.getElem_fin, Vector.getElem_map,
    Option.mem_def, Option.filter_eq_some_iff] at listed
  simpa [own] using listed.2

theorem State.linkBereft_handover (c : ChairId) (k : CtxId) : (s.linkBereft c).handover k =
    if ∃ x ∈ s.handover k, x.taking = c ∨ x.releasing = some c then none else s.handover k := by
  rw [State.linkBereft, (State.loseLoaders_sameBut _ c).handover, State.partyAborted_handover,
    (s.linkDropped_sameBut c).handover]

/-- A loader that the aborts leave in no state that can be lost. -/
theorem State.linkBereft_kept {s : State} {c : ChairId} {l : LoaderId} {r : Loader}
    (aborted : ((s.linkDropped c).partyAborted c .linkTaking .linkReleasing).loader l = r)
    (safe : r.heldBy c = false ∨ r.state ≠ .driven ∧ r.state ≠ .supervised) :
    (s.linkBereft c).loader l = r := by
  rw [State.linkBereft, State.loseLoaders_kept, aborted]
  rw [State.mem_losable, aborted]
  rintro ⟨state, held⟩
  rcases safe with away | ⟨not_driven, not_supervised⟩
  · rw [held] at away
    cases away
  · exact state.elim not_driven not_supervised

theorem State.linkBereft_unnamed {s : State} (c : ChairId) {l : LoaderId}
    (unnamed : ∀ k, ∀ x ∈ s.handover k, x.loader ≠ l) :
    ((s.linkDropped c).partyAborted c .linkTaking .linkReleasing).loader l = s.loader l := by
  rw [State.partyAborted_unnamed fun k x used =>
    unnamed k x (by rw [← (s.linkDropped_sameBut c).handover]; exact used),
    (s.linkDropped_sameBut c).loader]

theorem State.linkAborted_frame (c : ChairId) : s.sameBut (.links :: haltParts)
    ((s.linkDropped c).partyAborted c .linkTaking .linkReleasing) :=
  ((s.linkDropped_sameBut c).mono (by simp)).trans (State.partyAborted_sameBut.mono (by simp [haltParts]))

theorem State.linkBereft_driven {s : State} {c : ChairId} {l : LoaderId}
    (driven : (s.loader l).state = .driven) (held : (s.loader l).heldBy c = true)
    (unnamed : ∀ k, ∀ x ∈ s.handover k, x.loader ≠ l) :
    (s.loader l).haltedBy ((s.linkBereft c).loader l) .chairLink s.seconds := by
  have same := State.linkBereft_unnamed c unnamed
  have lost := State.loseLoaders_driven (c := c) (by rw [same]; exact driven)
    (by rw [same]; exact held)
  rw [same, (s.linkAborted_frame c).seconds] at lost
  exact lost

theorem State.linkBereft_supervised {s : State} {c : ChairId} {l : LoaderId}
    (supervised : (s.loader l).state = .supervised) (held : (s.loader l).heldBy c = true)
    (unnamed : ∀ k, ∀ x ∈ s.handover k, x.loader ≠ l) :
    if 0 < s.params.orphanGrace then
      (s.linkBereft c).loader l = (s.loader l).orphaned (1000 * s.params.orphanGrace)
    else (s.loader l).haltedBy ((s.linkBereft c).loader l) .chairLink s.seconds := by
  have same := State.linkBereft_unnamed c unnamed
  have lost := State.loseLoaders_supervised (c := c) (by rw [same]; exact supervised)
    (by rw [same]; exact held)
  rw [same, (s.linkAborted_frame c).seconds,
    (s.linkAborted_frame c).params] at lost
  exact lost

/-- The handover of a loader in flight, by the chair's part in it. -/
theorem State.linkBereft_inFlight {s : State} {c : ChairId} {l : LoaderId} {k : CtxId}
    {x : Handover} {p : LoaderState} (law : s.transferLaw) (flight : s.inFlight l k x)
    (from_prior : (s.loader l).prior = some p) :
    (x.taking = c → (s.loader l).heldBy c = false →
      (s.loader l).wentBack ((s.linkBereft c).loader l) p x.held) ∧
    (x.taking ≠ c → x.releasing = some c →
      if (s.loader l).heldMode = some .supervised ∧ 0 < s.params.orphanGrace then
        (s.linkBereft c).loader l = (s.loader l).orphaned (1000 * s.params.orphanGrace)
      else (s.loader l).haltedFrom ((s.linkBereft c).loader l) x.held .chairLink s.seconds) ∧
    (x.taking ≠ c → x.releasing ≠ some c → (s.linkBereft c).loader l = s.loader l) := by
  have frame := s.linkDropped_sameBut c
  have flight' := frame.inFlight flight
  have law' := frame.transferLaw law
  have named := fun party => State.partyAborted_named (taking := .linkTaking)
    (releasing := .linkReleasing) (c := c) law' flight' party
  have congr : ∀ e, (s.linkDropped c).abortRecord x e = s.abortRecord x e := fun e =>
    State.abortRecord_congr e (frame.loader _) frame.params frame.seconds
  have is_l := flight.2.2.2
  refine ⟨fun toward away => ?_, fun other own => ?_, fun other away => ?_⟩
  · have record := named (.inl toward)
    rw [if_pos toward, congr, State.abortRecord_revert rfl (prior := p)
      (by rw [is_l]; exact from_prior), is_l] at record
    rw [State.linkBereft_kept record (.inl (by
      rw [Loader.heldBy, Loader.holderChair, Loader.reverted_holder]; exact away))]
    exact Loader.reverted_wentBack (law.start flight from_prior)
  · have record := named (.inr own)
    rw [if_neg other, congr] at record
    have fate : s.fateOf x .linkReleasing =
        if (s.loader l).heldMode = some .supervised ∧ 0 < s.params.orphanGrace then .orphan
        else .halt .chairLink := by rw [State.fateOf, is_l]; rfl
    split
    · next orphans =>
      rw [if_pos orphans] at fate
      rw [State.abortRecord_orphan fate, is_l] at record
      exact State.linkBereft_kept record (.inr (by simp [Loader.orphaned, Loader.left]))
    · next halts =>
      rw [if_neg halts] at fate
      have halted := State.abortRecord_halt fate
      rw [is_l] at halted
      rw [State.linkBereft_kept record (.inr (by rw [halted.out.1]; decide))]
      exact halted
  · have record := State.partyAborted_other (taking := .linkTaking)
      (releasing := .linkReleasing) law' flight' other away
    rw [frame.loader] at record
    exact State.linkBereft_kept record (.inr (by rw [flight.1]; decide))

/-- Both causes of the loss make the link LOST from a state that only the link's counters may have
left. -/
theorem State.loses {s : State} {c : ChairId} {i : Instr} (released : s.inReset = false)
    (up : (s.link c).state = .up)
    (cause : (i = .linkSilenceExpiry c ∧ (s.link c).silence.isSome = true) ∨
      (i = .badFrame (.chair c) ∧ s.params.linkError ≤ min 15 ((s.link c).errors + 1))) :
    ∃ a, exec i s = .next (a.loseLink c) ∧ s.sameBut [.links] a ∧
      (a.link c).tally = (s.link c).tally := by
  rcases cause with ⟨rfl, running⟩ | ⟨rfl, reached⟩
  · obtain ⟨x, silence⟩ := Option.isSome_iff_exists.mp running
    have gate : exec (.linkSilenceExpiry c) s = execLinkSilenceExpiry c s := rfl
    refine ⟨s, ?_, .refl _ s, rfl⟩
    rw [gate, execLinkSilenceExpiry, s.running_of _ released, State.expireLink, up, silence]
  · have gate : exec (.badFrame (.chair c)) s = execBadFrame (.chair c) s := rfl
    have many : s.params.linkError ≤ raiseErrors (s.link c).errors := reached
    refine ⟨s.modLink c fun k =>
      { k with badFrames := gain 1 k.badFrames, errors := raiseErrors k.errors }, ?_,
      s.modLink_sameBut c _, by rw [State.modLink_link_self]⟩
    rw [gate, execBadFrame, s.running_of _ released, s.takeBad_of_up up]
    simp only [if_pos many]

/-- Settles O12. -/
theorem lostLinkTakesAuthority : Obligations.LostLinkTakesAuthority := by
  unfold Obligations.LostLinkTakesAuthority
  intro s c i released up cause
  obtain ⟨a, next, before, tally⟩ := State.loses released up cause
  have after := a.loseLink_afterBereft c
  have unnamed' : ∀ {l}, (∀ k, ∀ x ∈ s.handover k, x.loader ≠ l) →
      ∀ k, ∀ x ∈ a.handover k, x.loader ≠ l := fun unnamed k x used =>
    unnamed k x (by rw [← before.handover]; exact used)
  refine ⟨_, next, ?_, ?_, ?_, ?_, a.loseLink_queue c, fun l held => ?_,
    fun l driven held unnamed => ?_, fun l supervised held unnamed => ?_, fun l away unnamed => ?_,
    fun n => a.loseLink_pinned c n, fun k => ?_, fun l k x p law flight from_prior => ?_, ?_⟩
  · rw [a.loseLink_link]
  · rw [a.loseLink_link]
  · rw [a.loseLink_link, before.params]
    rfl
  · rw [a.loseLink_link, ← tally]
    rfl
  · rw [after.loader] at held ⊢
    exact State.loseLoaders_calm _ held
  · have lost := State.linkBereft_driven (s := a) (c := c) (l := l)
      (by rw [before.loader]; exact driven) (by rw [before.loader]; exact held) (unnamed' unnamed)
    rw [before.loader, before.seconds] at lost
    rw [after.loader]
    exact lost
  · have lost := State.linkBereft_supervised (s := a) (c := c) (l := l)
      (by rw [before.loader]; exact supervised) (by rw [before.loader]; exact held)
      (unnamed' unnamed)
    rw [before.loader, before.seconds, before.params] at lost
    rw [after.loader]
    split
    · next grace =>
      rw [if_pos grace] at lost
      rw [lost]
      exact ⟨rfl, rfl, rfl⟩
    · next none_left =>
      rw [if_neg none_left] at lost
      exact lost
  · have kept := State.linkBereft_kept (State.linkBereft_unnamed c (unnamed' unnamed))
      (.inl (by rw [before.loader]; exact away))
    rw [after.loader, kept, before.loader]
  · rw [after.handover, a.linkBereft_handover, before.handover]
  · have parts := State.linkBereft_inFlight (c := c) (before.transferLaw law)
      (before.inFlight flight) (by rw [before.loader]; exact from_prior)
    rw [before.loader, before.params, before.seconds, ← after.loader] at parts
    exact parts
  · exact (before.mono (by simp)).trans ((((a.linkDropped_sameBut c).mono (by simp)).trans
      ((a.linkBereft_sameBut c).mono (by simp [haltParts]))).trans (after.mono (by simp)))

end Sys2Proof.Machine
end

section
/-! PROOF. A chair stop newly pressed (06 R129). -/

namespace Sys2Proof.Machine

-- One theorem after another, so that the compile stays within its memory.
set_option Elab.async false

variable (s : State)

theorem AbortEvent.halts_stopReleasing : AbortEvent.stopReleasing.halts := fun _ _ => rfl

/-- The handovers of the chair are aborted (06 R129). -/
def State.stopAborted (s : State) (c : ChairId) : State :=
  s.partyAborted c .stopTaking .stopReleasing

/-- The loaders of the chair are halted (06 R129). -/
def State.stopHalted (s : State) (c : ChairId) : State :=
  (s.stopAborted c).haltAll ((s.stopAborted c).heldOutside c) .chairStop

theorem State.pressStop_eq (c : ChairId) : s.pressStop c = (s.stopHalted c).checkClosures := rfl

theorem State.mem_heldOutside {c : ChairId} {l : LoaderId} : l ∈ s.heldOutside c ↔
    (s.loader l).hasAuthority = true ∧ (s.loader l).state ≠ .transfer ∧
      (s.loader l).heldBy c = true := by
  rw [State.heldOutside, s.mem_loadersWhere]
  simp only [Bool.and_eq_true, bne_iff_ne, and_assoc]

theorem State.stopHalted_kept {s : State} {c : ChairId} {l : LoaderId} {r : Loader}
    (aborted : (s.stopAborted c).loader l = r)
    (safe : r.heldBy c = false ∨ r.state = .transfer ∨ r.hasAuthority = false) :
    (s.stopHalted c).loader l = r := by
  have out : l ∉ (s.stopAborted c).heldOutside c := by
    rw [State.mem_heldOutside, aborted]
    rintro ⟨authority, outside, held⟩
    rcases safe with away | flight | calm
    · rw [held] at away
      cases away
    · exact outside flight
    · rw [authority] at calm
      cases calm
  rw [State.stopHalted, State.haltAll_loader_not_mem _ _ out, aborted]

theorem State.stopHalted_held {s : State} {c : ChairId} {l : LoaderId}
    (state : (s.loader l).state ∈ [LoaderState.driven, .supervised, .orphaned])
    (held : (s.loader l).heldBy c = true) (unnamed : ∀ k, ∀ x ∈ s.handover k, x.loader ≠ l) :
    (s.loader l).haltedBy ((s.stopHalted c).loader l) .chairStop s.seconds := by
  have same : (s.stopAborted c).loader l = s.loader l := State.partyAborted_unnamed unnamed
  have listed : l ∈ (s.stopAborted c).heldOutside c := by
    rw [State.mem_heldOutside, same]
    simp only [List.mem_cons, List.not_mem_nil, or_false] at state
    refine ⟨?_, ?_, held⟩
    · rcases state with e | e | e <;> rw [Loader.hasAuthority, e] <;> rfl
    · rcases state with e | e | e <;> rw [e] <;> decide
  have halted := State.haltAll_loader_mem (s := s.stopAborted c) (cause := .chairStop)
    ((s.stopAborted c).loadersWhere_nodup _) listed
  have seconds : (s.stopAborted c).seconds = s.seconds := State.partyAborted_sameBut.seconds
  rw [same, seconds] at halted
  exact halted

theorem State.stopHalted_inFlight {s : State} {c : ChairId} {l : LoaderId} {k : CtxId}
    {x : Handover} {p : LoaderState} (law : s.transferLaw) (flight : s.inFlight l k x)
    (from_prior : (s.loader l).prior = some p) :
    (x.taking = c → (s.loader l).heldBy c = false →
      (s.loader l).wentBack ((s.stopHalted c).loader l) p x.held) ∧
    (x.taking ≠ c → x.releasing = some c →
      (s.loader l).haltedFrom ((s.stopHalted c).loader l) x.held .chairStop s.seconds) ∧
    (x.taking ≠ c → x.releasing ≠ some c → (s.stopHalted c).loader l = s.loader l) := by
  have named := fun party => State.partyAborted_named (taking := .stopTaking)
    (releasing := .stopReleasing) (c := c) law flight party
  have is_l := flight.2.2.2
  refine ⟨fun toward away => ?_, fun other own => ?_, fun other away => ?_⟩
  · have record := named (.inl toward)
    rw [if_pos toward, State.abortRecord_revert rfl (prior := p)
      (by rw [is_l]; exact from_prior), is_l] at record
    rw [State.stopHalted_kept record (.inl (by
      rw [Loader.heldBy, Loader.holderChair, Loader.reverted_holder]; exact away))]
    exact Loader.reverted_wentBack (law.start flight from_prior)
  · have record := named (.inr own)
    rw [if_neg other] at record
    have halted := State.abortRecord_halt (s := s) (x := x) (AbortEvent.halts_stopReleasing _ _)
    rw [is_l] at halted
    rw [State.stopHalted_kept record (.inr (.inr halted.out.noAuthority))]
    exact halted
  · exact State.stopHalted_kept (State.partyAborted_other law flight other away)
      (.inr (.inl flight.1))

theorem State.stopHalted_handover {c : ChairId} {k : CtxId} {x : Handover}
    (used : (s.stopHalted c).handover k = some x) :
    s.handover k = some x ∧ x.taking ≠ c ∧ x.releasing ≠ some c := by
  rw [State.stopHalted, (State.haltAll_sameBut _ _ _).handover, State.stopAborted,
    State.partyAborted_handover] at used
  split at used
  · cases used
  · next other =>
    exact ⟨used, fun toward => other ⟨x, used, .inl toward⟩, fun away => other ⟨x, used, .inr away⟩⟩

theorem State.stopHalted_sameBut (c : ChairId) : s.sameBut haltParts (s.stopHalted c) :=
  State.partyAborted_sameBut.trans ((State.haltAll_sameBut _ _ _).mono (by simp [haltParts]))

theorem State.stopHalted_slotsOnly (c : ChairId) : s.slotsOnly (s.stopHalted c) :=
  (s.abortAll_slotsOnly _ _).trans (State.haltAll_slotsOnly _ _ _)

theorem State.stopAborted_tells (c : ChairId) : ∃ a b, s.tells a b (s.stopAborted c) :=
  ⟨_, _, s.abortAll_tells _ _⟩

theorem State.stopHalted_tells (c : ChairId) : ∃ a b, s.tells a b (s.stopHalted c) := by
  obtain ⟨i, j, aborted⟩ := s.stopAborted_tells c
  exact ⟨_, _, aborted.trans (State.haltAll_tells _ _ _)⟩

theorem State.pressStop_tells (c : ChairId) : ∃ a b, s.tells a b (s.pressStop c) := by
  obtain ⟨i, j, halted⟩ := s.stopHalted_tells c
  rw [s.pressStop_eq]
  exact ⟨_, _, halted.trans (State.checkClosures_tells _ _)⟩

/-- The chair's link has heard the frame, and the panel byte is in the chair record. -/
def State.panelTaken (s : State) (c : ChairId) (panel : Byte) : State :=
  (s.modLink c fun k => (k.restartSilence s.params).valid).modChair c fun r =>
    { r with stop := panelStop panel, neutral := panelNeutral panel }

theorem State.panelTaken_sameBut (c : ChairId) (panel : Byte) :
    s.sameBut [.links, .chairs] (s.panelTaken c panel) :=
  ((s.modLink_sameBut c _).mono (by simp)).trans ((State.modChair_sameBut _ c _).mono (by simp))

theorem State.panelTaken_link (c : ChairId) (panel : Byte) :
    (s.panelTaken c panel).link c = (s.heard (.chair c panel)).link c := by
  rw [State.panelTaken, (State.modChair_sameBut _ c _).link, State.modLink_link_self,
    ChairLink.valid_eq]
  simp [State.heard, State.link, ChairLink.restartSilence, Timer.start]
  exact ⟨rfl, rfl⟩

theorem State.panelTaken_stop {c : ChairId} {panel : Byte} (pressed : panelStop panel = true) :
    ((s.panelTaken c panel).chair c).stop = true := by
  rw [State.panelTaken, State.modChair_chair_self]
  exact pressed

/-- A PING that newly presses the chair stop. -/
theorem exec_ping_pressed {s : State} {h : Header} {c : ChairId} {panel : Byte}
    (sender : h.sender = .chair c panel) (released : s.inReset = false)
    (up : (s.link c).state = .up) (pressed : panelStop panel = true)
    (calm : (s.chair c).stop = false) :
    exec (.ping h) s = .next (((s.panelTaken c panel).pressStop c).pass (.chair c)
      fun t => t.takePing h (!Config.answersStopPing)) := by
  have newly : s.newlyPressed c panel = true := by
    rw [State.newlyPressed, pressed, calm]
    rfl
  have stop : s.carriesStop h.sender = true := by
    rw [sender]
    exact newly
  have newly' : (s.modLink c fun k => (k.restartSilence s.params).valid).newlyPressed c panel = true :=
    newly
  have gate : exec (.ping h) s = .next (s.ping h Config.answersStopPing) := rfl
  rw [gate, State.ping, stop, Bool.true_and, State.takeRequest, s.running_of _ released]
  simp only [sender, State.takeChairFrame, up, State.takePanel, newly', if_true]
  rfl

/-- What the answer to a PING leaves of the replies: one more, unless it is silent or they are 32
already. -/
theorem State.passPing_replies {s : State} {h : Header} {c : ChairId} {panel : Byte}
    (sender : h.sender = .chair c panel) (answers : Bool) :
    ((s.pass (.chair c) fun t => t.takePing h (!answers)).queue (.chair c)).frames.filter
        Frame.isReply =
      (s.queue (.chair c)).frames.filter Frame.isReply ++
        (if answers = true ∧ (s.queue (.chair c)).frames.countP Frame.isReply < 32 then
          [⟨h.tag, .reply .ping (.ok (.ping s.seconds (s.link c).errors))⟩]
        else []) := by
  unfold State.pass
  by_cases full : (s.queue (.chair c)).fullOfReplies = true
  · have many := (OutQueue.fullOfReplies_iff _).mp full
    rw [if_pos full, if_neg (by omega), State.modQueue_queue_self, List.append_nil]
    rfl
  · have few : (s.queue (.chair c)).frames.countP Frame.isReply < 32 := by
      rw [OutQueue.fullOfReplies_iff] at full
      omega
    rw [if_neg full]
    beta_reduce
    cases answers with
    | false =>
      have silent : s.takePing h (!false) = s := rfl
      rw [silent, if_neg (by simp), List.append_nil]
    | true =>
      have answered : s.takePing h (!true) = s.ok h .ping (.ping s.seconds (s.errorsOf h.sender)) :=
        rfl
      have errors : s.errorsOf h.sender = (s.link c).errors := by
        rw [sender]
        rfl
      have joined := OutQueue.join_replies (s.queue (.chair c))
        ⟨h.tag, .reply .ping (.ok (.ping s.seconds (s.link c).errors))⟩ fun _ => few
      rw [if_pos (Frame.reply_isReply _ _ _)] at joined
      rw [answered, errors, State.ok_eq, port_of_chair sender, State.modQueue_queue_self, joined,
        if_pos ⟨rfl, few⟩]

theorem State.passPing_sameBut (h : Header) (p : Port) (silent : Bool) :
    s.sameBut [.queues, .supQueue] (s.pass p fun t => t.takePing h silent) := by
  unfold State.pass
  split
  · exact s.modQueue_sameBut p _
  · unfold State.takePing
    split
    · exact .refl _ s
    · exact s.ok_sameBut h .ping _

/-- Settles O13. -/
theorem chairStopHaltsItsLoaders : Obligations.ChairStopHaltsItsLoaders := by
  unfold Obligations.ChairStopHaltsItsLoaders
  intro s h c panel sender released up pressed calm
  have next := exec_ping_pressed sender released up pressed calm
  have before := s.panelTaken_sameBut c panel
  have stop := s.panelTaken_stop (c := c) pressed
  have heard := s.panelTaken_link c panel
  rw [← sender] at heard
  generalize s.panelTaken c panel = a at next before stop heard
  have halted : a.sameBut haltParts (a.stopHalted c) := a.stopHalted_sameBut c
  have checked : (a.stopHalted c).sameBut [.zones, .closures, .queues, .supQueue] (a.pressStop c) := by
    rw [a.pressStop_eq]
    exact (a.stopHalted c).checkClosures_sameBut _
  obtain ⟨i, j, tells⟩ := a.pressStop_tells c
  generalize a.pressStop c = b at next checked tells
  have passed := b.passPing_sameBut h (.chair c) (!Config.answersStopPing)
  have after := checked.trans (passed.mono (by simp))
  have unnamed' : ∀ {l}, (∀ k, ∀ x ∈ s.handover k, x.loader ≠ l) →
      ∀ k, ∀ x ∈ a.handover k, x.loader ≠ l := fun unnamed k x used =>
    unnamed k x (by rw [← before.handover]; exact used)
  refine ⟨_, next, ?_, fun l state held unnamed => ?_,
    fun l away unnamed => ?_, fun k x used => ?_, fun l k x p law flight from_prior => ?_, ?_, ?_⟩
  · have kept : ((a.stopHalted c).chair c).stop = (a.chair c).stop := by
      rw [a.stopHalted_slotsOnly c c]
    rw [after.chair, kept]
    exact stop
  · have left := State.stopHalted_held (s := a) (c := c) (l := l)
      (by rw [before.loader]; exact state) (by rw [before.loader]; exact held) (unnamed' unnamed)
    rw [before.loader, before.seconds] at left
    rw [after.loader]
    exact left
  · rw [after.loader, State.stopHalted_kept (State.partyAborted_unnamed (unnamed' unnamed))
      (.inl (by rw [before.loader]; exact away)), before.loader]
  · rw [after.handover] at used
    obtain ⟨was, toward, away⟩ := a.stopHalted_handover used
    exact ⟨by rw [← before.handover]; exact was, toward, away⟩
  · have parts := State.stopHalted_inFlight (c := c) (before.transferLaw law)
      (before.inFlight flight) (by rw [before.loader]; exact from_prior)
    rw [before.loader, before.seconds, ← after.loader] at parts
    exact parts
  · have told := tells (.chair c)
    have link : b.link c = (s.heard h.sender).link c := by
      rw [checked.link, halted.link, heard]
    have seconds : b.seconds = s.seconds := by rw [checked.seconds, halted.seconds, before.seconds]
    rw [State.passPing_replies sender, told.replies, told.countP, before.queue, link, seconds]
  · exact (before.mono (by simp)).trans ((halted.mono (by simp [haltParts])).trans
      (after.mono (by simp)))

end Sys2Proof.Machine
end

section
/-! PROOF. The recovery of a chair link (06 R123, 08 R154, 04 R90). -/

namespace Sys2Proof.Machine

-- One theorem after another, so that the compile stays within its memory.
set_option Elab.async false

variable (s : State)

/-! ## Orphans return -/

/-- The record of an orphan that has returned (06 R123, step 1). -/
def Loader.returned (r : Loader) : Loader := { r with state := .supervised, grace := none }

theorem State.returnOrphan_loader (l n : LoaderId) :
    (s.returnOrphan l).loader n = if n = l then (s.loader n).returned else s.loader n := by
  by_cases same : n = l
  · rw [if_pos same, same, State.returnOrphan, State.modLoader_loader_self]
    rfl
  · rw [if_neg same, State.returnOrphan, State.modLoader_loader_ne _ same]

theorem State.returnOrphans_loader (ls : List LoaderId) (n : LoaderId) :
    (ls.foldl State.returnOrphan s).loader n =
      if n ∈ ls then (s.loader n).returned else s.loader n := by
  induction ls generalizing s with
  | nil => rfl
  | cons l ls ih =>
    rw [List.foldl_cons, ih, s.returnOrphan_loader]
    by_cases same : n = l <;> by_cases listed : n ∈ ls <;> simp [same, listed, Loader.returned]

/-! ## Forced handovers are taken up (04 R90) -/

/-- The record of a loader whose handover counts as one from SUPERVISED (04 R90). -/
def Loader.rejoined (r : Loader) : Loader := { r with prior := some .supervised, grace := none }

/-- The handover with the returned chair as its releasing chair (04 R90). -/
def Handover.releasedBy (x : Handover) (c : ChairId) : Handover := { x with releasing := some c }

/-- A context of the list names the loader. -/
def State.namedIn (s : State) (ks : List CtxId) (l : LoaderId) : Prop :=
  ∃ k ∈ ks, ∃ x, s.handover k = some x ∧ x.loader = l

theorem State.rejoin_handover_map (c : ChairId) (k n : CtxId) : (s.rejoin c k).handover n =
    if n = k then (s.handover n).map (·.releasedBy c) else s.handover n := by
  cases used : s.handover k with
  | none =>
    have same : s.rejoin c k = s := by simp only [State.rejoin, used]
    rw [same]
    split
    · next e => rw [e, used]; rfl
    · rfl
  | some x =>
    rw [s.rejoin_handover used]
    split
    · next e => rw [e, used]; rfl
    · rfl

theorem State.rejoin_loader_own {c : ChairId} {k : CtxId} {l : LoaderId}
    (named : ∃ x, s.handover k = some x ∧ x.loader = l) :
    (s.rejoin c k).loader l = (s.loader l).rejoined := by
  obtain ⟨x, used, rfl⟩ := named
  exact s.rejoin_loader used

theorem State.rejoin_loader_other {c : ChairId} {k : CtxId} {l : LoaderId}
    (unnamed : ¬ ∃ x, s.handover k = some x ∧ x.loader = l) :
    (s.rejoin c k).loader l = s.loader l := by
  cases used : s.handover k with
  | none => simp only [State.rejoin, used]
  | some x => exact s.rejoin_loader_ne used fun e => unnamed ⟨x, used, e.symm⟩

/-- A rejoining changes no name. -/
theorem State.rejoin_names (c : ChairId) (k n : CtxId) (l : LoaderId) :
    (∃ x, (s.rejoin c k).handover n = some x ∧ x.loader = l) ↔
      ∃ x, s.handover n = some x ∧ x.loader = l := by
  rw [s.rejoin_handover_map]
  split
  · cases s.handover n <;> simp [Handover.releasedBy]
  · rfl

/-- The handovers of a list are taken up by the returned chair. -/
def State.rejoinAll (s : State) (c : ChairId) (ks : List CtxId) : State :=
  ks.foldl (fun s k => s.rejoin c k) s

theorem State.rejoinAll_cons (c : ChairId) (k : CtxId) (ks : List CtxId) :
    s.rejoinAll c (k :: ks) = (s.rejoin c k).rejoinAll c ks := rfl

theorem State.rejoinAll_handover (c : ChairId) (ks : List CtxId) (n : CtxId) :
    (s.rejoinAll c ks).handover n =
      if n ∈ ks then (s.handover n).map (·.releasedBy c) else s.handover n := by
  induction ks generalizing s with
  | nil => rfl
  | cons k ks ih =>
    rw [s.rejoinAll_cons, ih, s.rejoin_handover_map]
    by_cases same : n = k <;> by_cases listed : n ∈ ks <;> cases s.handover n <;>
      simp [same, listed, Handover.releasedBy]

theorem State.rejoinAll_loader (c : ChairId) (ks : List CtxId) (l : LoaderId) :
    (s.namedIn ks l → (s.rejoinAll c ks).loader l = (s.loader l).rejoined) ∧
      (¬ s.namedIn ks l → (s.rejoinAll c ks).loader l = s.loader l) := by
  induction ks generalizing s with
  | nil => exact ⟨fun ⟨k, listed, _⟩ => absurd listed (by simp), fun _ => rfl⟩
  | cons k ks ih =>
    obtain ⟨named, unnamed⟩ := ih (s := s.rejoin c k)
    have names : (s.rejoin c k).namedIn ks l ↔ s.namedIn ks l :=
      exists_congr fun n => and_congr_right fun _ => s.rejoin_names c k n l
    have split_names : s.namedIn (k :: ks) l ↔
        (∃ x, s.handover k = some x ∧ x.loader = l) ∨ s.namedIn ks l := by
      simp [State.namedIn]
    rw [s.rejoinAll_cons, split_names]
    rw [names] at named unnamed
    by_cases own : ∃ x, s.handover k = some x ∧ x.loader = l
    · rw [s.rejoin_loader_own own] at named unnamed
      refine ⟨fun _ => ?_, fun out => absurd (.inl own) out⟩
      by_cases later : s.namedIn ks l
      · exact named later
      · exact unnamed later
    · rw [s.rejoin_loader_other own] at named unnamed
      exact ⟨fun h => named (h.resolve_left own), fun out => unnamed fun h => out (.inr h)⟩

theorem State.rejoin_sameBut (c : ChairId) (k : CtxId) :
    s.sameBut [.loaders, .handovers] (s.rejoin c k) := by
  unfold State.rejoin
  split
  · exact .refl _ s
  · exact ((s.modLoader_sameBut _ _).mono (by simp)).trans
      ((State.setHandover_sameBut _ _ _).mono (by simp))

theorem State.rejoinAll_sameBut (c : ChairId) (ks : List CtxId) :
    s.sameBut [.loaders, .handovers] (s.rejoinAll c ks) :=
  State.sameBut.foldl (fun s k => s.rejoin_sameBut c k) ks s

/-! ## The chair is told of them -/

theorem State.tellForced_of {s : State} {k : CtxId} {x : Handover} (c : ChairId)
    (used : s.handover k = some x) : s.tellForced c k = s.tellChair c (s.forcedNotice k x) := by
  simp only [State.tellForced, used]

theorem State.tellForced_sameBut (c : ChairId) (k : CtxId) :
    s.sameBut [.queues, .supQueue] (s.tellForced c k) := by
  unfold State.tellForced
  split
  · exact .refl _ s
  · exact s.tellChair_sameBut c _

theorem State.tellForced_tells (c : ChairId) (k : CtxId) : s.tells 1 0 (s.tellForced c k) := by
  unfold State.tellForced
  split
  · exact .refl _ _ _
  · exact s.tellChair_tells c _

/-- The FORCED notices of a list of handovers. -/
def State.tellAllForced (s : State) (c : ChairId) (ks : List CtxId) : State :=
  ks.foldl (fun s k => s.tellForced c k) s

theorem State.tellAllForced_cons (c : ChairId) (k : CtxId) (ks : List CtxId) :
    s.tellAllForced c (k :: ks) = (s.tellForced c k).tellAllForced c ks := rfl

theorem State.tellAllForced_sameBut (c : ChairId) (ks : List CtxId) :
    s.sameBut [.queues, .supQueue] (s.tellAllForced c ks) :=
  State.sameBut.foldl (fun s k => s.tellForced_sameBut c k) ks s

theorem State.tellAllForced_tells (c : ChairId) (ks : List CtxId) :
    s.tells ks.length 0 (s.tellAllForced c ks) :=
  (State.tells.foldl (fun s k => s.tellForced_tells c k) ks s).mono

theorem State.forcedNotice_congr {s t : State} {x : Handover} (k : CtxId)
    (same : t.loader x.loader = s.loader x.loader) : t.forcedNotice k x = s.forcedNotice k x := by
  rw [State.forcedNotice, State.forcedNotice, same]

theorem State.tellAllForced_queued {s : State} {c : ChairId} {ks : List CtxId} {k : CtxId}
    {x : Handover} (listed : k ∈ ks) (used : s.handover k = some x) (up : s.isUp c = true)
    (room : (s.queue (.chair c)).frames.length + ks.length ≤ 32) :
    (s.tellAllForced c ks).queued (.chair c) ⟨0, .notice (s.forcedNotice k x)⟩ := by
  induction ks generalizing s with
  | nil => exact absurd listed (by simp)
  | cons n ks ih =>
    have first := s.tellForced_tells c n
    have frame := s.tellForced_sameBut c n
    have length : ((s.tellForced c n).queue (.chair c)).frames.length + ks.length ≤ 32 := by
      rw [List.length_cons] at room
      have grown := first.length (p := .chair c) (by simp only [noticeCount]; omega)
      simp only [noticeCount] at grown
      omega
    rw [s.tellAllForced_cons]
    by_cases same : k = n
    · subst same
      refine (State.tellAllForced_tells _ c ks).queued (by exact length) ?_
      rw [State.tellForced_of c used]
      exact State.tellChair_queued up _ (by simp at room; omega)
    · have told := ih ((List.mem_cons.mp listed).resolve_left same)
        (by rw [frame.handover]; exact used) (by rw [State.isUp, frame.link]; exact up) length
      rw [State.forcedNotice_congr k (frame.loader _)] at told
      exact told

/-! ## The recovery -/

/-- The orphans have returned and the forced handovers are taken up (06 R123, step 1, 04 R90). -/
def State.loadersBack (s : State) (c : ChairId) : State :=
  ((s.orphansOf c).foldl State.returnOrphan s).rejoinAll c (s.orphanForces c)

theorem State.returnLoaders_eq (c : ChairId) : ∃ n m : Notice, s.returnLoaders c =
    ((((s.loadersBack c).tellChair c n).tellAllForced c (s.orphanForces c)).tellSup m) :=
  ⟨_, _, rfl⟩

theorem State.mem_orphansOf {c : ChairId} {l : LoaderId} : l ∈ s.orphansOf c ↔
    (s.loader l).state = .orphaned ∧ (s.loader l).heldBy c = true := by
  rw [State.orphansOf, s.mem_loadersWhere]
  simp

theorem State.mem_orphanForces {c : ChairId} {k : CtxId} : k ∈ s.orphanForces c ↔
    ∃ x, s.handover k = some x ∧ (s.loader x.loader).prior = some .orphaned ∧
      (s.loader x.loader).heldBy c = true := by
  rw [State.orphanForces, s.mem_contextsWhere]
  simp

theorem State.loadersBack_sameBut (c : ChairId) :
    s.sameBut [.loaders, .handovers] (s.loadersBack c) :=
  ((s.returnOrphans_sameBut _).mono (by simp)).trans (State.rejoinAll_sameBut _ c _)

theorem State.loadersBack_handover (c : ChairId) (k : CtxId) : (s.loadersBack c).handover k =
    if k ∈ s.orphanForces c then (s.handover k).map (·.releasedBy c) else s.handover k := by
  rw [State.loadersBack, State.rejoinAll_handover, (s.returnOrphans_sameBut _).handover]

/-- Only the record of a loader that the chair holds changes, and in it the state, the prior state
and the grace timer. -/
theorem State.loadersBack_loader (c : ChairId) (l : LoaderId) :
    let r := if l ∈ s.orphansOf c then (s.loader l).returned else s.loader l
    (s.namedIn (s.orphanForces c) l → (s.loadersBack c).loader l = r.rejoined) ∧
      (¬ s.namedIn (s.orphanForces c) l → (s.loadersBack c).loader l = r) := by
  have joined := ((s.orphansOf c).foldl State.returnOrphan s).rejoinAll_loader c (s.orphanForces c) l
  simp only [State.namedIn, (s.returnOrphans_sameBut _).handover, s.returnOrphans_loader] at joined
  exact joined

theorem State.loadersBack_orphan {c : ChairId} {l : LoaderId}
    (orphaned : (s.loader l).state = .orphaned) (held : (s.loader l).heldBy c = true) :
    ((s.loadersBack c).loader l).state = .supervised ∧ ((s.loadersBack c).loader l).grace = none ∧
      ((s.loadersBack c).loader l).holder = (s.loader l).holder ∧
      ((s.loadersBack c).loader l).epoch = (s.loader l).epoch := by
  obtain ⟨named, unnamed⟩ := s.loadersBack_loader c l
  rw [if_pos (s.mem_orphansOf.mpr ⟨orphaned, held⟩)] at named unnamed
  by_cases forced : s.namedIn (s.orphanForces c) l
  · rw [named forced]
    exact ⟨rfl, rfl, rfl, rfl⟩
  · rw [unnamed forced]
    exact ⟨rfl, rfl, rfl, rfl⟩

theorem State.loadersBack_kept {c : ChairId} {l : LoaderId} (away : (s.loader l).heldBy c = false) :
    (s.loadersBack c).loader l = s.loader l := by
  have unnamed : ¬ s.namedIn (s.orphanForces c) l := by
    rintro ⟨k, listed, x, used, rfl⟩
    obtain ⟨y, used', -, held⟩ := s.mem_orphanForces.mp listed
    rw [used] at used'
    cases used'
    rw [away] at held
    cases held
  rw [(s.loadersBack_loader c l).2 unnamed, if_neg]
  intro listed
  have held := (s.mem_orphansOf.mp listed).2
  rw [away] at held
  cases held

theorem State.loadersBack_forced {c : ChairId} {l : LoaderId} {k : CtxId} {x : Handover}
    (flight : s.inFlight l k x) (from_orphaned : (s.loader l).prior = some .orphaned)
    (held : (s.loader l).heldBy c = true) :
    k ∈ s.orphanForces c ∧ (s.loadersBack c).handover k = some (x.releasedBy c) ∧
      (s.loadersBack c).loader l = (s.loader l).rejoined := by
  obtain ⟨transfer, -, used, is_l⟩ := flight
  have listed : k ∈ s.orphanForces c :=
    s.mem_orphanForces.mpr ⟨x, used, by rw [is_l]; exact ⟨from_orphaned, held⟩⟩
  refine ⟨listed, ?_, ?_⟩
  · rw [s.loadersBack_handover, if_pos listed, used]
    rfl
  · rw [(s.loadersBack_loader c l).1 ⟨k, listed, x, used, is_l⟩, if_neg]
    intro orphan
    have state := (s.mem_orphansOf.mp orphan).1
    rw [transfer] at state
    cases state

/-- What follows the return of the loaders only tells of it. -/
theorem State.returnLoaders_afterBack (c : ChairId) :
    (s.loadersBack c).sameBut [.queues, .supQueue] (s.returnLoaders c) := by
  obtain ⟨n, m, stands⟩ := s.returnLoaders_eq c
  rw [stands]
  exact ((State.tellChair_sameBut _ c n).trans (State.tellAllForced_sameBut _ c _)).trans
    ((State.tellSup_sameBut _ m).mono (by simp))

theorem State.returnLoaders_queued {s : State} {c : ChairId} {k : CtxId} {x : Handover}
    (listed : k ∈ s.orphanForces c) (used : (s.loadersBack c).handover k = some x)
    (up : s.isUp c = true) (empty : (s.queue (.chair c)).frames = []) :
    (s.returnLoaders c).queued (.chair c) ⟨0, .notice ((s.loadersBack c).forcedNotice k x)⟩ := by
  obtain ⟨n, m, stands⟩ := s.returnLoaders_eq c
  have back := s.loadersBack_sameBut c
  have told := (s.loadersBack c).tellChair_sameBut c n
  have begun : ((s.loadersBack c).queue (.chair c)).frames.length = 0 := by
    rw [back.queue, empty]
    rfl
  have first := ((s.loadersBack c).tellChair_tells c n).length (p := .chair c)
    (by rw [begun]; simp [noticeCount])
  have few : (s.orphanForces c).length ≤ 8 :=
    (List.length_filter_le _ _).trans (by simp)
  rw [stands, State.queued, State.tellSup_queue_chair, ← State.forcedNotice_congr k (told.loader _)]
  refine State.tellAllForced_queued listed (by rw [told.handover]; exact used) ?_ ?_
  · rw [State.isUp, told.link, back.link]
    exact up
  · simp only [noticeCount, begun] at first
    omega

/-- The link as the recovery leaves it (08 R154). -/
def State.linkRecovered (s : State) (c : ChairId) : State :=
  s.modLink c fun k => { k with
    state := .up, errors := 0, tally := 0, run := 0, silence := some ⟨s.params.linkSilence, 0⟩ }

/-- The sixteenth frame of the run recovers the link. -/
theorem State.takeLost_recovers {s : State} {c : ChairId} (panel : Byte)
    (run : (s.link c).run = 15) :
    s.takeLost c panel = ((s.linkRecovered c).returnLoaders c).takePanel c panel := by
  have reached : ¬ (s.link c).run + 1 < 16 := by omega
  simp only [State.takeLost, Config.runLength, State.modLink_link_self, reached, if_false,
    State.recover, State.modLink_modLink]
  rfl

theorem State.takePanel_calm {s : State} {c : ChairId} {panel : Byte}
    (calm : panelStop panel = true → (s.chair c).stop = true) :
    s.takePanel c panel = s.modChair c fun r =>
      { r with stop := panelStop panel, neutral := panelNeutral panel } := by
  have fresh : s.newlyPressed c panel = false := by
    rw [State.newlyPressed]
    cases pressed : panelStop panel with
    | false => rfl
    | true => rw [calm pressed]; rfl
  simp only [State.takePanel, fresh, Bool.false_eq_true, if_false]

/-- Settles O10. -/
theorem sixteenthFrameRecoversLink : Obligations.SixteenthFrameRecoversLink := by
  unfold Obligations.SixteenthFrameRecoversLink
  intro s c panel released lost run calm
  have before : s.sameBut [.links] (s.linkRecovered c) := s.modLink_sameBut c _
  have link : (s.linkRecovered c).link c = { s.link c with
      state := .up, errors := 0, tally := 0, run := 0, silence := some ⟨s.params.linkSilence, 0⟩ } :=
    s.modLink_link_self c _
  have next : exec (.lostLinkFrame c panel) s =
      .next (((s.linkRecovered c).returnLoaders c).takePanel c panel) := by
    have gate : exec (.lostLinkFrame c panel) s = execLostLinkFrame c panel s := rfl
    rw [gate, execLostLinkFrame, s.running_of _ released, State.takeIfLost, if_pos lost,
      State.takeLost_recovers panel run]
  generalize s.linkRecovered c = a at before link next
  have back := a.loadersBack_sameBut c
  have told := a.returnLoaders_afterBack c
  have stop : ((a.returnLoaders c).chair c).stop = (s.chair c).stop := by
    rw [told.chair, back.chair, before.chair]
  rw [State.takePanel_calm (by rw [stop]; exact calm)] at next
  let b := (a.returnLoaders c).modChair c fun r =>
    { r with stop := panelStop panel, neutral := panelNeutral panel }
  have taken : (a.returnLoaders c).sameBut [.chairs] b := State.modChair_sameBut _ c _
  have after : (a.loadersBack c).sameBut [.queues, .supQueue, .chairs] b :=
    (told.mono (by simp)).trans (taken.mono (by simp))
  refine ⟨b, next, ?_, fun l orphaned held => ?_, fun l away => ?_,
    fun l k x flight from_orphaned held => ?_, fun k other => ?_, ?_, ?_, ?_⟩
  · rw [after.link, back.link, link]
  · rw [after.loader, ← before.loader] at *
    exact a.loadersBack_orphan orphaned held
  · rw [after.loader, a.loadersBack_kept (by rw [before.loader]; exact away), before.loader]
  · obtain ⟨listed, handover, loader⟩ := a.loadersBack_forced (before.inFlight flight)
      (by rw [before.loader]; exact from_orphaned) (by rw [before.loader]; exact held)
    refine ⟨by rw [after.handover, handover]; rfl,
      by rw [after.loader, loader, before.loader]; rfl, fun empty => ?_⟩
    have up : a.isUp c = true := by
      rw [State.isUp, link]
      rfl
    have queued := State.returnLoaders_queued listed handover up (by rw [before.queue]; exact empty)
    have notice : (a.loadersBack c).forcedNotice k (x.releasedBy c) =
        .forced k l x.taking x.slot x.target (some .supervised) x.phase := by
      have prior : ((a.loadersBack c).loader (x.releasedBy c).loader).prior = some .supervised := by
        have same : (x.releasedBy c).loader = l := flight.2.2.2
        rw [same, loader]
        rfl
      rw [State.forcedNotice, prior, ← flight.2.2.2]
      rfl
    rw [notice] at queued
    exact queued
  · rw [after.handover, a.loadersBack_handover, if_neg, before.handover]
    intro listed
    obtain ⟨x, used, from_orphaned, held⟩ := a.mem_orphanForces.mp listed
    rw [before.handover] at used
    rw [before.loader] at from_orphaned held
    rcases other x used with elsewhere | away
    · exact elsewhere from_orphaned
    · rw [away] at held
      cases held
  · exact congrArg Chair.stop (State.modChair_chair_self _ c _)
  · exact congrArg Chair.neutral (State.modChair_chair_self _ c _)
  · exact (before.mono (by simp)).trans ((back.mono (by simp)).trans (after.mono (by simp)))

end Sys2Proof.Machine
end

section
/-! PROOF. What judging a recorded position leaves (01 R12, 02 R26). -/

namespace Sys2Proof.Machine

-- One theorem after another, so that the compile stays within its memory.
set_option Elab.async false

variable (s : State)

/-! ## The verdict names the ground's cause -/

/-- The cause that the recorded position of a loader gives, if any. -/
def State.recordCause (s : State) (l : LoaderId) (before : Option ZoneId) : Option Cause :=
  (s.loader l).position.bind (s.groundCause (s.judgedMode l) before)

/-- The event aborts a handover as the cause asks: CLOSING and BARRIER send the loader back, and
every other cause halts it (04 R87). -/
structure AbortEvent.judges (e : AbortEvent) (y : Cause) : Prop where
  cause : e.cause = y
  reverts : y ∈ [Cause.closing, .barrier] → ∀ held grace, e.fate held grace = .revert
  halts : y ∉ [Cause.closing, .barrier] → e.halts

theorem AbortEvent.judges.of_halts {e : AbortEvent} {y : Cause} (cause : e.cause = y)
    (apart : y ∉ [Cause.closing, .barrier]) (halts : e.halts) : e.judges y :=
  ⟨cause, fun back => absurd back apart, fun _ => halts⟩

theorem AbortEvent.judges.of_reverts {e : AbortEvent} {y : Cause} (cause : e.cause = y)
    (back : y ∈ [Cause.closing, .barrier]) (reverts : ∀ held grace, e.fate held grace = .revert) :
    e.judges y :=
  ⟨cause, fun _ => reverts, fun apart => absurd back apart⟩

theorem AbortEvent.atMachine_judges : AbortEvent.atMachine.judges .atMachine :=
  .of_halts rfl (by decide) fun _ _ => rfl

theorem Verdict.asks_judges {v : Verdict} {y : Cause} {e : AbortEvent}
    (asks : v.asks = some (y, e)) : e.judges y := by
  cases v with
  | permissible => cases asks
  | zoneClosed => cases asks; exact .of_halts rfl (by decide) fun _ _ => rfl
  | brow => cases asks; exact .of_halts rfl (by decide) fun _ _ => rfl
  | zoneMode => cases asks; exact .of_halts rfl (by decide) fun _ _ => rfl
  | closing => cases asks; exact .of_reverts rfl (by decide) fun _ _ => rfl
  | barrier => cases asks; exact .of_reverts rfl (by decide) fun _ _ => rfl

theorem ZoneClass.open_manual_false {x : ZoneClass} (unclosed : x ≠ .closed) :
    x.open .manual = false ↔ x = .autoFlagged ∨ x = .autoOnly := by
  cases x <;> simp_all [ZoneClass.open]

/-- The verdict asks for what the first failing test of the ground names. -/
theorem State.verdict_asks (l : LoaderId) (before : Option ZoneId) :
    (s.verdict l before).asks.map Prod.fst = s.recordCause l before := by
  unfold State.recordCause State.verdict
  cases (s.loader l).position with
  | none => rfl
  | some p =>
    simp only [Option.bind_some, State.groundCause, firstFailing_cons, ← Zone.within_eq_holdsSegment]
    by_cases closed : (s.zone p.zone).cls = .closed
    · simp [closed, Verdict.asks]
    · have mode := ZoneClass.open_manual_false closed
      cases inside : (s.zone p.zone).within p.chainage
      · simp [closed, Verdict.asks]
      · cases m : s.judgedMode l
        · by_cases auto : (s.zone p.zone).cls = .autoFlagged ∨ (s.zone p.zone).cls = .autoOnly
          · simp [closed, auto, mode.mpr auto, Verdict.asks]
          · have open_ : (s.zone p.zone).cls.open .manual = true := by
              simpa using mt mode.mp auto
            cases closing : (s.zone p.zone).closing <;> by_cases same : before = some p.zone <;>
              simp [closed, auto, open_, same, Verdict.asks, firstFailing]
        · cases closing : (s.zone p.zone).closing <;> by_cases same : before = some p.zone <;>
            cases breached : s.barriers[levelOf p.zone] <;>
            simp [closed, same, Verdict.asks, firstFailing]

/-! ## One judgement -/

section

variable {s} {l : LoaderId} {before : Option ZoneId} {onReport : Bool}

theorem State.judgeOnce_clear (clear : s.recordCause l before = none) :
    s.judgeOnce l before onReport = s.present l onReport := by
  rw [← s.verdict_asks, Option.map_eq_none_iff] at clear
  rw [State.judgeOnce, clear]

theorem State.judgeOnce_asks {y : Cause} (asked : s.recordCause l before = some y) :
    ∃ e : AbortEvent, e.judges y ∧ s.judgeOnce l before onReport = s.haltLoader l y e := by
  rw [← s.verdict_asks, Option.map_eq_some_iff] at asked
  obtain ⟨⟨c, e⟩, asks, rfl⟩ := asked
  exact ⟨e, Verdict.asks_judges asks, by rw [State.judgeOnce, asks]⟩

/-- A loader in TRANSFER that an abort has sent back to authority is judged again (04 R87). -/
theorem State.judge_eq (authority : (s.loader l).hasAuthority = true) :
    s.judge l before onReport =
      if (s.loader l).state = .transfer ∧ (s.recordCause l before).isSome = true ∧
          ((s.judgeOnce l before onReport).loader l).hasAuthority = true then
        (s.judgeOnce l before onReport).judgeOnce l before onReport
      else s.judgeOnce l before onReport := by
  rw [State.judge, if_pos authority, ← s.verdict_asks, Option.isSome_map]
  simp only [Bool.and_eq_true, beq_iff_eq, and_assoc]

theorem State.judge_calm (calm : (s.loader l).hasAuthority = false) :
    s.judge l before onReport = s := by
  rw [State.judge, if_neg (by simp [calm])]

theorem State.judge_clear (authority : (s.loader l).hasAuthority = true)
    (clear : s.recordCause l before = none) :
    s.judge l before onReport = s.present l onReport := by
  rw [State.judge_eq authority, clear, if_neg (by simp), State.judgeOnce_clear clear]

theorem State.judge_held {y : Cause}
    (held : (s.loader l).state ∈ [LoaderState.driven, .supervised, .orphaned])
    (asked : s.recordCause l before = some y) :
    s.judge l before onReport = s.enterHalted l y := by
  have authority : (s.loader l).hasAuthority = true := by
    simp only [List.mem_cons, List.not_mem_nil, or_false] at held
    rcases held with e | e | e <;> rw [Loader.hasAuthority, e] <;> rfl
  have out : (s.loader l).state ≠ .transfer := fun e => by
    rw [e] at held
    exact absurd held (by decide)
  obtain ⟨e, -, once⟩ := State.judgeOnce_asks (onReport := onReport) asked
  rw [State.judge_eq authority, if_neg (fun h => out h.1), once, s.haltLoader_of_held held]

end

/-! ## A loader in flight is judged -/

/-- By the holder law a loader in TRANSFER from a held state is judged in the mode of that state
(02 2-3, 04 R65). -/
theorem State.judgedMode_inFlight {s : State} {l : LoaderId} {p : LoaderState} (law : s.holderLaw)
    (transfer : (s.loader l).state = .transfer) (from_prior : (s.loader l).prior = some p)
    (held : p ∈ [LoaderState.driven, .supervised, .orphaned]) :
    s.judgedMode l = if p = .driven then .manual else .supervised := by
  obtain ⟨has, mode⟩ := law l
  have holder : (s.loader l).holder.isSome = true := has.mpr (.inr ⟨transfer, by
    rw [from_prior]
    simpa using held⟩)
  obtain ⟨y, hy⟩ := Option.isSome_iff_exists.mp holder
  have manual := mode y hy
  rw [from_prior, transfer] at manual
  rw [State.judgedMode, transfer]
  simp only [Loader.heldMode, hy, Option.map_some]
  by_cases driven : p = .driven
  · rw [if_pos driven]
    exact manual.mpr (.inr ⟨rfl, by rw [driven]⟩)
  · rw [if_neg driven]
    cases m : y.mode with
    | supervised => rfl
    | manual =>
      rcases manual.mp m with e | ⟨-, e⟩
      · cases e
      · exact absurd (Option.some.inj e) driven

/-- A loader that an abort has sent back to a held state stands on the same ground in the same mode:
it is asked for the same. -/
theorem State.recordCause_reverted {s t : State} {l : LoaderId} {p : LoaderState} {x : Handover}
    {lapse : Nat} (law : s.holderLaw) (transfer : (s.loader l).state = .transfer)
    (from_prior : (s.loader l).prior = some p)
    (held : p ∈ [LoaderState.driven, .supervised, .orphaned])
    (record : t.loader l = (s.loader l).reverted p x lapse) (zones : t.zones = s.zones)
    (barriers : t.barriers = s.barriers) (before : Option ZoneId) :
    t.recordCause l before = s.recordCause l before := by
  have mode : t.judgedMode l = s.judgedMode l := by
    rw [State.judgedMode_inFlight law transfer from_prior held, State.judgedMode, record,
      Loader.reverted_state]
    simp only [List.mem_cons, List.not_mem_nil, or_false] at held
    rcases held with rfl | rfl | rfl <;> rfl
  have ground : ∀ m b q, t.groundCause m b q = s.groundCause m b q := fun m b q => by
    simp only [State.groundCause, State.zone, zones, barriers]
  rw [State.recordCause, record, Loader.reverted_position, mode, State.recordCause]
  simp only [ground]

theorem Loader.haltedFrom_of_haltedBy {r r' : Loader} {held : Option HaltRecord} {cause : Cause}
    {sec : Word32} (running : r.prior ≠ some .halted) (h : r.haltedBy r' cause sec) :
    r.haltedFrom r' held cause sec := by
  unfold Loader.haltedFrom
  split
  · next from_halted => exact absurd from_halted running
  · exact h

theorem State.sameBut.zones_eq {ps : List Part} {s t : State} (frame : s.sameBut ps t)
    (out : Part.zones ∉ ps := by decide) : t.zones = s.zones := frame .zones out

/-- What a judgement that names a cause leaves of a loader in flight. -/
theorem State.judge_inFlight {s : State} {l : LoaderId} {k : CtxId} {x : Handover} {y : Cause}
    {before : Option ZoneId} (onReport : Bool) (law : s.transferLaw) (holders : s.holderLaw)
    (flight : s.inFlight l k x) (asked : s.recordCause l before = some y) :
    s.judgedInFlight (s.judge l before onReport) l k x (s.loader l) y ∧
      s.otherHandovers k (s.judge l before onReport) ∧
      s.sameBut haltParts (s.judge l before onReport) := by
  have transfer := flight.1
  have authority : (s.loader l).hasAuthority = true := by
    rw [Loader.hasAuthority, transfer]
    rfl
  obtain ⟨e, judges, once⟩ := State.judgeOnce_asks (onReport := onReport) asked
  rw [State.haltLoader_of_flight flight] at once
  rw [State.judge_eq authority, once, asked]
  by_cases back : y ∈ [Cause.closing, .barrier]
  · obtain ⟨p, from_prior⟩ : ∃ p, (s.loader l).prior = some p := by
      have prior := (law.2 l transfer).2
      simp only [List.mem_cons, List.not_mem_nil, or_false] at prior
      rcases prior with e | e | e | e | e <;> exact ⟨_, e⟩
    have start := law.start flight from_prior
    have reverted := State.abort_flightReverted flight from_prior (judges.reverts back _ _)
    have frame := s.abort_sameBut k e
    have state : ((s.abort k e).loader l).state = p := by
      rw [reverted.record, Loader.reverted_state]
    by_cases idle : p ∈ [LoaderState.parked, .halted]
    · have calm : ((s.abort k e).loader l).hasAuthority = false := by
        rw [Loader.hasAuthority, state]
        simp only [List.mem_cons, List.not_mem_nil, or_false] at idle
        rcases idle with rfl | rfl <;> rfl
      rw [if_neg (by simp [calm])]
      refine ⟨⟨reverted.handover, ?_, ?_⟩, reverted.otherHandovers, frame⟩
      · rw [reverted.fleet, if_pos (by simpa using idle)]
      · rw [if_pos ⟨back, by rw [from_prior]; simpa using idle⟩, reverted.record]
        exact Loader.reverted_backFrom from_prior idle
    · have held : p ∈ [LoaderState.driven, .supervised, .orphaned] := by
        simp only [List.mem_cons, List.not_mem_nil, or_false] at start idle ⊢
        tauto
      have again : (s.abort k e).recordCause l before = some y := by
        rw [State.recordCause_reverted holders transfer from_prior held reverted.record
          frame.zones_eq frame.barriers, asked]
      obtain ⟨e', -, twice⟩ := State.judgeOnce_asks (onReport := onReport) again
      have has : ((s.abort k e).loader l).hasAuthority = true := by
        rw [Loader.hasAuthority, state]
        simp only [List.mem_cons, List.not_mem_nil, or_false] at held
        rcases held with rfl | rfl | rfl <;> rfl
      rw [if_pos ⟨transfer, rfl, has⟩, twice, State.haltLoader_of_held _ (by rw [state]; exact held)]
      have halted := (s.abort k e).enterHalted_loader l y
      have entered := (s.abort k e).enterHalted_sameBut l y
      have calm_fleet : ¬ (p = .parked ∨ p = .halted) := by simpa using idle
      refine ⟨⟨by rw [entered.handover, reverted.handover], ?_, ?_⟩, fun n ne => ?_,
        frame.trans (entered.mono (by simp [haltParts]))⟩
      · have fleet := reverted.fleet
        rw [if_neg calm_fleet] at fleet
        rw [State.enterHalted_fleet, State.ordered, State.ordered, fleet, frame.radioMap]
      · rw [if_neg (fun h => calm_fleet (by simpa [from_prior] using h.2))]
        rw [reverted.record, frame.seconds] at halted
        refine Loader.haltedFrom_of_haltedBy ?_ (Loader.haltedBy.of_reverted halted)
        rw [from_prior]
        exact fun e => calm_fleet (.inr (Option.some.inj e))
      · rw [entered.handover, reverted.otherHandovers n ne]
  · have halted := State.abort_flightHalted flight (e := e) (cause := e.cause) (judges.halts back _ _)
    rw [judges.cause] at halted
    have calm : ((s.abort k e).loader l).hasAuthority = false := halted.record.out.noAuthority
    rw [if_neg (by simp [calm])]
    refine ⟨⟨halted.handover, halted.fleet, ?_⟩, halted.otherHandovers, s.abort_sameBut k e⟩
    rw [if_neg (fun h => back h.1)]
    exact halted.record

end Sys2Proof.Machine
end

section
/-! PROOF. What a judgement leaves of the zones, the watches and the queues (01 R12, 02 R28, R29,
R35). -/

namespace Sys2Proof.Machine

-- One theorem after another, so that the compile stays within its memory.
set_option Elab.async false

variable (s : State)

/-! ## Watches that stay -/

/-- Every pair that is watched still is. -/
def WatchTable.keeps (w w' : WatchTable) : Prop :=
  ∀ c l, w.watches c l = true → w'.watches c l = true

theorem WatchTable.keeps.refl (w : WatchTable) : w.keeps w := fun _ _ => id

theorem WatchTable.keeps.trans {w w' w'' : WatchTable} (h : w.keeps w') (h' : w'.keeps w'') :
    w.keeps w'' := fun c l watched => h' c l (h c l watched)

theorem WatchTable.keeps.of_eq {w w' : WatchTable} (same : w' = w) : w.keeps w' := same ▸ .refl w

/-- An entry whose lock or used flag is written names the same pair. -/
theorem WatchTable.modPinned_keeps (w : WatchTable) (i : PinnedId) (f : PinnedEntry → PinnedEntry)
    (names : ∀ e c l, (f e).names c l = e.names c l) : w.keeps (w.modPinned i f) := by
  intro c l watched
  rw [WatchTable.watches_iff] at watched ⊢
  refine watched.imp (fun ⟨n, named⟩ => ⟨n, ?_⟩) id
  by_cases same : n = i
  · subst same
    rw [WatchTable.modPinned, w.setPinned_self]
    cases entry : w.pinned[n] with
    | none => rw [entry] at named; cases named
    | some e =>
      rw [entry] at named
      simpa [names] using named
  · rw [WatchTable.modPinned, w.setPinned_ne same]
    exact named

theorem WatchTable.unlock_keeps (w : WatchTable) (c : ChairId) (l : LoaderId) :
    w.keeps (w.unlock c l) := by
  unfold WatchTable.unlock
  split
  · exact w.modPinned_keeps _ _ fun _ _ _ => rfl
  · exact .refl w

theorem WatchTable.unlockHolder_keeps (w : WatchTable) (l : LoaderId) (holder : Option Holding) :
    w.keeps (w.unlockHolder l holder) := by
  unfold WatchTable.unlockHolder
  split
  · exact w.unlock_keeps _ l
  · exact .refl w

/-- A set whose mark alone is written holds the same pairs. -/
theorem WatchTable.setOpen_keeps (w : WatchTable) (n : SetId) (m : Bool) :
    w.keeps (w.setOpen n { w.openSets[n] with mark := m }) := by
  intro c l watched
  rw [WatchTable.watches_iff] at watched ⊢
  refine watched.imp id fun standing => ?_
  by_cases same : setOf c l = n
  · subst same
    rw [w.setOpen_self]
    exact standing
  · rw [w.setOpen_ne same]
    exact standing

theorem WatchTable.touch_keeps (w : WatchTable) (c : ChairId) (l : LoaderId) :
    w.keeps (w.touch c l) := by
  unfold WatchTable.touch
  split
  · exact w.modPinned_keeps _ _ fun _ _ _ => rfl
  · split
    · exact w.setOpen_keeps _ _
    · exact .refl w

theorem State.enterHalted_keepsWatches (l : LoaderId) (cause : Cause) :
    s.watch.keeps (s.enterHalted l cause).watch := by
  rw [State.enterHalted, s.enterHaltedWith_watch]
  exact s.watch.unlockHolder_keeps l _

theorem State.abort_keepsWatches (k : CtxId) (e : AbortEvent) :
    s.watch.keeps (s.abort k e).watch := by
  cases used : s.handover k with
  | none =>
    rw [s.abort_of_free used]
    exact .refl _
  | some x =>
    rw [State.abort_watch used]
    split
    · exact (s.watch.unlock_keeps _ _).trans (WatchTable.unlockHolder_keeps _ _ _)
    · exact s.watch.unlock_keeps _ _

theorem State.haltLoader_keepsWatches (l : LoaderId) (cause : Cause) (e : AbortEvent) :
    s.watch.keeps (s.haltLoader l cause e).watch := by
  unfold State.haltLoader
  split
  · split
    · exact s.abort_keepsWatches _ e
    · exact .refl _
  · exact s.enterHalted_keepsWatches l cause
  · exact s.enterHalted_keepsWatches l cause
  · exact s.enterHalted_keepsWatches l cause
  · exact .refl _

/-! ## Presence (02 R28, R29) -/

/-- The entered flag is set where the report shows a loader that moves by itself (02 R28). -/
def State.presentMarked (s : State) (l : LoaderId) (onReport : Bool) : State :=
  match (s.loader l).zone? with
  | some z => if onReport = true ∧ ((s.loader l).state = .supervised ∨ (s.loader l).state = .orphaned)
      then s.markEntered z else s
  | none => s

theorem State.present_eq (l : LoaderId) (onReport : Bool) :
    s.present l onReport = (s.presentMarked l onReport).recordPresence l := rfl

theorem State.presentMarked_sameBut (l : LoaderId) (onReport : Bool) :
    s.sameBut [.zones] (s.presentMarked l onReport) := by
  unfold State.presentMarked
  split
  · split
    · exact s.markEntered_sameBut _
    · exact .refl _ s
  · exact .refl _ s

theorem State.presentMarked_zone (l : LoaderId) (onReport : Bool) (z : ZoneId) :
    (s.presentMarked l onReport).zone z =
      { s.zone z with
        entered := (s.zone z).entered || ((s.loader l).inZone z && onReport &&
          ((s.loader l).state == .supervised || (s.loader l).state == .orphaned)) } := by
  unfold State.presentMarked
  cases position : (s.loader l).position with
  | none => simp [Loader.zone?, Loader.inZone, position]
  | some p =>
    simp only [Loader.zone?, Loader.inZone, position, Option.map_some, Option.any_some]
    split
    · next moving =>
      rw [s.markEntered_zone]
      rcases moving with ⟨report, e | e⟩ <;> simp [report, e]
    · next still =>
      have unset : (onReport && ((s.loader l).state == .supervised ||
          (s.loader l).state == .orphaned)) = false := by
        simpa using still
      rw [Bool.and_assoc, unset, Bool.and_false, Bool.or_false]

theorem State.recordPresence_sameBut_supQueue (l : LoaderId) :
    s.sameBut [.zones, .supQueue] (s.recordPresence l) := by
  unfold State.recordPresence State.raiseAttention
  dsimp only
  split
  · exact .refl _ s
  · split
    · split
      · exact .refl _ s
      · split
        · exact (s.modZone_sameBut _ _).mono (by simp)
        · exact ((s.modZone_sameBut _ _).mono (by simp)).trans
            ((State.tellSup_sameBut_supQueue _ _).mono (by simp))
    · exact .refl _ s

theorem State.present_sameBut (l : LoaderId) (onReport : Bool) :
    s.sameBut [.zones, .supQueue] (s.present l onReport) := by
  rw [s.present_eq]
  exact ((s.presentMarked_sameBut l onReport).mono (by simp)).trans
    (State.recordPresence_sameBut_supQueue _ l)

theorem State.present_tells (l : LoaderId) (onReport : Bool) :
    s.tells 0 1 (s.present l onReport) := by
  rw [s.present_eq]
  exact (State.recordPresence_tells _ l).after (s.presentMarked_sameBut l onReport)

theorem State.present_zone (l : LoaderId) (onReport : Bool) (z : ZoneId) :
    (s.present l onReport).zone z =
      { s.zone z with
        entered := (s.zone z).entered || ((s.loader l).inZone z && onReport &&
          ((s.loader l).state == .supervised || (s.loader l).state == .orphaned))
        attention := (s.zone z).attention || ((s.loader l).inZone z &&
          ((s.zone z).cls == .autoFlagged || (s.zone z).cls == .openFlagged)) } := by
  rw [s.present_eq, State.recordPresence_zone, s.presentMarked_zone,
    (s.presentMarked_sameBut l onReport).loader]

/-- A presence that sets the attention flag is told, while attention notices are on (02 R29). -/
theorem State.recordPresence_queued {s : State} {l : LoaderId} {z : ZoneId}
    (here : (s.loader l).inZone z = true)
    (flagged : (s.zone z).cls = .autoFlagged ∨ (s.zone z).cls = .openFlagged)
    (unset : (s.zone z).attention = false) (on : s.params.attention ≠ 0)
    (room : s.supQueue.frames.length < 32) :
    (s.recordPresence l).queued .supervisor ⟨0, .notice (.zoneAttention z (s.zone z).cls l
      (s.loader l).holderChair s.seconds)⟩ := by
  have stands : (s.loader l).zone? = some z := by
    cases position : (s.loader l).position with
    | none => simp [Loader.inZone, position] at here
    | some p => simpa [Loader.inZone, Loader.zone?, position] using here
  have off : ¬ (s.modZone z fun x => { x with attention := true }).params.attention = 0 := on
  have told : s.recordPresence l = (s.modZone z fun x => { x with attention := true }).tellSup
      (.zoneAttention z (s.zone z).cls l (s.loader l).holderChair s.seconds) := by
    simp only [State.recordPresence, stands, if_pos flagged, State.raiseAttention, unset,
      Bool.false_eq_true, if_false, off, State.modZone_zone_self, State.modZone_loader,
      State.modZone_seconds]
  rw [told]
  exact State.tellSup_queued _ room

/-! ## The completion checks (02 R35) -/

theorem State.checkClosure_zone_safe {s : State} {z : ZoneId} (y : ZoneId) (n : Nat)
    (safe : (s.zone z).closing = none ∨
      ∃ l, (s.loader l).hasAuthority = true ∧ (s.loader l).inZone z = true) :
    (s.checkClosure y n).zone z = s.zone z := by
  by_cases same : z = y
  · subst same
    rcases safe with unclosed | ⟨l, authority, here⟩
    · simp only [State.checkClosure, unclosed]
    · rw [State.checkClosure_waits n authority here]
  · unfold State.checkClosure
    split
    · split
      · rw [State.completeClosure_zone, if_neg same]
      · rfl
    · rfl

theorem State.checkClosure?_zone_safe {s : State} {z : ZoneId} (y : Option ZoneId)
    (safe : (s.zone z).closing = none ∨
      ∃ l, (s.loader l).hasAuthority = true ∧ (s.loader l).inZone z = true) :
    (s.checkClosure? y).zone z = s.zone z := by
  cases y with
  | none => rfl
  | some y => exact State.checkClosure_zone_safe y 0 safe

theorem State.checkMoved_sameBut (l : LoaderId) (before : Option ZoneId) :
    s.sameBut [.zones, .closures, .supQueue] (s.checkMoved l before) :=
  (s.checkClosure?_sameBut_supQueue before).trans (State.checkZoneOf_sameBut_supQueue _ l)

theorem State.checkMoved_tells (l : LoaderId) (before : Option ZoneId) :
    s.tells 0 2 (s.checkMoved l before) :=
  (s.checkClosure?_tells before).trans (State.checkZoneOf_tells _ l)

theorem State.checkMoved_zone_safe {s : State} {z : ZoneId} (l : LoaderId) (before : Option ZoneId)
    (safe : (s.zone z).closing = none ∨
      ∃ l, (s.loader l).hasAuthority = true ∧ (s.loader l).inZone z = true) :
    (s.checkMoved l before).zone z = s.zone z := by
  have first := State.checkClosure?_zone_safe before safe
  have frame := s.checkClosure?_sameBut_supQueue before
  have second : ((s.checkClosure? before).checkZoneOf l).zone z = (s.checkClosure? before).zone z := by
    refine State.checkClosure?_zone_safe _ ?_
    simpa only [first, frame.loader] using safe
  rw [State.checkMoved, second, first]

/-! ## A judgement -/

/-- What a judgement that named a cause, or none, leaves of a loader. -/
structure State.judgement (a b : State) (l : LoaderId) (cause : Option Cause) (onReport : Bool) :
    Prop where
  calm : (a.loader l).hasAuthority = false → b = a
  clear : (a.loader l).hasAuthority = true → cause = none → b = a.present l onReport
  held : ∀ y, cause = some y → (a.loader l).state ∈ [LoaderState.driven, .supervised, .orphaned] →
    b = a.enterHalted l y
  flight : ∀ y k x, cause = some y → a.transferLaw → a.holderLaw → a.inFlight l k x →
    a.judgedInFlight b l k x (a.loader l) y ∧ a.otherHandovers k b ∧ a.sameBut haltParts b
  others : (a.loader l).state ≠ .transfer ∨ a.transferLaw → a.otherLoaders l b
  frame : a.sameBut eventParts b
  tells : a.tells 9 6 b
  watches : a.watch.keeps b.watch

theorem State.haltLoader_others {l : LoaderId} (cause : Cause) (e : AbortEvent)
    (settled : (s.loader l).state ≠ .transfer ∨ s.transferLaw) :
    s.otherLoaders l (s.haltLoader l cause e) := by
  intro n ne
  cases has : (s.loader l).hasAuthority with
  | false => rw [s.haltLoader_of_calm has]
  | true =>
    by_cases transfer : (s.loader l).state = .transfer
    · obtain ⟨⟨k, named, x, used, is_l⟩, -⟩ := (settled.resolve_left fun h => h transfer).2 l transfer
      rw [State.haltLoader_of_flight ⟨transfer, named, used, is_l⟩]
      exact State.abort_loader_ne used e (by rw [is_l]; exact ne)
    · rw [s.haltLoader_of_held (Loader.held_of_authority has transfer),
        s.enterHalted_loader_ne _ ne]

/-- Once its handover is aborted a loader is not in TRANSFER. -/
theorem State.haltLoader_out {l : LoaderId} (cause : Cause) (e : AbortEvent)
    (law : s.transferLaw) (transfer : (s.loader l).state = .transfer) :
    ((s.haltLoader l cause e).loader l).state ≠ .transfer := by
  obtain ⟨⟨k, named, x, used, is_l⟩, prior⟩ := law.2 l transfer
  have flight : s.inFlight l k x := ⟨transfer, named, used, is_l⟩
  rw [State.haltLoader_of_flight flight]
  subst is_l
  rw [State.abort_loader_own used]
  cases fate : s.fateOf x e with
  | revert =>
    obtain ⟨p, from_prior⟩ : ∃ p, (s.loader x.loader).prior = some p := by
      simp only [List.mem_cons, List.not_mem_nil, or_false] at prior
      rcases prior with e | e | e | e | e <;> exact ⟨_, e⟩
    have start := law.start flight from_prior
    rw [State.abortRecord_revert fate from_prior, Loader.reverted_state]
    rintro rfl
    exact absurd start (by decide)
  | orphan =>
    rw [State.abortRecord_orphan fate]
    exact fun e => by cases e
  | halt c =>
    rw [(State.abortRecord_halt fate).out.1]
    decide

section

variable {s} {l : LoaderId} {before : Option ZoneId} {onReport : Bool}

theorem State.judgeOnce_frame : s.sameBut eventParts (s.judgeOnce l before onReport) := by
  unfold State.judgeOnce
  split
  · exact (s.present_sameBut l onReport).mono (by simp)
  · exact (s.haltLoader_sameBut l _ _).mono (by simp [haltParts])

theorem State.judgeOnce_tells : s.tells 3 2 (s.judgeOnce l before onReport) := by
  unfold State.judgeOnce
  split
  · exact (s.present_tells l onReport).mono
  · exact s.haltLoader_tells l _ _

theorem State.judgeOnce_keepsWatches : s.watch.keeps (s.judgeOnce l before onReport).watch := by
  unfold State.judgeOnce
  split
  · exact .of_eq (s.present_sameBut l onReport).watch
  · exact s.haltLoader_keepsWatches l _ _

theorem State.judgeOnce_others (settled : (s.loader l).state ≠ .transfer ∨ s.transferLaw) :
    s.otherLoaders l (s.judgeOnce l before onReport) := by
  unfold State.judgeOnce
  split
  · exact fun n _ => (s.present_sameBut l onReport).loader n
  · exact s.haltLoader_others _ _ settled

theorem State.judge_frame : s.sameBut eventParts (s.judge l before onReport) := by
  unfold State.judge
  dsimp only
  split
  · split
    · exact State.judgeOnce_frame.trans State.judgeOnce_frame
    · exact State.judgeOnce_frame
  · exact .refl _ s

theorem State.judge_tells : s.tells 6 4 (s.judge l before onReport) := by
  unfold State.judge
  dsimp only
  split
  · split
    · exact State.judgeOnce_tells.trans State.judgeOnce_tells
    · exact State.judgeOnce_tells.mono
  · exact .refl _ _ _

theorem State.judge_keepsWatches : s.watch.keeps (s.judge l before onReport).watch := by
  unfold State.judge
  dsimp only
  split
  · split
    · exact State.judgeOnce_keepsWatches.trans State.judgeOnce_keepsWatches
    · exact State.judgeOnce_keepsWatches
  · exact .refl _

theorem State.judge_others (settled : (s.loader l).state ≠ .transfer ∨ s.transferLaw) :
    s.otherLoaders l (s.judge l before onReport) := by
  intro n ne
  cases has : (s.loader l).hasAuthority with
  | false => rw [State.judge_calm has]
  | true =>
    rw [State.judge_eq has]
    have once := State.judgeOnce_others (before := before) (onReport := onReport) settled
    split
    · next again =>
      obtain ⟨transfer, asked, -⟩ := again
      obtain ⟨y, asked⟩ := Option.isSome_iff_exists.mp asked
      obtain ⟨e, -, stands⟩ := State.judgeOnce_asks (onReport := onReport) asked
      have out : ((s.judgeOnce l before onReport).loader l).state ≠ .transfer := by
        rw [stands]
        exact s.haltLoader_out y e (settled.resolve_left fun h => h transfer) transfer
      rw [State.judgeOnce_others (.inl out) n ne, once n ne]
    · exact once n ne

/-- The judgement of a recorded position. -/
theorem State.judge_judgement :
    s.judgement (s.judge l before onReport) l (s.recordCause l before) onReport where
  calm := State.judge_calm
  clear := State.judge_clear
  held _ asked holds := State.judge_held holds asked
  flight _ _ _ asked law holders flight := State.judge_inFlight onReport law holders flight asked
  others := State.judge_others
  frame := State.judge_frame
  tells := State.judge_tells.mono
  watches := State.judge_keepsWatches

end

/-! ## What a judgement leaves of the zones -/

theorem State.judgement.zone {a b : State} {l : LoaderId} {cause : Option Cause} {onReport : Bool}
    (j : a.judgement b l cause onReport) (before : Option ZoneId)
    (settled : (a.loader l).state ≠ .transfer ∨ (a.transferLaw ∧ a.holderLaw)) {z : ZoneId}
    (safe : (a.zone z).closing = none ∨
      (cause = none ∧ (a.loader l).hasAuthority = true ∧ (a.loader l).inZone z = true)) :
    (b.checkMoved l before).zone z =
      { a.zone z with
        entered := (a.zone z).entered || (cause.isNone && (a.loader l).hasAuthority &&
          (a.loader l).inZone z && onReport &&
          ((a.loader l).state == .supervised || (a.loader l).state == .orphaned))
        attention := (a.zone z).attention || (cause.isNone && (a.loader l).inZone z &&
          (a.loader l).hasAuthority &&
          ((a.zone z).cls == .autoFlagged || (a.zone z).cls == .openFlagged)) } := by
  cases has : (a.loader l).hasAuthority with
  | false =>
    have unclosed := safe.resolve_right fun h => by simp [has] at h
    rw [j.calm has, State.checkMoved_zone_safe l before (.inl unclosed)]
    simp
  | true =>
    cases named : cause with
    | none =>
      have frame := a.present_sameBut l onReport
      have zone := a.present_zone l onReport z
      have stays : ((a.present l onReport).zone z).closing = none ∨
          ∃ n, ((a.present l onReport).loader n).hasAuthority = true ∧
            ((a.present l onReport).loader n).inZone z = true := by
        rw [zone]
        exact safe.imp id fun ⟨_, authority, here⟩ => ⟨l, by rw [frame.loader]; exact ⟨authority, here⟩⟩
      rw [j.clear has named, State.checkMoved_zone_safe l before stays, zone]
      simp
    | some y =>
      have unclosed := safe.resolve_right fun h => by simp [named] at h
      have same : b.zone z = a.zone z := by
        by_cases transfer : (a.loader l).state = .transfer
        · obtain ⟨law, holders⟩ := settled.resolve_left fun h => h transfer
          obtain ⟨⟨k, context, x, used, is_l⟩, -⟩ := law.2 l transfer
          obtain ⟨-, -, frame⟩ := j.flight y k x named law holders ⟨transfer, context, used, is_l⟩
          exact frame.zone z
        · rw [j.held y named (Loader.held_of_authority has transfer)]
          exact (a.enterHalted_sameBut l y).zone z
      rw [State.checkMoved_zone_safe l before (.inl (by rw [same]; exact unclosed)), same]
      simp

/-- An attention flag that the judgement sets is told, while attention notices are on. -/
theorem State.judgement.attention {a b : State} {l : LoaderId} {cause : Option Cause}
    {onReport : Bool} (j : a.judgement b l cause onReport) (before : Option ZoneId)
    (settled : (a.loader l).state ≠ .transfer ∨ (a.transferLaw ∧ a.holderLaw)) {z : ZoneId}
    (safe : (a.zone z).closing = none ∨
      (cause = none ∧ (a.loader l).hasAuthority = true ∧ (a.loader l).inZone z = true))
    (unset : (a.zone z).attention = false)
    (set_ : ((b.checkMoved l before).zone z).attention = true) (on : a.params.attention ≠ 0)
    (room : a.supQueue.frames.length ≤ 20) :
    (b.checkMoved l before).queued .supervisor ⟨0, .notice (.zoneAttention z (a.zone z).cls l
      (a.loader l).holderChair a.seconds)⟩ := by
  rw [j.zone before settled safe, unset, Bool.false_or] at set_
  simp only [Bool.and_eq_true, Bool.or_eq_true, beq_iff_eq, Option.isNone_iff_eq_none] at set_
  obtain ⟨⟨⟨named, here⟩, has⟩, flagged⟩ := set_
  have marked := a.presentMarked_sameBut l onReport
  have zone := a.presentMarked_zone l onReport z
  have length : (a.queue .supervisor).frames.length ≤ 20 := room
  have grown := (a.present_tells l onReport).length (p := .supervisor)
    (by simp only [noticeCount]; omega)
  simp only [noticeCount] at grown
  rw [j.clear has named]
  refine (State.checkMoved_tells _ l before).queued (by simp only [noticeCount]; omega) ?_
  rw [a.present_eq]
  have told := State.recordPresence_queued (s := a.presentMarked l onReport) (l := l) (z := z)
    (by rw [marked.loader]; exact here) (by rw [zone]; exact flagged) (by rw [zone]; exact unset)
    (by rw [marked.params]; exact on) (by rw [marked.supQueue]; omega)
  rw [zone, marked.loader, marked.seconds] at told
  exact told

end Sys2Proof.Machine
end

section
/-! PROOF. FIX_POSITION and FREE_POSITION (01 R15, R16). -/

namespace Sys2Proof.Machine

-- One theorem after another, so that the compile stays within its memory.
set_option Elab.async false

variable (s : State)

/-! ## A judgement reads no queue -/

/-- The two states agree on what the judgement of a loader reads of them. -/
structure State.agrees (s t : State) (l : LoaderId) : Prop where
  loader : t.loader l = s.loader l
  handover : ∀ k, t.handover k = s.handover k
  zones : t.zones = s.zones
  barriers : t.barriers = s.barriers
  params : t.params = s.params
  seconds : t.seconds = s.seconds

section

variable {s t : State} {l : LoaderId}

theorem State.agrees.verdict (h : s.agrees t l) (before : Option ZoneId) :
    t.verdict l before = s.verdict l before := by
  have mode : t.judgedMode l = s.judgedMode l :=
    State.judgedMode_congr (by rw [h.loader]) (by rw [h.loader])
      (State.handoverOf_target_congr (by rw [h.loader]) fun k => by rw [h.handover])
  simp only [State.verdict, h.loader, State.zone, h.zones, h.barriers, mode]
  rfl

theorem State.agrees.enterHalted (h : s.agrees t l) (cause : Cause) :
    (s.enterHalted l cause).agrees (t.enterHalted l cause) l := by
  have frame := s.enterHalted_sameBut l cause
  have frame' := t.enterHalted_sameBut l cause
  have record : (s.loader l).haltedBy ((s.enterHalted l cause).loader l) cause s.seconds :=
    s.enterHalted_loader l cause
  have record' : (t.loader l).haltedBy ((t.enterHalted l cause).loader l) cause t.seconds :=
    t.enterHalted_loader l cause
  rw [Loader.haltedBy] at record record'
  refine ⟨?_, fun k => by rw [frame'.handover, frame.handover, h.handover],
    by rw [frame'.zones_eq, frame.zones_eq, h.zones], by rw [frame'.barriers, frame.barriers, h.barriers],
    by rw [frame'.params, frame.params, h.params], by rw [frame'.seconds, frame.seconds, h.seconds]⟩
  rw [record', record, h.loader, h.seconds]

theorem State.agrees.abort (h : s.agrees t l) (k : CtxId) (e : AbortEvent) :
    (s.abort k e).agrees (t.abort k e) l := by
  have frame := s.abort_sameBut k e
  have frame' := t.abort_sameBut k e
  refine ⟨?_, fun n => by rw [t.abort_handover_eq, s.abort_handover_eq, h.handover],
    by rw [frame'.zones_eq, frame.zones_eq, h.zones], by rw [frame'.barriers, frame.barriers, h.barriers],
    by rw [frame'.params, frame.params, h.params], by rw [frame'.seconds, frame.seconds, h.seconds]⟩
  by_cases own : ∃ x, s.handover k = some x ∧ x.loader = l
  · obtain ⟨x, used, rfl⟩ := own
    rw [State.abort_loader_own used, State.abort_loader_own (by rw [h.handover]; exact used)]
    exact State.abortRecord_congr e h.loader h.params h.seconds
  · have other : ∀ x ∈ s.handover k, x.loader ≠ l := fun x used is_l => own ⟨x, used, is_l⟩
    rw [State.abort_loader_other other, State.abort_loader_other (by rw [h.handover]; exact other),
      h.loader]

theorem State.agrees.haltLoader (h : s.agrees t l) (cause : Cause) (e : AbortEvent) :
    (s.haltLoader l cause e).agrees (t.haltLoader l cause e) l := by
  unfold State.haltLoader
  rw [h.loader]
  split
  · split
    · exact h.abort _ e
    · exact h
  · exact h.enterHalted cause
  · exact h.enterHalted cause
  · exact h.enterHalted cause
  · exact h

theorem State.agrees.judgeOnce_loader (h : s.agrees t l) (before : Option ZoneId) (onReport : Bool) :
    (t.judgeOnce l before onReport).loader l = (s.judgeOnce l before onReport).loader l := by
  unfold State.judgeOnce
  rw [h.verdict]
  split
  · rw [(t.present_sameBut l onReport).loader, (s.present_sameBut l onReport).loader, h.loader]
  · exact (h.haltLoader _ _).loader

/-- A judgement that asks for something leaves states that agree. -/
theorem State.agrees.judgeOnce (h : s.agrees t l) (before : Option ZoneId) (onReport : Bool)
    (asked : (s.verdict l before).asks.isSome = true) :
    (s.judgeOnce l before onReport).agrees (t.judgeOnce l before onReport) l := by
  unfold State.judgeOnce
  rw [h.verdict]
  split
  · next nothing => rw [nothing] at asked; cases asked
  · exact h.haltLoader _ _

theorem State.agrees.judge_loader (h : s.agrees t l) (before : Option ZoneId) (onReport : Bool) :
    (t.judge l before onReport).loader l = (s.judge l before onReport).loader l := by
  have once := h.judgeOnce_loader before onReport
  unfold State.judge
  simp only [h.loader, h.verdict, once]
  split
  · split
    · next again =>
      simp only [Bool.and_eq_true] at again
      exact (h.judgeOnce before onReport again.1.2).judgeOnce_loader before onReport
    · exact once
  · exact h.loader

end

/-! ## A loader is given a position -/

/-- A change of the record that leaves what the laws of TRANSFER and of the holder speak of. -/
structure Loader.relocates (r r' : Loader) : Prop where
  state : r'.state = r.state
  holder : r'.holder = r.holder
  prior : r'.prior = r.prior
  context : r'.context = r.context

/-- The loader's record is changed, and the lamps follow. -/
def State.relocated (s : State) (l : LoaderId) (f : Loader → Loader) : State :=
  (s.modLoader l f).updateLamps

section

variable {s} {l : LoaderId} {f : Loader → Loader}

theorem State.relocated_sameBut : s.sameBut [.loaders, .lamps] (s.relocated l f) :=
  ((s.modLoader_sameBut l f).mono (by simp)).trans ((State.updateLamps_sameBut _).mono (by simp))

theorem State.relocated_loader : (s.relocated l f).loader l = f (s.loader l) := by
  rw [State.relocated, State.updateLamps_loader, State.modLoader_loader_self]

theorem State.relocated_others : s.otherLoaders l (s.relocated l f) := fun n ne => by
  rw [State.relocated, State.updateLamps_loader, State.modLoader_loader_ne _ ne]

theorem State.relocated_fields (moves : (s.loader l).relocates (f (s.loader l))) (n : LoaderId) :
    (s.loader n).relocates ((s.relocated l f).loader n) := by
  by_cases same : n = l
  · subst same
    rw [State.relocated_loader]
    exact moves
  · rw [State.relocated_others n same]
    exact ⟨rfl, rfl, rfl, rfl⟩

theorem State.relocated_transferLaw (moves : (s.loader l).relocates (f (s.loader l)))
    (law : s.transferLaw) : (s.relocated l f).transferLaw := by
  have fields := State.relocated_fields moves
  unfold State.transferLaw at law ⊢
  simpa only [State.relocated_sameBut.handover, (fields _).state, (fields _).context,
    (fields _).prior] using law

theorem State.relocated_holderLaw (moves : (s.loader l).relocates (f (s.loader l)))
    (law : s.holderLaw) : (s.relocated l f).holderLaw := by
  have fields := State.relocated_fields moves
  unfold State.holderLaw at law ⊢
  simpa only [(fields _).state, (fields _).holder, (fields _).prior] using law

theorem State.relocated_inFlight (moves : (s.loader l).relocates (f (s.loader l))) {k : CtxId}
    {x : Handover} (flight : s.inFlight l k x) : (s.relocated l f).inFlight l k x := by
  obtain ⟨transfer, named, used, is_l⟩ := flight
  have fields := State.relocated_fields moves l
  exact ⟨by rw [fields.state]; exact transfer, by rw [fields.context]; exact named,
    by rw [State.relocated_sameBut.handover]; exact used, is_l⟩

theorem State.relocated_recordCause (moves : (s.loader l).relocates (f (s.loader l)))
    (before : Option ZoneId) : (s.relocated l f).recordCause l before =
      (f (s.loader l)).position.bind (s.groundCause (s.judgedMode l) before) := by
  have frame : s.sameBut [.loaders, .lamps] (s.relocated l f) := State.relocated_sameBut
  have fields := State.relocated_fields moves l
  have mode : (s.relocated l f).judgedMode l = s.judgedMode l :=
    State.judgedMode_congr fields.state fields.holder
      (State.handoverOf_target_congr fields.context fun k => by rw [frame.handover])
  have ground : (s.relocated l f).groundCause = s.groundCause := by
    funext m b q
    simp only [State.groundCause, State.zone, frame.zones_eq, frame.barriers]
  rw [State.recordCause, State.relocated_loader, mode, ground]

end

/-! ## FIX_POSITION -/

/-- The record of a loader whose position is fixed (01 R15). -/
def Loader.fixed (p : Position) (r : Loader) : Loader :=
  { r with source := .fixed, position := some p, age := 0 }

theorem Loader.fixed_relocates (p : Position) (r : Loader) : r.relocates (r.fixed p) :=
  ⟨rfl, rfl, rfl, rfl⟩

theorem State.fixLoader_eq (l : LoaderId) (p : Position) : s.fixLoader l p =
    (((s.relocated l (Loader.fixed p)).judge l (s.loader l).zone? false).checkMoved l
      (s.loader l).zone?) := rfl

/-- The reply's place in the queue changes nothing that the judgement leaves of the loader. -/
theorem State.fixLoader_loader_congr {s t : State} {ps : List Part} (l : LoaderId) (p : Position)
    (frame : s.sameBut ps t) (queues : ps ⊆ [.queues, .supQueue]) :
    (t.fixLoader l p).loader l = (s.fixLoader l p).loader l := by
  have same := frame.mono (qs := [.queues, .supQueue]) queues
  have before : (t.loader l).zone? = (s.loader l).zone? := by rw [same.loader]
  have moved : (s.relocated l (Loader.fixed p)).sameBut [.loaders, .lamps, .queues, .supQueue]
      (t.relocated l (Loader.fixed p)) := by
    intro part out
    have after := State.relocated_sameBut (s := t) (l := l) (f := Loader.fixed p) part
      (by simp at out ⊢; tauto)
    have begun := State.relocated_sameBut (s := s) (l := l) (f := Loader.fixed p) part
      (by simp at out ⊢; tauto)
    have between := same part (by simp at out ⊢; tauto)
    cases part <;> simp_all [Part.same]
  have agrees : (s.relocated l (Loader.fixed p)).agrees (t.relocated l (Loader.fixed p)) l :=
    ⟨by rw [State.relocated_loader, State.relocated_loader, same.loader], moved.handover,
      moved.zones_eq, moved.barriers, moved.params, moved.seconds⟩
  rw [t.fixLoader_eq, s.fixLoader_eq, (State.checkMoved_sameBut _ l _).loader,
    (State.checkMoved_sameBut _ l _).loader, before, agrees.judge_loader]

theorem State.takeFix_of {a : State} {h : Header} {loader zone front : Byte} {chainage : Word16}
    {l : LoaderId} {p : Position}
    (examine : a.examineFix h loader zone chainage front = .ok (l, p)) :
    a.takeFix h loader zone chainage front =
      (a.ok h .fixPosition (.fix l ((a.fixLoader l p).loader l).state)).fixLoader l p := by
  simp only [State.takeFix, State.examined, examine]

/-- FREE_POSITION writes the record of a loader whose source is Fixed, and no other (01 R16). -/
theorem State.takeFree_of {a : State} {h : Header} {loader : Byte} {l : LoaderId}
    (sender : h.sender = .supervisor) (examine : a.examineSup h loader = .ok l) :
    a.takeFree h loader = { a with
      loaders := if (a.loader l).source = .fixed then
          a.loaders.set l { a.loader l with source := .reported, age := 65535 }
        else a.loaders
      supQueue := a.supQueue.join ⟨h.tag, .reply .freePosition (.ok (.loader l))⟩ } := by
  have taken : a.takeFree h loader = (a.ok h .freePosition (.loader l)).modLoader l Loader.freed :=
    a.examined_ok examine
  rw [taken, a.ok_sup_eq sender]
  have loaders : a.loaders.set l (a.loader l).freed = if (a.loader l).source = .fixed then
      a.loaders.set l { a.loader l with source := .reported, age := 65535 } else a.loaders := by
    unfold Loader.freed
    split
    · rfl
    · exact Vector.set_getElem_self _
  rw [← loaders]
  rfl

/-- What holds of a judged handover holds of it in a state with the same order line and clock. -/
theorem State.judgedInFlight.congr {s s' t t' : State} {l : LoaderId} {k : CtxId} {x : Handover}
    {r : Loader} {y : Cause} (h : s.judgedInFlight t l k x r y)
    (ordered : s.ordered l .hold = s'.ordered l .hold) (seconds : s.seconds = s'.seconds)
    (handover : t'.handover k = t.handover k) (fleet : t'.fleet = t.fleet)
    (loader : t'.loader l = t.loader l) : s'.judgedInFlight t' l k x r y := by
  unfold State.judgedInFlight at h ⊢
  rw [handover, fleet, loader, ← ordered, ← seconds]
  exact h

/-- Settles O38. -/
theorem positionSourceRequests : Obligations.PositionSourceRequests := by
  unfold Obligations.PositionSourceRequests
  intro s a h loader zone front chainage l d p r cause sender ready heard is_l front_d enrolled p_eq
    r_eq cause_eq
  have examine : a.examineFix h loader zone chainage front = .ok (l, p) := by
    rw [a.examineFix_ok, p_eq]
    exact ⟨fromSup_of sender, is_l, enrolled, rfl, rfl, front_d⟩
  refine ⟨?_, ?_⟩
  · have next : exec (.fixPosition h loader zone chainage front) s =
        .next ((a.ok h .fixPosition (.fix l ((a.fixLoader l p).loader l).state)).fixLoader l p) := by
      have gate : exec (.fixPosition h loader zone chainage front) s =
          .next (a.takeFix h loader zone chainage front) := exec_of_ready rfl ready heard
      rw [gate, State.takeFix_of examine]
    have replied := a.ok_sameBut_supQueue sender .fixPosition
      (.fix l ((a.fixLoader l p).loader l).state)
    have reply := a.ok_queued (State.ready_heard ready heard) .fixPosition
      (.fix l ((a.fixLoader l p).loader l).state)
    rw [port_of_sup sender] at reply
    have record := State.fixLoader_loader_congr l p replied (by simp)
    have joined := a.ok_sup_eq sender .fixPosition (.fix l ((a.fixLoader l p).loader l).state)
    have length : a.supQueue.frames = [] →
        (a.ok h .fixPosition (.fix l ((a.fixLoader l p).loader l).state)).supQueue.frames.length ≤
          20 := fun empty => by
      have frames := OutQueue.join_of_room (q := a.supQueue) (f := ⟨h.tag, .reply .fixPosition
        (.ok (.fix l ((a.fixLoader l p).loader l).state))⟩) (OutQueue.newTo_of_not_report rfl)
        (by simp [empty])
      rw [joined]
      simp [frames, empty]
    clear joined
    generalize a.ok h .fixPosition (.fix l ((a.fixLoader l p).loader l).state) = b
      at next replied reply record length
    rw [← record, b.fixLoader_eq] at reply
    have moves := Loader.fixed_relocates p (b.loader l)
    have begun := State.relocated_sameBut (s := b) (l := l) (f := Loader.fixed p)
    have fixed : (b.relocated l (Loader.fixed p)).loader l = r := by
      rw [State.relocated_loader, replied.loader, r_eq]
      rfl
    have fields := State.relocated_fields moves l
    rw [replied.loader] at fields
    have before : (b.loader l).zone? = (a.loader l).position.map (·.zone) := by
      rw [replied.loader]
      rfl
    have asked : (b.relocated l (Loader.fixed p)).recordCause l (b.loader l).zone? = cause := by
      have mode : b.judgedMode l = a.judgedMode l :=
        State.judgedMode_congr (by rw [replied.loader]) (by rw [replied.loader])
          (State.handoverOf_target_congr (by rw [replied.loader]) fun k => by rw [replied.handover])
      have ground : b.groundCause = a.groundCause := by
        funext m z q
        simp only [State.groundCause, State.zone, replied.zones_eq, replied.barriers]
      rw [State.relocated_recordCause moves, mode, ground, before, cause_eq]
      rfl
    have judged := State.judge_judgement (s := b.relocated l (Loader.fixed p)) (l := l)
      (before := (b.loader l).zone?) (onReport := false)
    rw [asked] at judged
    rw [b.fixLoader_eq] at next
    have transferLaw : a.transferLaw → (b.relocated l (Loader.fixed p)).transferLaw := fun law =>
      State.relocated_transferLaw moves (replied.transferLaw law)
    have holderLaw : a.holderLaw → (b.relocated l (Loader.fixed p)).holderLaw := fun law =>
      State.relocated_holderLaw moves (by
        unfold State.holderLaw at law ⊢
        simpa only [replied.loader] using law)
    have inFlight : ∀ {k x}, a.inFlight l k x → (b.relocated l (Loader.fixed p)).inFlight l k x :=
      fun flight => State.relocated_inFlight moves (replied.inFlight flight)
    have others := State.relocated_others (s := b) (l := l) (f := Loader.fixed p)
    have frame : a.sameBut [.loaders, .lamps, .supQueue] (b.relocated l (Loader.fixed p)) :=
      (replied.mono (by simp)).trans (begun.mono (by simp))
    have other : ∀ n, n ≠ l → (b.relocated l (Loader.fixed p)).loader n = a.loader n := fun n ne => by
      rw [others n ne, replied.loader]
    have short : a.supQueue.frames = [] →
        (b.relocated l (Loader.fixed p)).supQueue.frames.length ≤ 20 := fun empty => by
      rw [begun.supQueue]
      exact length empty
    generalize b.relocated l (Loader.fixed p) = q
      at next judged reply fixed asked begun transferLaw holderLaw inFlight frame other fields short
    generalize (b.loader l).zone? = was at next judged reply asked
    have moved := (q.judge l was false).checkMoved_sameBut l was
    have has : r.hasAuthority = (a.loader l).hasAuthority := by
      rw [r_eq]
      rfl
    have holder : r.holder = (a.loader l).holder := by
      rw [r_eq]
    have settled : ((a.loader l).state ≠ .transfer ∨ (a.transferLaw ∧ a.holderLaw)) →
        (q.loader l).state ≠ .transfer ∨ (q.transferLaw ∧ q.holderLaw) := fun h => by
      rw [fields.state]
      exact h.imp id fun ⟨law, holders⟩ => ⟨transferLaw law, holderLaw holders⟩
    have place : ∀ {z : ZoneId}, ((a.zone z).closing = none ∨
        (cause = none ∧ (a.loader l).hasAuthority = true ∧ r.inZone z = true)) →
        ((q.zone z).closing = none ∨ (cause = none ∧ (q.loader l).hasAuthority = true ∧
          (q.loader l).inZone z = true)) := fun {z} h => by
      rw [frame.zone, fixed, has]
      exact h
    refine ⟨_, next, fun quiet => ?_, fun y named => ⟨fun held => ?_, fun k x law holders flight => ?_⟩,
      fun settles n ne => ?_, fun settles z safe => ⟨?_, fun unset set_ on empty => ?_⟩,
      ((judged.tells.trans (State.checkMoved_tells _ l was)).after begun).queued_reply rfl reply, ?_⟩
    · have still : (q.judge l was false).loader l = r ∧
          q.sameBut [.zones, .supQueue] (q.judge l was false) := by
        cases authority : (a.loader l).hasAuthority with
        | false =>
          rw [judged.calm (by rw [fixed, has]; exact authority)]
          exact ⟨fixed, .refl _ q⟩
        | true =>
          have nothing := quiet.resolve_left (by simp [authority])
          rw [judged.clear (by rw [fixed, has]; exact authority) nothing]
          exact ⟨by rw [(q.present_sameBut l false).loader, fixed], q.present_sameBut l false⟩
      exact ⟨by rw [moved.loader, still.1], (frame.mono (by simp)).trans
        ((still.2.mono (by simp)).trans (moved.mono (by simp)))⟩
    · have stands := judged.held y named (by rw [fields.state]; exact held)
      have halted := q.enterHalted_loader l y
      have entered := q.enterHalted_sameBut l y
      rw [fixed, frame.seconds] at halted
      refine ⟨?_, ?_, fun x holds => ?_, ?_⟩
      · rw [moved.loader, stands]
        exact halted
      · rw [moved.fleet, stands, State.enterHalted_fleet, frame.ordered]
      · rw [moved.slot, stands]
        exact q.enterHalted_emptied (by rw [fixed]; exact holds)
      · have third := moved .handovers (by decide)
        have first := entered .handovers (by decide)
        rw [stands] at third ⊢
        exact third.trans (first.trans (frame .handovers (by decide)))
    · obtain ⟨ended, otherHandovers, -⟩ :=
        judged.flight y k x named (transferLaw law) (holderLaw holders) (inFlight flight)
      rw [fixed] at ended
      refine ⟨ended.congr (frame.ordered _ _) frame.seconds (moved.handover k) moved.fleet
        (moved.loader l), fun n ne => ?_⟩
      rw [moved.handover, otherHandovers n ne, frame.handover]
    · rw [moved.loader, judged.others (by
        rw [fields.state]
        exact settles.imp id transferLaw) n ne, other n ne]
    · rw [judged.zone was (settled settles) (place safe), fixed, frame.zone, has]
      simp
    · have told := judged.attention was (settled settles) (place safe)
        (by rw [frame.zone]; exact unset) set_ (by rw [frame.params]; exact on) (short empty)
      rw [frame.zone, fixed, frame.seconds, Loader.holderChair, holder] at told
      exact told
    · exact (frame.mono (by simp)).trans ((judged.frame.mono (by simp [eventParts])).trans
        (moved.mono (by simp)))
  · have gate : exec (.freePosition h loader) s = .next (a.takeFree h loader) :=
      exec_of_ready rfl ready heard
    rw [gate, State.takeFree_of sender
      (a.examineSup_ok.mpr ⟨fromSup_of sender, is_l, enrolled⟩)]

end Sys2Proof.Machine
end

section
/-! PROOF. The later steps of a report's intake: local control, the Handover Engine, the fan-out
(01 R11, R13; 07 R139, R140). -/

namespace Sys2Proof.Machine

-- One theorem after another, so that the compile stays within its memory.
set_option Elab.async false

variable (s : State)

/-! ## Local control -/

section

variable {s} {l : LoaderId}

theorem State.haltLoader_settled (cause : Cause) (e : AbortEvent)
    (settled : (s.loader l).state ≠ .transfer ∨ s.transferLaw) :
    ((s.haltLoader l cause e).loader l).state ≠ .transfer := by
  by_cases transfer : (s.loader l).state = .transfer
  · exact s.haltLoader_out cause e (settled.resolve_left fun h => h transfer) transfer
  · cases has : (s.loader l).hasAuthority with
    | false => rwa [s.haltLoader_of_calm has]
    | true =>
      have halted : (s.loader l).haltedBy ((s.enterHalted l cause).loader l) cause s.seconds :=
        s.enterHalted_loader l cause
      rw [s.haltLoader_of_held (Loader.held_of_authority has transfer), halted.out.1]
      decide

/-- Local control and then the ground judge a report: the first of them that gives a cause is acted
on. -/
theorem State.judgeLocal_judgement (x : Report) (before : Option ZoneId) :
    s.judgement ((s.judgeLocal l x).judge l before true) l
      (if x.onboard = .atMachine then some .atMachine else s.recordCause l before) true := by
  by_cases atMachine : x.onboard = .atMachine
  · have halts : s.judgeLocal l x = s.haltLoader l .atMachine .atMachine := if_pos atMachine
    rw [halts, if_pos atMachine]
    refine ⟨fun calm => ?_, fun _ none => absurd none (by simp), fun y named held => ?_,
      fun y k h named _ _ flight => ?_, fun settled n ne => ?_, ?_, ?_, ?_⟩
    · rw [s.haltLoader_of_calm calm, State.judge_calm calm]
    · cases named
      have halted : (s.loader l).haltedBy ((s.enterHalted l .atMachine).loader l) .atMachine
          s.seconds := s.enterHalted_loader l .atMachine
      rw [s.haltLoader_of_held held, State.judge_calm halted.out.noAuthority]
    · cases named
      have judges := AbortEvent.atMachine_judges
      have halted := State.abort_flightHalted flight (e := .atMachine) (cause := .atMachine)
        (judges.halts (by decide) _ _)
      rw [State.haltLoader_of_flight flight, State.judge_calm halted.record.out.noAuthority]
      refine ⟨⟨halted.handover, halted.fleet, ?_⟩, halted.otherHandovers, s.abort_sameBut k _⟩
      rw [if_neg (fun h => absurd h.1 (by decide))]
      exact halted.record
    · rw [State.judge_others (.inl (State.haltLoader_settled _ _ settled)) n ne,
        s.haltLoader_others _ _ settled n ne]
    · exact ((s.haltLoader_sameBut l _ _).mono (by simp [haltParts])).trans State.judge_frame
    · exact (s.haltLoader_tells l _ _).trans State.judge_tells
    · exact (s.haltLoader_keepsWatches l _ _).trans State.judge_keepsWatches
  · have unhalted : s.judgeLocal l x = s := if_neg atMachine
    rw [unhalted, if_neg atMachine]
    exact State.judge_judgement

end

/-- A handover that a judgement has ended leaves its loader out of TRANSFER. -/
theorem State.judgedInFlight.settled {s t : State} {l : LoaderId} {k : CtxId} {x : Handover}
    {r : Loader} {y : Cause} (h : s.judgedInFlight t l k x r y) :
    (t.loader l).state ≠ .transfer := by
  obtain ⟨-, -, record⟩ := h
  split at record
  · next back =>
    have prior := back.2
    simp only [List.mem_cons, List.not_mem_nil, or_false] at prior
    rw [Loader.backFrom] at record
    rw [record]
    rcases prior with e | e <;> simp [e]
  · rw [record.out.1]
    decide

/-! ## The Handover Engine takes the stationary value (01 R13) -/

section

variable {s} {l : LoaderId} {k : CtxId} {x : Handover}

theorem State.settleReport_out (stationary : Bool) (out : (s.loader l).state ≠ .transfer) :
    s.settleReport l stationary = s := by
  unfold State.settleReport
  split
  · next transfer _ => exact absurd transfer out
  · rfl

theorem State.settleReport_settled (flight : s.inFlight l k x) (phase : x.phase = .settling)
    (running : x.suspended = false) : s.settleReport l true = s.enterConfirming k := by
  obtain ⟨transfer, named, used, -⟩ := flight
  simp [State.settleReport, transfer, named, used, phase, running]

theorem State.settleReport_moves (flight : s.inFlight l k x) (phase : x.phase = .confirming)
    (target : x.target = .manual) : s.settleReport l false = s.returnToSettling k := by
  obtain ⟨transfer, named, used, -⟩ := flight
  simp [State.settleReport, transfer, named, used, phase, target]

theorem State.settleReport_stays {stationary : Bool} (flight : s.inFlight l k x)
    (still : ¬ (x.phase = .settling ∧ x.suspended = false ∧ stationary = true))
    (moving : ¬ (x.phase = .confirming ∧ x.target = .manual ∧ stationary = false)) :
    s.settleReport l stationary = s := by
  obtain ⟨transfer, named, used, -⟩ := flight
  simp only [State.settleReport, transfer, named, used, if_neg still, if_neg moving]

end

theorem State.settleReport_sameBut (l : LoaderId) (stationary : Bool) :
    s.sameBut phaseParts (s.settleReport l stationary) := by
  unfold State.settleReport
  split
  · split
    · split
      · exact s.enterConfirming_sameBut _
      · split
        · exact s.returnToSettling_sameBut _
        · exact .refl _ s
    · exact .refl _ s
  · exact .refl _ s

theorem State.settleReport_tells (l : LoaderId) (stationary : Bool) :
    s.tells 2 0 (s.settleReport l stationary) := by
  unfold State.settleReport
  split
  · split
    · split
      · exact s.enterConfirming_tells _
      · split
        · exact s.returnToSettling_tells _
        · exact .refl _ _ _
    · exact .refl _ _ _
  · exact .refl _ _ _

/-- The lapse timer of a loader held in manual mode starts afresh (04 R77). -/
def State.lapseRestarted (s : State) (l : LoaderId) : State :=
  if (s.loader l).heldMode = some .manual then s.startLapse l else s

theorem State.lapseRestarted_sameBut (l : LoaderId) : s.sameBut [.loaders] (s.lapseRestarted l) := by
  unfold State.lapseRestarted
  split
  · exact s.startLapse_sameBut l
  · exact .refl _ s

theorem State.lapseRestarted_loader (l : LoaderId) : (s.lapseRestarted l).loader l =
    { s.loader l with
      lapse := if (s.loader l).heldMode = some .manual then false else (s.loader l).lapse
      lapseTimer := if (s.loader l).heldMode = some .manual then some ⟨s.params.driveLapse, 0⟩
        else (s.loader l).lapseTimer } := by
  unfold State.lapseRestarted
  split
  · rw [s.startLapse_loader]
  · rfl

theorem State.lapseRestarted_others (l : LoaderId) : s.otherLoaders l (s.lapseRestarted l) := by
  intro n ne
  unfold State.lapseRestarted
  split
  · exact s.startLapse_loader_ne ne
  · rfl

theorem State.returnToSettling_eq {s : State} {k : CtxId} {x : Handover}
    (used : s.handover k = some x) :
    s.returnToSettling k = (s.lapseRestarted x.loader).enterSettling k := by
  rw [State.returnToSettling, used]
  rfl

/-- An entry to SETTLING, of a suspended handover too, leaves the other loaders and handovers. -/
theorem State.enterSettling_apart {s : State} {k : CtxId} {x : Handover}
    (used : s.handover k = some x) :
    s.otherLoaders x.loader (s.enterSettling k) ∧ s.otherHandovers k (s.enterSettling k) := by
  have entering : ∃ n, s.enterSettling k = ((s.setHandover k (some { x with
      phase := .settling, timer := Timer.start s.params.settleMs })).emitHold
        x.loader).tellParties x n := by
    rw [State.enterSettling, used]
    exact ⟨_, rfl⟩
  obtain ⟨n, entering⟩ := entering
  rw [entering]
  have told := State.tellParties_sameBut_queues ((s.setHandover k (some { x with
      phase := .settling, timer := Timer.start s.params.settleMs })).emitHold x.loader) x n
  refine ⟨fun i ne => ?_, fun i ne => ?_⟩
  · rw [told.loader, State.emitHold_loader_ne _ ne]
    rfl
  · rw [told.handover, (State.emitHold_sameBut _ _).handover, s.setHandover_handover_ne ne]

section

variable {s} {l : LoaderId} {k : CtxId} {x : Handover}

theorem State.returnToSettling_apart (flight : s.inFlight l k x) :
    s.otherLoaders l (s.returnToSettling k) ∧ s.otherHandovers k (s.returnToSettling k) := by
  obtain ⟨-, -, used, rfl⟩ := flight
  have restarted := s.lapseRestarted_sameBut x.loader
  obtain ⟨loaders, handovers⟩ := State.enterSettling_apart (s := s.lapseRestarted x.loader)
    (by rw [restarted.handover]; exact used)
  rw [State.returnToSettling_eq used]
  exact ⟨fun n ne => (loaders n ne).trans (s.lapseRestarted_others _ n ne),
    fun n ne => (handovers n ne).trans (restarted.handover n)⟩

theorem State.settleReport_apart (stationary : Bool) (flight : s.inFlight l k x) :
    s.otherLoaders l (s.settleReport l stationary) ∧
      s.otherHandovers k (s.settleReport l stationary) := by
  by_cases still : x.phase = .settling ∧ x.suspended = false ∧ stationary = true
  · obtain ⟨phase, running, rfl⟩ := still
    have entered := State.enterConfirming_entered flight running
    rw [State.settleReport_settled flight phase running]
    exact ⟨entered.otherLoaders, entered.otherHandovers⟩
  · by_cases moving : x.phase = .confirming ∧ x.target = .manual ∧ stationary = false
    · obtain ⟨phase, target, rfl⟩ := moving
      rw [State.settleReport_moves flight phase target]
      exact State.returnToSettling_apart flight
    · rw [State.settleReport_stays flight still moving]
      exact ⟨fun _ _ => rfl, fun _ _ => rfl⟩

/-- A moving report sends a CONFIRMING back to SETTLING under a fresh HOLD (04 R77). -/
theorem State.returnToSettling_flight (flight : s.inFlight l k x) (running : x.suspended = false) :
    (s.returnToSettling k).handover k = some
        { x with phase := .settling, timer := ⟨1000 * s.params.settle, 0⟩ } ∧
      (s.returnToSettling k).loader l =
        { s.loader l with
          lapse := if (s.loader l).heldMode = some .manual then false else (s.loader l).lapse
          lapseTimer := if (s.loader l).heldMode = some .manual then some ⟨s.params.driveLapse, 0⟩
            else (s.loader l).lapseTimer
          holdRefresh := some ⟨500, 0⟩ } ∧
      (s.returnToSettling k).fleet = s.ordered l .hold := by
  obtain ⟨transfer, named, used, rfl⟩ := flight
  have restarted := s.lapseRestarted_sameBut x.loader
  have record := s.lapseRestarted_loader x.loader
  have flight : (s.lapseRestarted x.loader).inFlight x.loader k x :=
    ⟨by rw [record]; exact transfer, by rw [record]; exact named,
      by rw [restarted.handover]; exact used, rfl⟩
  have entered := State.enterSettling_entered flight running
  rw [State.returnToSettling_eq used]
  refine ⟨?_, ?_, ?_⟩
  · rw [entered.handover, restarted.params]
    rfl
  · rw [entered.loader, record]
    simp
  · rw [entered.fleet, restarted.ordered]

end

/-! ## Fan-out -/

section

variable {s} {x : Report} {c : ChairId}

theorem State.toChair_sameBut_queues (c : ChairId) (b : FrameBody) :
    s.sameBut [.queues] (s.toChair c b) := by
  unfold State.toChair
  split
  · intro p out
    cases p <;> simp_all [Part.same, State.modQueue]
  · exact .refl _ s

theorem State.fanOutTo_sameBut (x : Report) (c : ChairId) :
    s.sameBut [.watch, .queues] (s.fanOutTo x c) := by
  unfold State.fanOutTo
  split
  · exact ((s.setWatch_sameBut _).mono (by simp)).trans
      ((State.toChair_sameBut_queues _ _).mono (by simp))
  · exact .refl _ s

theorem State.toChair_queue_ne {n : ChairId} (ne : n ≠ c) (b : FrameBody) :
    (s.toChair c b).queue (.chair n) = s.queue (.chair n) := by
  unfold State.toChair
  split
  · exact State.modQueue_queue_ne _ (by simpa using ne) _
  · rfl

theorem State.fanOutTo_queue_ne {n : ChairId} (ne : n ≠ c) :
    (s.fanOutTo x c).queue (.chair n) = s.queue (.chair n) := by
  unfold State.fanOutTo
  split
  · exact State.toChair_queue_ne ne _
  · rfl

theorem State.fanOutTo_keepsWatches : s.watch.keeps (s.fanOutTo x c).watch := by
  unfold State.fanOutTo
  split
  · rw [(State.toChair_sameBut_queues _ _).watch]
    exact s.watch.touch_keeps c x.loader
  · exact .refl _

/-- A watching chair whose link is UP and whose queue has room and no report of the loader is
given the report. -/
theorem State.fanOutTo_queued (up : s.isUp c = true) (watched : s.watch.watches c x.loader = true)
    (fresh : (s.queue (.chair c)).newTo ⟨0, .report x⟩)
    (room : (s.queue (.chair c)).frames.length < 32) :
    (s.fanOutTo x c).queued (.chair c) ⟨0, .report x⟩ := by
  have joins : s.fanOutTo x c = State.modQueue { s with watch := s.watch.touch c x.loader }
      (.chair c) (·.join ⟨0, .report x⟩) := by
    have stays : State.isUp { s with watch := s.watch.touch c x.loader } c = true := up
    rw [State.fanOutTo, up, watched, Bool.and_self, if_pos rfl, State.toChair, if_pos stays]
  rw [joins, State.queued, State.modQueue_queue_self]
  exact OutQueue.mem_join_of_room fresh room

/-- The fan-out to chairs other than one leaves its queue and what it watches. -/
structure State.passesBy (s t : State) (c : ChairId) : Prop where
  queue : t.queue (.chair c) = s.queue (.chair c)
  up : t.isUp c = s.isUp c
  watches : s.watch.keeps t.watch

theorem State.passesBy.trans {t u : State} (h : s.passesBy t c) (h' : t.passesBy u c) :
    s.passesBy u c :=
  ⟨h'.queue.trans h.queue, h'.up.trans h.up, h.watches.trans h'.watches⟩

theorem State.fanOutTo_passesBy {n : ChairId} (ne : c ≠ n) : s.passesBy (s.fanOutTo x n) c where
  queue := State.fanOutTo_queue_ne ne
  up := by
    unfold State.isUp
    rw [(s.fanOutTo_sameBut x n).link]
  watches := State.fanOutTo_keepsWatches

theorem State.fanOutTo_foldl_passesBy (cs : List ChairId) (out : c ∉ cs) (s : State) :
    s.passesBy (cs.foldl (fun s c => s.fanOutTo x c) s) c := by
  induction cs generalizing s with
  | nil => exact ⟨rfl, rfl, .refl _⟩
  | cons n cs ih =>
    obtain ⟨ne, out⟩ := not_or.mp (mt List.mem_cons.mpr out)
    exact (State.fanOutTo_passesBy ne).trans (ih out _)

/-- The fan-out to the chairs (07 R139). -/
def State.fanOutChairs (s : State) (x : Report) : State :=
  (List.finRange 12).foldl (fun s c => s.fanOutTo x c) s

theorem State.fanOut_eq (s : State) (x : Report) : s.fanOut x =
    if (s.fanOutChairs x).watchAll = true then
      (s.fanOutChairs x).modQueue .supervisor (·.join ⟨0, .report x⟩)
    else s.fanOutChairs x := rfl

theorem State.fanOutChairs_sameBut (s : State) (x : Report) :
    s.sameBut [.watch, .queues] (s.fanOutChairs x) :=
  .foldl (fun s c => s.fanOutTo_sameBut x c) _ s

theorem State.fanOutChairs_queued (up : s.isUp c = true)
    (watched : s.watch.watches c x.loader = true)
    (fresh : (s.queue (.chair c)).newTo ⟨0, .report x⟩)
    (room : (s.queue (.chair c)).frames.length < 32) :
    (s.fanOutChairs x).queued (.chair c) ⟨0, .report x⟩ := by
  obtain ⟨before, after, chairs⟩ := List.append_of_mem (List.mem_finRange c)
  have nodup := List.nodup_finRange 12
  rw [chairs, List.nodup_append] at nodup
  obtain ⟨-, own, apart⟩ := nodup
  have first := State.fanOutTo_foldl_passesBy (x := x) (c := c) before
    (fun listed => apart c listed c (by simp) rfl) s
  have last := State.fanOutTo_foldl_passesBy (x := x) (c := c) after (List.nodup_cons.mp own).1
  rw [State.fanOutChairs, chairs, List.foldl_append, List.foldl_cons, State.queued, (last _).queue]
  exact State.fanOutTo_queued (first.up.trans up) (first.watches _ _ watched)
    (by rw [first.queue]; exact fresh) (by rw [first.queue]; exact room)

theorem State.fanOut_queued (up : s.isUp c = true) (watched : s.watch.watches c x.loader = true)
    (fresh : (s.queue (.chair c)).newTo ⟨0, .report x⟩)
    (room : (s.queue (.chair c)).frames.length < 32) :
    (s.fanOut x).queued (.chair c) ⟨0, .report x⟩ := by
  have chairs := State.fanOutChairs_queued up watched fresh room
  rw [State.fanOut_eq]
  split
  · rw [State.queued, State.modQueue_queue_ne _ (by simp)]
    exact chairs
  · exact chairs

theorem State.fanOut_sameBut (s : State) (x : Report) :
    s.sameBut [.watch, .queues, .supQueue] (s.fanOut x) := by
  rw [State.fanOut_eq]
  split
  · exact ((s.fanOutChairs_sameBut x).mono (by simp)).trans
      ((State.modQueue_sameBut _ _ _).mono (by simp))
  · exact (s.fanOutChairs_sameBut x).mono (by simp)

/-- A report that joins a queue with room takes no notice's place. -/
theorem OutQueue.notice_mem_join {q : OutQueue} {f : Frame} (x : Report) (notice : f.isNotice = true)
    (mem : f ∈ q.frames) (room : q.frames.length < 32) :
    f ∈ (q.join ⟨0, .report x⟩).frames := by
  have other : f.reportOf ≠ some x.loader := by
    unfold Frame.isNotice at notice
    unfold Frame.reportOf
    split at notice
    · next e => simp [e]
    · cases notice
  by_cases queued : ∃ g ∈ q.frames, g.reportOf = some x.loader
  · rw [q.join_of_queuedReport rfl queued]
    exact List.mem_map.mpr ⟨f, mem, if_neg other⟩
  · rw [q.join_of_noQueuedReport rfl (fun g hg e => queued ⟨g, hg, e⟩) room]
    exact List.mem_append_left _ mem

theorem State.fanOut_notice {f : Frame} (notice : f.isNotice = true) (stands : s.queued .supervisor f)
    (room : s.supQueue.frames.length < 32) : (s.fanOut x).queued .supervisor f := by
  have frame := s.fanOutChairs_sameBut x
  have stands' : (s.fanOutChairs x).queued .supervisor f := by
    rw [State.queued, State.queue, frame.supQueue]
    exact stands
  rw [State.fanOut_eq]
  split
  · rw [State.queued, State.modQueue_queue_self]
    exact OutQueue.notice_mem_join x notice stands' (by
      rw [State.queue, frame.supQueue]
      exact room)
  · exact stands'

end

end Sys2Proof.Machine
end

section
/-! PROOF. An accepted report (01 R8 to R13). -/

namespace Sys2Proof.Machine

-- One theorem after another, so that the compile stays within its memory.
set_option Elab.async false

variable (s : State)

theorem Loader.reported_relocates (r : Loader) (x : Report) (ps : Params) :
    r.relocates (r.reported x ps) := ⟨rfl, rfl, rfl, rfl⟩

/-- The steps of the intake after the judgement: the completion checks, the Handover Engine and the
fan-out. -/
def State.reportTaken (b : State) (l : LoaderId) (before : Option ZoneId) (x : Report) : State :=
  ((b.checkMoved l before).settleReport l x.stationary).fanOut x

theorem State.intake_eq (l : LoaderId) (x : Report) : s.intake l x =
    (((s.relocated l (·.reported x s.params)).judgeLocal l x).judge l
      (s.loader l).zone? true).reportTaken l (s.loader l).zone? x := rfl

/-- `a` is the state with the report in the record, `b` what the judgement of it left. -/
structure State.reportJudged (s a b : State) (l : LoaderId) (r : Loader) (cause : Option Cause) :
    Prop where
  record : a.loader l = r
  moves : (s.loader l).relocates r
  frame : s.sameBut [.loaders, .lamps] a
  others : s.otherLoaders l a
  transferLaw : s.transferLaw → a.transferLaw
  holderLaw : s.holderLaw → a.holderLaw
  inFlight : ∀ {k x}, s.inFlight l k x → a.inFlight l k x
  judged : a.judgement b l cause true

section

variable {s} {a b : State} {l : LoaderId} {r : Loader} {cause : Option Cause} {x : Report}
  {before : Option ZoneId}

theorem State.reportTaken_sameBut :
    b.sameBut [.loaders, .handovers, .fleet, .zones, .closures, .watch, .queues, .supQueue]
      (b.reportTaken l before x) :=
  ((b.checkMoved_sameBut l before).mono (by simp)).trans
    (((State.settleReport_sameBut _ l x.stationary).mono (by simp)).trans
      ((State.fanOut_sameBut _ x).mono (by simp)))

/-- The Handover Engine takes nothing of a loader that is not in TRANSFER (01 R13). -/
theorem State.reportTaken_out (out : (b.loader l).state ≠ .transfer) :
    b.sameBut [.zones, .closures, .watch, .queues, .supQueue] (b.reportTaken l before x) := by
  have moved := b.checkMoved_sameBut l before
  rw [State.reportTaken, State.settleReport_out _ (by rw [moved.loader]; exact out)]
  exact (moved.mono (by simp)).trans ((State.fanOut_sameBut _ x).mono (by simp))

theorem State.reportTaken_zone (z : ZoneId) :
    (b.reportTaken l before x).zone z = (b.checkMoved l before).zone z := by
  rw [State.reportTaken, (State.fanOut_sameBut _ x).zone, (State.settleReport_sameBut _ l _).zone]

namespace State.reportJudged

variable (j : s.reportJudged a b l r cause)
include j

theorem hasAuthority : (a.loader l).hasAuthority = (s.loader l).hasAuthority := by
  rw [j.record, Loader.hasAuthority, Loader.hasAuthority, j.moves.state]

theorem state : (a.loader l).state = (s.loader l).state := by
  rw [j.record, j.moves.state]

theorem calm (idle : (s.loader l).hasAuthority = false) :
    (b.reportTaken l before x).loader l = r := by
  have stands := j.judged.calm (by rw [j.hasAuthority]; exact idle)
  have out : (b.loader l).state ≠ .transfer := fun transfer => by
    rw [stands, j.state] at transfer
    rw [Loader.hasAuthority, transfer] at idle
    cases idle
  rw [(State.reportTaken_out out).loader, stands, j.record]

/-- A cause halts a loader that is DRIVEN, SUPERVISED or ORPHANED. -/
theorem halted {y : Cause} (named : cause = some y)
    (held : (s.loader l).state ∈ [LoaderState.driven, .supervised, .orphaned]) :
    r.haltedBy ((b.reportTaken l before x).loader l) y s.seconds ∧
      (b.reportTaken l before x).fleet = s.ordered l .hold := by
  have stands := j.judged.held y named (by rw [j.state]; exact held)
  have record := a.enterHalted_loader l y
  rw [j.record, j.frame.seconds] at record
  have out : (b.loader l).state ≠ .transfer := by
    rw [stands, Loader.haltedBy.out record |>.1]
    decide
  have kept := State.reportTaken_out (before := before) (x := x) out
  refine ⟨?_, ?_⟩
  · rw [kept.loader, stands]
    exact record
  · rw [kept.fleet, stands, State.enterHalted_fleet, j.frame.ordered]

theorem clear (none : cause = none)
    (held : (s.loader l).state ∈ [LoaderState.driven, .supervised, .orphaned]) :
    (b.reportTaken l before x).loader l = r ∧ (b.reportTaken l before x).fleet = s.fleet := by
  have authority : (a.loader l).hasAuthority = true := by
    rw [Loader.hasAuthority, j.state]
    simp only [List.mem_cons, List.not_mem_nil, or_false] at held
    rcases held with e | e | e <;> rw [e] <;> rfl
  have stands := j.judged.clear authority none
  have presence := a.present_sameBut l true
  have out : (b.loader l).state ≠ .transfer := fun transfer => by
    rw [stands, presence.loader, j.state] at transfer
    rw [transfer] at held
    exact absurd held (by decide)
  have kept := State.reportTaken_out (before := before) (x := x) out
  exact ⟨by rw [kept.loader, stands, presence.loader, j.record],
    by rw [kept.fleet, stands, presence.fleet, j.frame.fleet]⟩

/-- Outside TRANSFER a report leaves every other loader and every handover. -/
theorem outside (out : (s.loader l).state ≠ .transfer) :
    s.otherLoaders l (b.reportTaken l before x) ∧
      s.sameBut [.loaders, .chairs, .lamps, .watch, .queues, .supQueue, .fleet, .zones, .closures]
        (b.reportTaken l before x) := by
  have settled : (a.loader l).state ≠ .transfer := by rwa [j.state]
  have judged : (b.loader l).state ≠ .transfer ∧ a.sameBut [.loaders, .chairs, .lamps, .watch,
      .queues, .supQueue, .fleet, .zones, .closures] b := by
    cases has : (a.loader l).hasAuthority with
    | false =>
      rw [j.judged.calm has]
      exact ⟨settled, .refl _ a⟩
    | true =>
      cases named : cause with
      | none =>
        have presence := a.present_sameBut l true
        rw [j.judged.clear has named, presence.loader]
        exact ⟨settled, presence.mono (by simp)⟩
      | some y =>
        have record : (a.loader l).haltedBy ((a.enterHalted l y).loader l) y a.seconds :=
          a.enterHalted_loader l y
        rw [j.judged.held y named (Loader.held_of_authority has settled), record.out.1]
        exact ⟨by decide, (a.enterHalted_sameBut l y).mono (by simp)⟩
  have kept := State.reportTaken_out (before := before) (x := x) judged.1
  refine ⟨fun n ne => ?_, (j.frame.mono (by simp)).trans (judged.2.trans (kept.mono (by simp)))⟩
  rw [kept.loader, j.judged.others (.inl settled) n ne, j.others n ne]

variable {k : CtxId} {h : Handover}

/-- A cause ends the handover of a loader in TRANSFER. -/
theorem ended {y : Cause} (named : cause = some y) (law : s.transferLaw) (holders : s.holderLaw)
    (flight : s.inFlight l k h) :
    s.judgedInFlight (b.reportTaken l before x) l k h r y ∧
      s.otherHandovers k (b.reportTaken l before x) := by
  obtain ⟨ended, others, -⟩ :=
    j.judged.flight y k h named (j.transferLaw law) (j.holderLaw holders) (j.inFlight flight)
  have kept := State.reportTaken_out (before := before) (x := x) ended.settled
  rw [j.record] at ended
  refine ⟨ended.congr (j.frame.ordered _ _) j.frame.seconds (kept.handover k) kept.fleet
    (kept.loader l), fun n ne => ?_⟩
  rw [kept.handover, others n ne, j.frame.handover]

/-- With no cause the Handover Engine takes the handover as it was before the report. -/
theorem engine (none : cause = none) (flight : s.inFlight l k h) :
    s.sameBut [.loaders, .lamps, .zones, .closures, .supQueue] (b.checkMoved l before) ∧
      (b.checkMoved l before).loader l = r ∧ (b.checkMoved l before).inFlight l k h ∧
      s.otherLoaders l (b.checkMoved l before) := by
  have authority : (a.loader l).hasAuthority = true := by
    rw [Loader.hasAuthority, j.state, flight.1]
    rfl
  have presence := a.present_sameBut l true
  have moved := b.checkMoved_sameBut l before
  have judged : a.sameBut [.zones, .closures, .supQueue] (b.checkMoved l before) := by
    rw [j.judged.clear authority none] at moved ⊢
    exact (presence.mono (by simp)).trans moved
  exact ⟨(j.frame.mono (by simp)).trans (judged.mono (by simp)), by rw [judged.loader, j.record],
    judged.inFlight (j.inFlight flight), fun n ne => by rw [judged.loader, j.others n ne]⟩

theorem settles (none : cause = none) (flight : s.inFlight l k h) (phase : h.phase = .settling)
    (running : h.suspended = false) (stationary : x.stationary = true) :
    (b.reportTaken l before x).handover k = some
        { h with phase := .confirming, timer := ⟨1000 * s.params.confirm, 0⟩ } ∧
      (b.reportTaken l before x).loader l =
        { r with
          lapse := if r.heldMode = some .manual then false else r.lapse
          lapseTimer := if r.heldMode = some .manual then Option.none else r.lapseTimer
          holdRefresh := some ⟨500, 0⟩ } ∧
      (b.reportTaken l before x).fleet = s.ordered l .hold := by
  obtain ⟨frame, record, flying, -⟩ := j.engine (before := before) none flight
  have entered := State.enterConfirming_entered flying running
  have fanned := State.fanOut_sameBut ((b.checkMoved l before).enterConfirming k) x
  rw [State.reportTaken, stationary, State.settleReport_settled flying phase running]
  refine ⟨?_, ?_, ?_⟩
  · rw [fanned.handover, entered.handover, frame.params]
    rfl
  · rw [fanned.loader, entered.loader, record]
    simp only [true_and]
  · rw [fanned.fleet, entered.fleet, frame.ordered]

theorem returns (none : cause = none) (flight : s.inFlight l k h) (phase : h.phase = .confirming)
    (running : h.suspended = false) (target : h.target = .manual)
    (moving : x.stationary = false) :
    (b.reportTaken l before x).handover k = some
        { h with phase := .settling, timer := ⟨1000 * s.params.settle, 0⟩ } ∧
      (b.reportTaken l before x).loader l =
        { r with
          lapse := if r.heldMode = some .manual then false else r.lapse
          lapseTimer := if r.heldMode = some .manual then some ⟨s.params.driveLapse, 0⟩
            else r.lapseTimer
          holdRefresh := some ⟨500, 0⟩ } ∧
      (b.reportTaken l before x).fleet = s.ordered l .hold := by
  obtain ⟨frame, record, flying, -⟩ := j.engine (before := before) none flight
  obtain ⟨handover, loader, fleet⟩ := State.returnToSettling_flight flying running
  have fanned := State.fanOut_sameBut ((b.checkMoved l before).returnToSettling k) x
  rw [State.reportTaken, moving, State.settleReport_moves flying phase target]
  refine ⟨?_, ?_, ?_⟩
  · rw [fanned.handover, handover, frame.params]
  · rw [fanned.loader, loader, record, frame.params]
  · rw [fanned.fleet, fleet, frame.ordered]

theorem stays (none : cause = none) (flight : s.inFlight l k h)
    (still : ¬ (h.phase = .settling ∧ h.suspended = false ∧ x.stationary = true))
    (moving : ¬ (h.phase = .confirming ∧ h.target = .manual ∧ x.stationary = false)) :
    (b.reportTaken l before x).handover k = some h ∧ (b.reportTaken l before x).loader l = r ∧
      (b.reportTaken l before x).fleet = s.fleet := by
  obtain ⟨frame, record, flying, -⟩ := j.engine (before := before) none flight
  have fanned := State.fanOut_sameBut (b.checkMoved l before) x
  rw [State.reportTaken, State.settleReport_stays flying still moving]
  exact ⟨by rw [fanned.handover, flying.2.2.1], by rw [fanned.loader, record],
    by rw [fanned.fleet, frame.fleet]⟩

/-- In TRANSFER a report leaves every other loader and every other handover. -/
theorem inside (law : s.transferLaw) (holders : s.holderLaw) (flight : s.inFlight l k h) :
    s.otherLoaders l (b.reportTaken l before x) ∧ s.otherHandovers k (b.reportTaken l before x) ∧
      s.sameBut [.loaders, .handovers, .chairs, .lamps, .watch, .queues, .supQueue, .fleet, .zones,
        .closures] (b.reportTaken l before x) := by
  have frame : s.sameBut [.loaders, .handovers, .chairs, .lamps, .watch, .queues, .supQueue, .fleet,
      .zones, .closures] (b.reportTaken l before x) :=
    (j.frame.mono (by simp)).trans ((j.judged.frame.mono (by simp [eventParts])).trans
      (State.reportTaken_sameBut.mono (by simp)))
  cases named : cause with
  | some y =>
    obtain ⟨ended, others⟩ := j.ended (before := before) (x := x) named law holders flight
    obtain ⟨judged, -, -⟩ :=
      j.judged.flight y k h named (j.transferLaw law) (j.holderLaw holders) (j.inFlight flight)
    refine ⟨fun n ne => ?_, others, frame⟩
    rw [(State.reportTaken_out judged.settled).loader, j.judged.others (.inr (j.transferLaw law)) n ne,
      j.others n ne]
  | none =>
    obtain ⟨kept, -, flying, loaders⟩ := j.engine (before := before) named flight
    obtain ⟨settled, handovers⟩ := State.settleReport_apart x.stationary flying
    have fanned := State.fanOut_sameBut ((b.checkMoved l before).settleReport l x.stationary) x
    refine ⟨fun n ne => ?_, fun n ne => ?_, frame⟩
    · rw [State.reportTaken, fanned.loader, settled n ne, loaders n ne]
    · rw [State.reportTaken, fanned.handover, handovers n ne, kept.handover]

theorem zone (settled : (s.loader l).state ≠ .transfer ∨ (s.transferLaw ∧ s.holderLaw)) {z : ZoneId}
    (safe : (s.zone z).closing = none ∨
      (cause = none ∧ (s.loader l).hasAuthority = true ∧ r.inZone z = true)) :
    (b.reportTaken l before x).zone z =
      { s.zone z with
        entered := (s.zone z).entered || (cause.isNone && r.inZone z &&
          ((s.loader l).state == .supervised || (s.loader l).state == .orphaned))
        attention := (s.zone z).attention || (cause.isNone && r.inZone z &&
          (s.loader l).hasAuthority &&
          ((s.zone z).cls == .autoFlagged || (s.zone z).cls == .openFlagged)) } := by
  have place := j.judged.zone before (z := z)
    (by rw [j.state]; exact settled.imp id fun ⟨law, holders⟩ => ⟨j.transferLaw law, j.holderLaw holders⟩)
    (by rw [j.frame.zone, j.hasAuthority, j.record]; exact safe)
  have moving : ((s.loader l).hasAuthority &&
      ((s.loader l).state == .supervised || (s.loader l).state == .orphaned)) =
        ((s.loader l).state == .supervised || (s.loader l).state == .orphaned) := by
    unfold Loader.hasAuthority
    cases (s.loader l).state <;> rfl
  have entered : (cause.isNone && (s.loader l).hasAuthority && r.inZone z && true &&
      ((s.loader l).state == .supervised || (s.loader l).state == .orphaned)) =
        (cause.isNone && r.inZone z &&
          ((s.loader l).state == .supervised || (s.loader l).state == .orphaned)) := by
    rw [← moving]
    ac_rfl
  rw [State.reportTaken_zone, place, j.frame.zone, j.state, j.hasAuthority, j.record, entered]

theorem attention (settled : (s.loader l).state ≠ .transfer ∨ (s.transferLaw ∧ s.holderLaw))
    {z : ZoneId} (safe : (s.zone z).closing = none ∨
      (cause = none ∧ (s.loader l).hasAuthority = true ∧ r.inZone z = true))
    (unset : (s.zone z).attention = false)
    (set_ : ((b.reportTaken l before x).zone z).attention = true) (on : s.params.attention ≠ 0)
    (empty : s.supQueue.frames = []) :
    (b.reportTaken l before x).queued .supervisor ⟨0, .notice (.zoneAttention z (s.zone z).cls l
      ((s.loader l).holder.map (·.chair)) s.seconds)⟩ := by
  rw [State.reportTaken_zone] at set_
  have empty' : (a.queue .supervisor).frames = [] := by
    rw [State.queue, j.frame.supQueue, empty]
  have told := j.judged.attention before (z := z)
    (by rw [j.state]; exact settled.imp id fun ⟨law, holders⟩ => ⟨j.transferLaw law, j.holderLaw holders⟩)
    (by rw [j.frame.zone, j.hasAuthority, j.record]; exact safe)
    (by rw [j.frame.zone]; exact unset) set_ (by rw [j.frame.params]; exact on)
    (by rw [j.frame.supQueue, empty]; simp)
  have tells := (j.judged.tells.trans (b.checkMoved_tells l before)).length (p := .supervisor)
    (by simp [empty', noticeCount])
  have settle := State.settleReport_tells (b.checkMoved l before) l x.stationary
  have length : ((b.checkMoved l before).queue .supervisor).frames.length ≤ 8 := by
    simpa [empty', noticeCount] using tells
  have grown := settle.length (p := .supervisor) (by simp only [noticeCount]; omega)
  have stands := settle.queued (by simp only [noticeCount]; omega) told
  have holder : (a.loader l).holderChair = (s.loader l).holder.map (·.chair) := by
    rw [j.record, Loader.holderChair, j.moves.holder]
  rw [j.frame.zone, holder, j.frame.seconds] at stands
  refine State.fanOut_notice rfl stands ?_
  simp only [noticeCount, State.queue] at grown length ⊢
  omega

/-- The report reaches a chair that watches and had an empty queue: before it only notices join. -/
theorem reaches {c : ChairId} (is_l : x.loader = l) (up : (s.link c).state = .up)
    (watched : s.watch.watches c l = true) (empty : (s.queue (.chair c)).frames = []) :
    (b.reportTaken l before x).queued (.chair c) ⟨0, .report x⟩ := by
  have judged := j.judged.frame
  have moved := b.checkMoved_sameBut l before
  have settle := State.settleReport_sameBut (b.checkMoved l before) l x.stationary
  have empty' : (a.queue (.chair c)).frames = [] := by
    rw [j.frame.queue (.chair c) (by decide) (by decide), empty]
  obtain ⟨fs, length, notices, frames⟩ := ((j.judged.tells.trans
    (b.checkMoved_tells l before)).trans (State.settleReport_tells _ l x.stationary)
      (.chair c)).room (by simp [empty', noticeCount])
  rw [empty', List.nil_append] at frames
  simp only [noticeCount] at length
  refine State.fanOut_queued ?_ ?_ ?_ ?_
  · unfold State.isUp
    rw [settle.link, moved.link, judged.link, j.frame.link, up]
    rfl
  · rw [settle.watch, moved.watch, is_l]
    refine j.judged.watches c l ?_
    rw [j.frame.watch]
    exact watched
  · intro n _ g queued report
    rw [frames] at queued
    have notice := notices g queued
    unfold Frame.isNotice at notice
    unfold Frame.reportOf at report
    split at notice
    · next e => simp [e] at report
    · cases notice
  · rw [frames]
    omega

end State.reportJudged

end

/-- An accepted report is judged from the state that holds it in the record. -/
theorem State.reportJudged_of {s : State} {l : LoaderId} {x : Report} {r : Loader}
    (written : r = (s.loader l).reported x s.params) (before : Option ZoneId) :
    s.reportJudged (s.relocated l (·.reported x s.params))
      (((s.relocated l (·.reported x s.params)).judgeLocal l x).judge l before true) l r
      (if x.onboard = .atMachine then some .atMachine
        else r.position.bind (s.groundCause (s.judgedMode l) before)) := by
  have moves := Loader.reported_relocates (s.loader l) x s.params
  have judged := State.judgeLocal_judgement (s := s.relocated l (·.reported x s.params)) (l := l) x
    before
  rw [State.relocated_recordCause moves, ← written] at judged
  exact
    { record := by rw [State.relocated_loader, written]
      moves := by rw [written]; exact moves
      frame := State.relocated_sameBut
      others := State.relocated_others
      transferLaw := State.relocated_transferLaw moves
      holderLaw := State.relocated_holderLaw moves
      inFlight := State.relocated_inFlight moves
      judged }

/-- Settles O37: the report is written into the record, and the record is judged; the handover of a
loader in TRANSFER takes its stationary value, and the watching chairs take a copy. -/
theorem acceptedReportWritesRecord : Obligations.AcceptedReportWritesRecord := by
  unfold Obligations.AcceptedReportWritesRecord
  intro s tag f l d o m r p cause run here first front_d onboard_o mission_m ahead p_eq r_eq cause_eq
  have report := readReport_some l front_d onboard_o mission_m
  have taken : exec (.statusReport tag f) s = .next (s.takeReport f) :=
    congrArg Host.Outcome.next (s.running_of _ run)
  have position : p = ⟨zoneOf f.zone, chainageOf f.chainage, d⟩ := p_eq
  have accepted : ∃ x : Report, x = ⟨l, f.count, p.zone, p.chainage, d, speedOf f.speed,
      f.stationary != 0, o, m⟩ ∧ s.takeReport f = s.intake l x := by
    refine ⟨_, rfl, ?_⟩
    simp only [State.takeReport, s.loaderAt_some here first, report, newer_true ahead, if_true,
      position]
  obtain ⟨x, x_eq, intake⟩ := accepted
  have written : r = (s.loader l).reported x s.params := by
    rw [r_eq, x_eq, p_eq]
    rfl
  have j := State.reportJudged_of written (s.loader l).zone?
  have named : (if x.onboard = .atMachine then some .atMachine
      else r.position.bind (s.groundCause (s.judgedMode l) (s.loader l).zone?)) = cause := by
    rw [cause_eq, x_eq]
    rfl
  rw [named] at j
  have stationary : x.stationary = (f.stationary != 0) := by rw [x_eq]
  have is_l : x.loader = l := by rw [x_eq]
  rw [intake, s.intake_eq] at taken
  rw [← x_eq]
  clear named report x_eq intake written
  generalize ((s.relocated l (·.reported x s.params)).judgeLocal l x).judge l
    (s.loader l).zone? true = b at taken j
  generalize s.relocated l (·.reported x s.params) = a at j
  generalize (s.loader l).zone? = before at taken
  refine ⟨_, taken, j.calm, fun held => ⟨fun y asked => j.halted asked held, fun none => j.clear none held⟩,
    fun k h law holders flight => ⟨fun y asked => (j.ended asked law holders flight).1,
      fun none => ⟨fun phase running still => ?_, fun phase running target moving => ?_,
        fun still moving => ?_⟩, j.inside law holders flight⟩,
    j.outside, fun settled z safe => ⟨j.zone settled safe, j.attention settled safe⟩,
    fun c up watched empty => j.reaches is_l up watched empty⟩
  · exact j.settles none flight phase running (by simpa [stationary] using still)
  · exact j.returns none flight phase running target (by simpa [stationary] using moving)
  · exact j.stays none flight (by simpa [stationary] using still)
      (by simpa [stationary] using moving)

end Sys2Proof.Machine
end

section
/-! PROOF. The first valid frame on a DOWN chair link (08 R151, 06 R123). -/

namespace Sys2Proof.Machine

-- One theorem after another, so that the compile stays within its memory.
set_option Elab.async false

variable (s : State)

theorem State.newlyPressed_of_calm {s : State} {c : ChairId} {panel : Byte}
    (calm : panelStop panel = true → (s.chair c).stop = true) : s.newlyPressed c panel = false := by
  rw [State.newlyPressed]
  cases pressed : panelStop panel with
  | false => rfl
  | true => rw [calm pressed]; rfl

/-- The notice of a first valid frame: no frame was lost, and no orphan came back. -/
def firstNotice (c : ChairId) (now : Word32) : Notice :=
  .linkRestored c now 0 (Vector.replicate 4 none)

/-- A DOWN link comes UP, and the chair and the supervisor are told (08 R151, 06 R123). -/
theorem State.bringUp_eq (c : ChairId) : s.bringUp c =
    { s with
      links := s.links.set c
        { s.link c with state := .up, silence := some ⟨s.params.linkSilence, 0⟩ }
      queues := s.queues.set c (s.queues[c].join ⟨0, .notice (firstNotice c s.seconds)⟩)
      supQueue := s.supQueue.join ⟨0, .notice (firstNotice c s.seconds)⟩ } := by
  have up : (s.modLink c fun k => { k.restartSilence s.params with state := .up }).isUp c = true := by
    rw [State.isUp, State.modLink_link_self]
    rfl
  rw [State.bringUp, State.tellChair, State.toChair, if_pos up]
  rfl

theorem State.broughtUp_eq {s : State} {c : ChairId} {panel : Byte}
    (calm : panelStop panel = true → (s.chair c).stop = true) :
    (s.bringUp c).takePanel c panel = s.broughtUp c panel := by
  rw [s.bringUp_eq, State.takePanel_calm (by exact calm)]
  rfl

section

variable {s} {c : ChairId} {panel : Byte}

/-- Two states in which a frame of the chair is acted on alike: the one hears it on a DOWN link, the
other on an UP one. -/
theorem State.takeChairFrame_of_down (down : (s.link c).state = .down)
    (calm : panelStop panel = true → (s.chair c).stop = true) (body : State → State) :
    s.takeChairFrame c panel body = body (s.broughtUp c panel) := by
  simp only [State.takeChairFrame, down, State.broughtUp_eq calm]

theorem State.takeRequest_of_down {h : Header} (sender : h.sender = .chair c panel)
    (run : s.inReset = false) (down : (s.link c).state = .down)
    (calm : panelStop panel = true → (s.chair c).stop = true) (body : State → State) :
    s.takeRequest h body = (s.broughtUp c panel).pass (.chair c) body := by
  simp only [State.takeRequest, s.running_of _ run, sender, State.takeChairFrame_of_down down calm]

theorem State.takeRequest_of_hears_chair {h : Header} (sender : h.sender = .chair c panel)
    (hears : s.hears (.chair c panel)) (body : State → State) :
    s.takeRequest h body = (s.heard (.chair c panel)).pass (.chair c) body := by
  simp only [State.takeRequest, s.running_of _ hears.1, sender,
    s.takeChairFrame_of_hears c panel _ hears]

end

/-- Settles O8: the PING's reply joins behind the notice, and any other frame is acted on in a state
that does not tell how the link came to be UP. -/
theorem firstFrameBringsLinkUp : Obligations.FirstFrameBringsLinkUp := by
  unfold Obligations.FirstFrameBringsLinkUp
  intro s h c panel sender run down calm
  have unpressed : s.carriesStop h.sender = false := by
    rw [sender]
    exact State.newlyPressed_of_calm calm
  refine ⟨fun empty => ?_, fun u i frame hears same => ?_⟩
  · have queue : ((s.broughtUp c panel).queue (.chair c)).frames =
        [⟨0, .notice (firstNotice c s.seconds)⟩] := by
      have own : (s.broughtUp c panel).queue (.chair c) =
          (s.queue (.chair c)).join ⟨0, .notice (firstNotice c s.seconds)⟩ :=
        Vector.getElem_set_self _
      rw [own, OutQueue.join_of_room (Frame.notice_newTo _ _ _) (by simp [empty]), empty,
        List.nil_append]
    have room : ((s.broughtUp c panel).queue (.chair c)).fullOfReplies = false := by
      simp [OutQueue.fullOfReplies, queue, Frame.isReply, Config.queueLimit]
    have link : (s.broughtUp c panel).link c =
        { s.link c with state := .up, silence := some ⟨s.params.linkSilence, 0⟩ } :=
      Vector.getElem_set_self _
    have chair : (s.broughtUp c panel).chair c =
        { s.chair c with stop := panelStop panel, neutral := panelNeutral panel } :=
      Vector.getElem_set_self _
    have frame : s.sameBut [.links, .chairs, .queues, .supQueue] (s.broughtUp c panel) := by
      intro p out
      cases p <;> simp_all [Part.same, State.broughtUp]
    have next : exec (.ping h) s = .next ((s.broughtUp c panel).ok h .ping
        (.ping s.seconds (s.link c).errors)) := by
      have passed := State.takeRequest_of_down sender run down calm
        (Instr.taken (.ping h) (s.carriesStop h.sender))
      rw [exec_request (i := .ping h) rfl s, passed, State.pass, if_neg (by simp [room]), unpressed]
      have answered : Instr.taken (.ping h) false (s.broughtUp c panel) =
          (s.broughtUp c panel).ok h .ping (.ping (s.broughtUp c panel).seconds
            ((s.broughtUp c panel).errorsOf h.sender)) := rfl
      rw [answered, sender, State.errorsOf, link, frame.seconds]
    have port : h.sender.port = .chair c := by rw [sender]; rfl
    have joined : (s.broughtUp c panel).ok h .ping (.ping s.seconds (s.link c).errors) =
        (s.broughtUp c panel).modQueue (.chair c)
          (·.join ⟨h.tag, .reply .ping (.ok (.ping s.seconds (s.link c).errors))⟩) := by
      rw [State.ok, State.answer, port]
    rw [joined] at next
    refine ⟨_, next, link, ?_, rfl, ?_, ?_, fun d ne => ⟨?_, ?_⟩, ?_⟩
    · rw [State.modQueue_queue_self, OutQueue.join_of_room (OutQueue.newTo_of_not_report rfl)
        (by simp [queue]), queue]
      rfl
    · rw [State.modQueue_chair, chair]
    · rw [State.modQueue_chair, chair]
    · exact State.modLink_link_ne s ne fun _ => _
    · exact State.modChair_chair_ne s ne fun _ => _
    · exact frame.trans ((State.modQueue_sameBut _ _ _).mono (by simp))
  · rcases frame with header | ⟨tag, f, rfl⟩
    · have heard : u.carriesStop h.sender = false := by
        rw [sender]
        exact u.carriesStop_of_hears _ hears
      rw [exec_request header s, exec_request header u, unpressed, heard,
        State.takeRequest_of_down sender run down calm,
        State.takeRequest_of_hears_chair sender hears, same]
    · have gate : exec (.driveFrame c panel tag f) s =
          .next (s.running fun s => s.takeChairFrame c panel fun s => s.takeDrive c f) := rfl
      rw [u.execDriveFrame_of_hears tag f hears, gate, s.running_of _ run,
        State.takeChairFrame_of_down down calm, same]

end Sys2Proof.Machine
end

section
/-! PROOF. A frame is read as the command that it encodes (08 R146, R147; 10 R172 to R174). -/

namespace Sys2Proof

-- One theorem after another, so that the compile stays within its memory.
set_option Elab.async false

/-- The two bytes of a field carry it (10 R173). -/
@[simp] theorem word16_bytes (w : Word16) : word16 (highByte w) (lowByte w) = w := by
  refine BitVec.eq_of_getLsbD_eq fun i hi => ?_
  refine (BitVec.getLsbD_append (n := 8) (m := 8)).trans ?_
  simp only [highByte, lowByte, BitVec.getLsbD_extractLsb']
  split
  · simp [*]
  · rw [show 8 + (i - 8) = i by omega]
    simp
    omega

/-! ## A whole frame -/

section

variable {link : Link} {kind tag : Byte} {content : List Byte}

/-- The Length of a frame, and that the link carries it toward the switch (08 R146). -/
structure Link.fits (link : Link) (content : List Byte) : Prop where
  least : link.minLength ≤ 2 + content.length
  most : content.length ≤ 58

theorem Link.fits.length (fits : link.fits content) :
    (BitVec.ofNat 8 (2 + content.length)).toNat = 2 + content.length := by
  have most := fits.most
  rw [BitVec.toNat_ofNat, Nat.mod_eq_of_lt (by omega)]

theorem Link.fits.carries (fits : link.fits content) :
    link.carries (BitVec.ofNat 8 (2 + content.length)) = true := by
  have most := fits.most
  have least := fits.least
  simp only [Link.carries, fits.length, Bool.and_eq_true, decide_eq_true_eq]
  omega

/-- The bytes of a frame from its Length through its check (10 R172). -/
def afterStart (kind tag : Byte) (content : List Byte) : List Byte :=
  checkedPart kind tag content ++ bytes16 (checkOf (checkedPart kind tag content))

/-- The bytes of a frame between its Length and its check. -/
def frameBody (kind tag : Byte) (content : List Byte) : List Byte := kind :: tag :: content

/-- The two bytes of the check of a frame. -/
def frameCheck (kind tag : Byte) (content : List Byte) : Word16 :=
  checkOf (checkedPart kind tag content)

theorem afterStart_eq (kind tag : Byte) (content : List Byte) : afterStart kind tag content =
    BitVec.ofNat 8 (2 + content.length) :: (frameBody kind tag content ++
      [highByte (frameCheck kind tag content), lowByte (frameCheck kind tag content)]) := rfl

theorem frameBody_length (kind tag : Byte) (content : List Byte) :
    (frameBody kind tag content).length = 2 + content.length := by
  rw [frameBody, List.length_cons, List.length_cons]
  omega

/-- A frame whose Length the link carries agrees with its check and says its content. -/
theorem readChecked_frame (fits : link.fits content) :
    readChecked link (afterStart kind tag content) = contentOf link kind tag content := by
  have length : (frameBody kind tag content).length =
      (BitVec.ofNat 8 (2 + content.length)).toNat := by
    rw [fits.length, frameBody_length]
  have body := List.take_left' (l₂ := [highByte (frameCheck kind tag content),
    lowByte (frameCheck kind tag content)]) length
  have check := List.drop_left' (l₂ := [highByte (frameCheck kind tag content),
    lowByte (frameCheck kind tag content)]) length
  rw [afterStart_eq, readChecked]
  simp only [body, check]
  refine if_pos ⟨fits.carries, length, ?_⟩
  rw [word16_bytes]
  rfl

/-! ## The bytes arrive one by one -/

/-- A byte without a character error that follows without delay. -/
def promptByte (b : Byte) : LineByte := ⟨some b, false⟩

/-- An interface that has the Length completes the frame with the last of the bytes it needs. -/
theorem Receiver.takeAll_taking (got rest : List Byte) (last : Byte) :
    (Receiver.taking got (rest.length + 1)).takeAll link ((rest ++ [last]).map promptByte) =
      (.hunting, [(readChecked link (got ++ (rest ++ [last]))).getD (.badFrame link)]) := by
  induction rest generalizing got with
  | nil => rfl
  | cons b rest ih =>
    have next := ih (got ++ [b])
    rw [List.append_assoc] at next
    have more : ¬ (b :: rest).length + 1 ≤ 1 := by simp
    have takes : (Receiver.taking got ((b :: rest).length + 1)).take link (promptByte b) =
        (.taking (got ++ [b]) (rest.length + 1), none) := by
      simp only [Receiver.take, promptByte, if_neg more]
      rfl
    simp only [List.cons_append, List.map_cons, Receiver.takeAll, takes, next]
    rfl

/-- The interface assembles a frame whose Length the link carries. -/
theorem Receiver.takeAll_frame (fits : link.fits content) :
    Receiver.hunting.takeAll link ((frameBytes kind tag content).map promptByte) =
      (.hunting, [(readChecked link (afterStart kind tag content)).getD (.badFrame link)]) := by
  let w := frameCheck kind tag content
  have need : (BitVec.ofNat 8 (2 + content.length)).toNat + 2 =
      (frameBody kind tag content ++ [highByte w]).length + 1 := by
    rw [fits.length, List.length_append, frameBody_length]
    rfl
  have bytes : frameBytes kind tag content = startByte :: BitVec.ofNat 8 (2 + content.length) ::
      (frameBody kind tag content ++ [highByte w] ++ [lowByte w]) := by
    rw [List.append_assoc]
    rfl
  have begins : Receiver.hunting.take link (promptByte startByte) = (.started, none) := rfl
  have length : Receiver.started.take link (promptByte (BitVec.ofNat 8 (2 + content.length))) =
      (.taking [BitVec.ofNat 8 (2 + content.length)]
        ((frameBody kind tag content ++ [highByte w]).length + 1), none) := by
    simp only [Receiver.take, promptByte, fits.carries, if_true, need]
  have completes := Receiver.takeAll_taking (link := link) [BitVec.ofNat 8 (2 + content.length)]
    (frameBody kind tag content ++ [highByte w]) (lowByte w)
  rw [bytes, List.map_cons, List.map_cons]
  simp only [Receiver.takeAll, begins, length, completes]
  rw [afterStart_eq, List.append_assoc]
  rfl

end

/-! ## What a command's frame says -/

/-- The bytes are a frame of the command on the link, read whole or byte by byte. -/
def Instr.readsFrom (i : Instr) (link : Link) (bytes : List Byte) : Prop :=
  readFrame link bytes = some i ∧
    Receiver.hunting.takeAll link (bytes.map promptByte) = (.hunting, [i])

theorem Instr.readsFrom_frame {i : Instr} {link : Link} {kind tag : Byte} {content : List Byte}
    (fits : link.fits content) (means : contentOf link kind tag content = some i) :
    i.readsFrom link (frameBytes kind tag content) := by
  have whole : readFrame link (frameBytes kind tag content) =
      readChecked link (afterStart kind tag content) := by
    simp only [readFrame, frameBytes, if_true]
    rfl
  refine ⟨by rw [whole, readChecked_frame fits, means], ?_⟩
  rw [Receiver.takeAll_frame fits, readChecked_frame fits, means]
  rfl

/-- A request's frame carries its kind and its payload behind the panel byte of a chair. -/
theorem Instr.readsFrom_request {i : Instr} {h : Header} {kind : Byte} {payload : List Byte}
    (apart : kind ≠ 0x30) (short : payload.length ≤ 5) (means : requestOf h kind payload = some i) :
    i.readsFrom h.sender.link (frameBytes kind h.tag (h.sender.panelBytes ++ payload)) := by
  obtain ⟨sender, tag⟩ := h
  cases sender with
  | chair c panel =>
    refine Instr.readsFrom_frame ⟨?_, ?_⟩ ?_
    · simp only [Sender.link, Link.minLength, Sender.panelBytes, List.length_append,
        List.length_singleton]
      omega
    · simp only [Sender.panelBytes, List.length_append, List.length_singleton]
      omega
    · exact (if_neg apart).trans means
  | supervisor =>
    refine Instr.readsFrom_frame ⟨?_, ?_⟩ means
    · simp [Sender.link, Link.minLength]
    · simp only [Sender.panelBytes, List.nil_append]
      omega

/-- Every request is encoded under a kind and with a payload that are read as the request. -/
theorem Instr.encodeFrame_request {i : Instr} {h : Header} (header : i.header? = some h)
    (sound : i.wellFormed = true) : ∃ kind payload, encodeFrame i = encodeRequest h kind payload ∧
      kind ≠ 0x30 ∧ payload.length ≤ 5 ∧ requestOf h kind payload = some i := by
  cases i <;> cases header
  case modeToManual loader mode =>
    have other : ¬ mode = 1 := by simpa [Instr.wellFormed] using sound
    exact ⟨_, _, rfl, by decide, by simp, by simpa [requestOf, payload2] using other⟩
  all_goals
    exact ⟨_, _, rfl, by decide, by simp [bytes16], by simp [requestOf, bytes16, payload1, payload2,
      payload3, payload4, payload5]⟩

end Sys2Proof

namespace Sys2Proof.Machine

/-- Settles O55: a request's frame, a drive frame and a report each carry what the reader takes
from their places, and no other command has a frame. -/
theorem framesDecodeAsEncoded : Obligations.FramesDecodeAsEncoded := by
  unfold Obligations.FramesDecodeAsEncoded
  intro i link bytes sound encoded
  suffices i.readsFrom link bytes from this
  cases header : i.header? with
  | some h =>
    obtain ⟨kind, payload, encodes, apart, short, means⟩ := Instr.encodeFrame_request header sound
    rw [encodes] at encoded
    cases encoded
    exact Instr.readsFrom_request apart short means
  | none =>
    cases i <;> cases header <;> cases encoded
    · next c panel tag f =>
      refine Instr.readsFrom_frame ⟨by simp [Link.minLength, bytes16], by simp [bytes16]⟩ ?_
      simp [contentOf, driveOf, bytes16]
    · next tag f =>
      refine Instr.readsFrom_frame ⟨by simp [Link.minLength, bytes16], by simp [bytes16]⟩ ?_
      simp [contentOf, statusOf, bytes16]

end Sys2Proof.Machine
end
